-- ==== Sys2Proof/Word.lean ====
section
/-! DEFINITION. The word types of the engine: what the spec treats as bits or as a number that wraps. -/

namespace Sys2Proof

/-- One byte of a frame. -/
abbrev Byte := BitVec 8

/-- A belt position, taken modulo 2^24 (00_scope.md, Belt positions). -/
abbrev Position := BitVec 24

/-- A 16-bit number that wraps: engine and camera line numbers, line offsets, object numbers
(00_scope.md, Numbers that wrap). -/
abbrev LineNo := BitVec 16

/-- A check word, a tag. -/
abbrev Word16 := BitVec 16

/-- A statistics counter, a response detail, a notice word. -/
abbrev Word32 := BitVec 32

/-- A class code 0 ~ 15 (00_scope.md, Samples and classes). -/
abbrev ClassCode := Fin 16

end Sys2Proof
end

