-- ==== Sys2Proof/Syntax.lean ====
section
/-! DEFINITION. The commands of the engine: one constructor of `Instr` for each row of
spec/opcode_table.json, and the types of their operands. -/

namespace Sys2Proof

/-- An encoder channel (01, section 1.2). -/
inductive Channel where
  | a | b | z
  deriving DecidableEq, Repr

/-- The change or changes of level that are accepted at one moment (R3, R4); `true` is high.
A and B may be accepted together, without the decoder acting on the pair between them (R4). -/
inductive Accepted where
  | a (level : Bool)
  | b (level : Bool)
  | ab (levelA levelB : Bool)
  | z (level : Bool)
  deriving DecidableEq, Repr

/-- The header fields of a frame other than its type and its payload length (12.1). -/
structure Header where
  destKind : Byte
  destValue : Byte
  source : Byte
  tag : Word16
  flags : Byte
  deriving DecidableEq, Repr

/-- A good frame: type, header fields, payload. Its payload length field and its CRC are functions
of these (R179); Layouts.lean gives its bytes. -/
structure Frame where
  ftype : Byte
  hdr : Header
  payload : List Byte
  deriving DecidableEq, Repr

/-- A lane on which the engine receives. -/
inductive Lane where
  | di | ri
  deriving DecidableEq, Repr

/-- Symbols received on DI that make no good frame (R179, R185): idle symbols, the start symbol of a
frame with what follows it, further symbols of a frame that has begun. -/
inductive Symbols where
  | idle | frameBegins | frameGoesOn
  deriving DecidableEq, Repr

/-- The block whose ejection request is taken (R104). -/
inductive Requester where
  | verdictUnit | objectAssembler
  deriving DecidableEq, Repr

/-- The six fault causes (09, section 9.10). -/
inductive FaultCause where
  | syncFailed | beltReverse | encoderFault | valveLinkLost | linkDown | chainChanged
  deriving DecidableEq, Repr

/-- A product bank (R142). -/
inductive Bank where
  | a | b
  deriving DecidableEq, Repr

/-- The commands: one constructor per row of spec/opcode_table.json.
A row that is a frame on DI carries the frame's header fields and its payload bytes; a row that is a
command of 09 section 9.4 carries the bytes after the command code. -/
inductive Instr where
  | encoderEdgeAccepted (acc : Accepted)
  | stallTimerExpiry
  | missingIndex
  | lineTrigger
  | lineFrame (h : Header) (payload : List Byte)
  | slotDue
  | huntTimeout
  | slotDelivery
  | calibrateCompletion
  | lineAssemblyCompletion
  | closeAll
  | closingToVq
  | vqTake
  | evaluationCompletion
  | ejectionRequest (src : Requester)
  | holdoffExpiry (valve : Nat)
  | thermalTick
  | valveTrip (valve : Nat)
  | valveControlDisable (h : Header) (params : List Byte)
  | valveControlEnable (h : Header) (params : List Byte)
  | valveTest (h : Header) (params : List Byte)
  | valveTestExpiry
  | imageStart
  | imageTransmissionEnd
  | statusFrame (bytes : List Byte)
  | answerWindowClose
  | nop (h : Header) (params : List Byte)
  | badOpcode (h : Header) (payload : List Byte)
  | commandsDropped (h : Header) (payload : List Byte)
  | readStatus (h : Header) (params : List Byte)
  | readCounters (h : Header) (params : List Byte)
  | readConfig (h : Header) (params : List Byte)
  | blockRead (h : Header) (params : List Byte)
  | abort (h : Header) (params : List Byte)
  | resync (h : Header) (params : List Byte)
  | configure (h : Header) (params : List Byte)
  | cctWrite (h : Header) (params : List Byte)
  | cctFill (h : Header) (params : List Byte)
  | nbtWrite (h : Header) (params : List Byte)
  | rrtWrite (h : Header) (params : List Byte)
  | vmtWrite (h : Header) (params : List Byte)
  | ccalWrite (h : Header) (params : List Byte)
  | blockMarkBad (h : Header) (params : List Byte)
  | blockMarkRecheck (h : Header) (params : List Byte)
  | bankCopy (h : Header) (params : List Byte)
  | bankCopyStep
  | bankSwap (h : Header) (params : List Byte)
  | swapAtQuietPoint
  | swapForced
  | scrubCheck
  | calibrate (h : Header) (params : List Byte)
  | start (h : Header) (params : List Byte)
  | stop (h : Header) (params : List Byte)
  | drainRunOut
  | clearFault (h : Header) (params : List Byte)
  | faultEntry (cause : FaultCause)
  | laterCause (cause : FaultCause)
  | frameNotGood (lane : Lane) (bytes : List Byte) (cutOff : Bool)
  | forwardedFrame (f : Frame)
  | enum (h : Header) (payload : List Byte)
  | linkReset (h : Header) (payload : List Byte)
  | pause (h : Header) (payload : List Byte)
  | pauseTimerExpiry
  | passBufferEntry (f : Frame)
  | pauseRepeatExpiry
  | doFrameBoundary
  | roTransmissionEnd
  | silenceTimerExpiry
  | powerOnReset
  | encoderInputChange (ch : Channel) (level : Bool)
  | diSymbolReceived (sym : Symbols)
  | cctEntryChange (bank : Bank) (index : Nat) (code : ClassCode)
  deriving DecidableEq, Repr

end Sys2Proof
end

