-- ==== Sys2Proof/Config.lean ====
section
/-! DEFINITION. What the spec leaves open: the free values. They have no body, so nothing can be
proved of the value they take. -/

namespace Sys2Proof

/-- Whether a time left that is no whole number of the unit READ_STATUS carries it in is carried as
the next whole number above (`true`) or below (`false`). R201 gives the field's width and the unit,
and no rounding: a free value of the time left in units of 0.1 us (log 6). -/
opaque Config.timeLeftRoundsUp : Nat → Bool

end Sys2Proof
end

