-- ==== Sys2Proof/Machine/State.lean ====
section
/-! DEFINITION. The state of the engine, block by block as 00_scope.md lists the blocks, the reasons a
step can stop, and the machine right after the power-on reset. All of it is plain data. -/

namespace Sys2Proof.Machine

/-! ## Names: states, causes, statuses -/

/-- Engine state (09, section 9.2). -/
inductive EngineState where
  | offline | standby | sorting | draining | fault
  deriving DecidableEq, Repr

/-- Belt state (R7). -/
inductive BeltState where
  | stopped | moving | reversing
  deriving DecidableEq, Repr

/-- Sync state (02, section 2.7). -/
inductive SyncState where
  | locked | hunt1 | hunt2 | failed
  deriving DecidableEq, Repr

/-- Cause carried by a SYNC_HUNT notice (R31, R34; 12.5). -/
inductive HuntCause where
  | loss | resync | clearFault | enumNumbering | timeout
  deriving DecidableEq, Repr

/-- State of a ring slot that is not FREE (02, section 2.2). -/
inductive SlotState where
  | filling | complete | partialLine | lost | assembling
  deriving DecidableEq, Repr

/-- State of a CCT block (R143). -/
inductive BlockState where
  | unwritten | valid | bad
  deriving DecidableEq, Repr

/-- What disabled a valve (07, section 7.1). -/
inductive DisableCause where
  | soft | coil
  deriving DecidableEq, Repr

/-- Valve state, with the disable cause where it is present (07, section 7.2). -/
inductive ValveState where
  | idle | on | holdoff | tripped
  | disabled (cause : DisableCause)
  deriving DecidableEq, Repr

/-- Valve Port phase (07, section 7.8). -/
inductive PortPhase where
  | free | sending | awaiting
  deriving DecidableEq, Repr

/-- Valve Port link state (07, section 7.1). -/
inductive ValveLink where
  | up | lost
  deriving DecidableEq, Repr

/-- Scan Link link state (10, section 10.1). -/
inductive LinkState where
  | up | down
  deriving DecidableEq, Repr

/-- RO preference (R190). -/
inductive Preference where
  | pass | report
  deriving DecidableEq, Repr

/-- A flag policy (R87). -/
inductive Policy where
  | evaluate | reject | accept
  deriving DecidableEq, Repr

/-- oot_full_action (R73). -/
inductive OotFullAction where
  | pass | blind
  deriving DecidableEq, Repr

/-- overlap_policy (R105). -/
inductive OverlapPolicy where
  | merge | refuse | separate
  deriving DecidableEq, Repr

/-- report_mode (R94). -/
inductive ReportMode where
  | none | rejects | all
  deriving DecidableEq, Repr

/-- Measure of a class mask (R88). -/
inductive Measure where
  | count | share
  deriving DecidableEq, Repr

/-- Action of a rule, or default action (R146). -/
inductive RuleAction where
  | accept | reject
  deriving DecidableEq, Repr

/-- The 23 commands of 09 section 9.4. -/
inductive Command where
  | nop | readStatus | readCounters | readConfig | blockRead | abort | resync
  | configure | cctWrite | cctFill | nbtWrite | rrtWrite | vmtWrite | ccalWrite | blockMark
  | bankCopy | bankSwap | calibrate | start | stop | clearFault | valveControl | valveTest
  deriving DecidableEq, Repr

/-- Status of a response (12.3). -/
inductive Status where
  | ok | busy | badState | badOpcode | badLength | badParam | badCheck | bankIncomplete
  | bankHasBad | notLocked | valveLink | valveHot | valveState | calUnsteady | calRange
  | calLineLoss | aborted | nothingToAbort
  deriving DecidableEq, Repr

/-- The 54 statistics counters, in index order (R196). -/
inductive Counter where
  | objectsOpened | objectsRejected | objectsAccepted | objectsDiscarded | objectsAbandoned
  | objectsMerged | linesAssembled | linesBridged | linesPartial | linesLost | lineOverruns
  | lineTriggers | framesEarly | framesStale | duplicateColumns | badBlockPixels | nirOverrides
  | overflowPixels | unassignedPixels | ootFullEvents | blindRequests | noValve
  | ejectionsFired | ejectionsLate | ejectionsMerged | ejectionsRefusedOverlap
  | ejectionsRefusedFull | ejectionsMissedLate | ejectionsMissedAelFull | ejectionsMissedFlush
  | aelWaits | valveTrips | valveDelays | valveSkipped | valveCoilFaults | valveLinkLosses
  | valveStatusErrors | encoderGlitches | reverseLimitHits | encoderSlips | encoderFaults
  | swapsCompleted | swapsForced | scrubMismatches | faultsWhileFaulted | crcErrors | forwardDrops
  | returnOverflow | pausesSent | pausesReceived | linkDowns | reportsDropped | noticesDropped
  | commandsDropped
  deriving DecidableEq, Repr

/-! ## Configuration record (09, section 9.6) -/

/-- The configuration record, in position order (R168). -/
structure Configuration where
  group : Nat
  ownFirst : Nat
  ownLast : Nat
  guard : Nat
  linePitch : Nat
  ltrigEnable : Bool
  edgeFilter : Nat
  stallTimeout : Nat
  reverseLimit : Nat
  revCounts : Nat
  revTolerance : Nat
  latencyLines : Nat
  maxObjectLines : Nat
  ootFullAction : OotFullAction
  policyLineLoss : Policy
  policyMixed : Policy
  policyTruncated : Policy
  policyOversize : Policy
  policyPartial : Policy
  policyGap : Policy
  flightOffset : Nat
  preMargin : Nat
  postMargin : Nat
  valveLatency : Nat
  overlapPolicy : OverlapPolicy
  holdoff : Nat
  heatStep : Nat
  tripLevel : Nat
  rearmLevel : Nat
  scrubInterval : Nat
  swapDeadline : Nat
  reportMode : ReportMode
  calTargetR : Nat
  calTargetG : Nat
  calTargetB : Nat
  calTargetN : Nat
  calTolerance : Nat
  deriving DecidableEq, Repr

/-- The power-on values of 09 section 9.6. -/
def Configuration.powerOn : Configuration where
  group := 0
  ownFirst := 1
  ownLast := 0
  guard := 8
  linePitch := 4
  ltrigEnable := false
  edgeFilter := 2
  stallTimeout := 20
  reverseLimit := 256
  revCounts := 0
  revTolerance := 8
  latencyLines := 3
  maxObjectLines := 64
  ootFullAction := .blind
  policyLineLoss := .reject
  policyMixed := .evaluate
  policyTruncated := .reject
  policyOversize := .reject
  policyPartial := .evaluate
  policyGap := .evaluate
  flightOffset := 0
  preMargin := 8
  postMargin := 8
  valveLatency := 0
  overlapPolicy := .merge
  holdoff := 20
  heatStep := 4
  tripLevel := 4000
  rearmLevel := 400
  scrubInterval := 16
  swapDeadline := 32
  reportMode := .none
  calTargetR := 200
  calTargetG := 200
  calTargetB := 200
  calTargetN := 200
  calTolerance := 24

/-! ## Belt Position Unit (01, section 1.1) -/

/-- The Belt Position Unit. The filter times left are in ns, the other times in 0.1 us.
Between two commands the decoder's reference pair (R4) is the filtered pair itself. -/
structure Bpu where
  inA : Bool
  inB : Bool
  inZ : Bool
  fltA : Bool
  fltB : Bool
  fltZ : Bool
  timA : Option Nat
  timB : Option Nat
  timZ : Option Nat
  travel : Position
  debt : Nat
  stallFlag : Bool
  stallTimer : Option Nat
  pitch : Nat
  line : LineNo
  triggerPos : Position
  triggerTime : Option Nat
  period : Option Nat
  armed : Bool
  indexAdvances : Nat
  mismatchRun : Nat
  ltrigPulses : Nat
  deriving DecidableEq, Repr

/-- The BPU after either reset, with the input levels present (R20). -/
def Bpu.reset (a b z : Bool) : Bpu where
  inA := a
  inB := b
  inZ := z
  fltA := a
  fltB := b
  fltZ := z
  timA := none
  timB := none
  timZ := none
  travel := 0
  debt := 0
  stallFlag := true
  stallTimer := none
  pitch := 0
  line := 0
  triggerPos := 0
  triggerTime := none
  period := none
  armed := false
  indexAdvances := 0
  mismatchRun := 0
  ltrigPulses := 0

/-! ## Line Intake Unit (02, sections 2.1 and 2.2) -/

/-- A pixel sample (00_scope.md, Samples and classes). -/
structure Sample where
  r : Byte
  g : Byte
  b : Byte
  n : Byte
  deriving DecidableEq, Repr

/-- A ring slot that is not FREE. `samples` holds one entry per window offset; an entry is present
when the offset is in the received set. `due` says that the line's deadline has come at the present
trigger and the slot has not yet settled (R27). -/
structure RingSlot where
  index : Nat
  state : SlotState
  line : LineNo
  position : Position
  samples : List (Option Sample)
  lostBefore : Nat
  nosync : Bool
  due : Bool
  deriving DecidableEq, Repr

/-- The Line Intake Unit: the slots that are not FREE in allocation order, oldest first, the FREE
slots' indices, oldest freed first, and the sync state. -/
structure Liu where
  busy : List RingSlot
  freeOrder : List Nat
  pendingLost : Nat
  offset : LineNo
  sync : SyncState
  consecutiveLoss : Nat
  completeRun : Nat
  huntCount : Nat
  realignPending : Bool
  deriving DecidableEq, Repr

/-- The LIU after either reset (R39). -/
def Liu.reset : Liu where
  busy := []
  freeOrder := [0, 1, 2, 3, 4, 5, 6, 7]
  pendingLost := 0
  offset := 0
  sync := .failed
  consecutiveLoss := 0
  completeRun := 0
  huntCount := 0
  realignPending := false

/-! ## Calibration capture (03, section 3.6) -/

/-- Accumulators of one channel at one window offset. -/
structure Accumulator where
  sum : Nat
  minimum : Nat
  maximum : Nat
  deriving DecidableEq, Repr

/-- Accumulators of one window offset, per channel. -/
structure ColumnCapture where
  r : Accumulator
  g : Accumulator
  b : Accumulator
  n : Accumulator
  deriving DecidableEq, Repr

/-- The capture state of CALIBRATE; it exists only while CALIBRATE executes. -/
structure Capture where
  captured : Nat
  skipped : Nat
  columns : List ColumnCapture
  deriving DecidableEq, Repr

/-! ## Object Assembler (04, sections 4.1 and 4.2) -/

/-- The eight flags of an object record. -/
structure ObjectFlags where
  merged : Bool
  mixed : Bool
  truncated : Bool
  oversize : Bool
  cont : Bool
  gap : Bool
  partialLine : Bool
  lineLoss : Bool
  deriving DecidableEq, Repr

/-- An object record; `histogram` holds 16 counts, class 0 first. -/
structure ObjectRecord where
  number : LineNo
  startLine : LineNo
  startPos : Position
  lastLine : LineNo
  lastPos : Position
  colMin : Nat
  colMax : Nat
  area : Nat
  histogram : List Nat
  generation : Byte
  flags : ObjectFlags
  deriving DecidableEq, Repr

/-- A slot of the Open Object Table (R55). -/
inductive OotSlot where
  | free
  | opened (o : ObjectRecord)
  | closing (o : ObjectRecord)
  deriving DecidableEq, Repr

/-- An entry of the Previous Line Run List; the label is an OOT slot or none (R63). -/
structure PlrRun where
  first : Nat
  last : Nat
  label : Option Nat
  deriving DecidableEq, Repr

/-- The line in assembly: a slot taken with its class row and its generation stamp (R40, R56). -/
structure LineInAssembly where
  slot : Nat
  line : LineNo
  position : Position
  isPartial : Bool
  lostBefore : Nat
  generation : Byte
  classRow : List ClassCode
  deriving DecidableEq, Repr

/-- The Object Assembler. `closeAllDue`: a close-all request has been handed over while a line is in
assembly, and neither it nor the line's completion has been taken yet (R76). -/
structure Oas where
  plr : List PlrRun
  oot : List OotSlot
  closingOrder : List Nat
  numberCounter : LineNo
  lostRun : Nat
  lineInAssembly : Option LineInAssembly
  closeAllDue : Bool
  deriving DecidableEq, Repr

/-- The OAS after either reset (R82). -/
def Oas.reset : Oas where
  plr := []
  oot := List.replicate 96 .free
  closingOrder := []
  numberCounter := 0
  lostRun := 0
  lineInAssembly := none
  closeAllDue := false

/-! ## Verdict Unit (05, section 5.1) -/

/-- The Verdict Unit; it is IDLE when no object is under evaluation. -/
structure Vdu where
  vq : List ObjectRecord
  evaluating : Option ObjectRecord
  deriving DecidableEq, Repr

/-! ## Ejection Scheduler (06, sections 6.1 and 6.2) -/

/-- Source of a request or a record. -/
inductive EjectionSource where
  | object (number : LineNo)
  | blind
  deriving DecidableEq, Repr

/-- An ejection request (R100). -/
structure EjectionRequest where
  source : EjectionSource
  valveFirst : Nat
  valveLast : Nat
  openPos : Position
  closePos : Position
  deriving DecidableEq, Repr

/-- An ejection record. `waited`: the activation test has found it waiting before (R115). -/
structure EjectionRecord where
  source : EjectionSource
  valveFirst : Nat
  valveLast : Nat
  openPos : Position
  closePos : Position
  mergedCount : Nat
  late : Bool
  blind : Bool
  merged : Bool
  waited : Bool
  deriving DecidableEq, Repr

/-- The Ejection Scheduler, with the requests handed over and not yet taken (R104). -/
structure Ejs where
  eq : List EjectionRecord
  ael : List (Option EjectionRecord)
  vduRequests : List EjectionRequest
  oasRequests : List EjectionRequest
  deriving DecidableEq, Repr

/-- The EJS after either reset (R120). -/
def Ejs.reset : Ejs where
  eq := []
  ael := List.replicate 16 none
  vduRequests := []
  oasRequests := []

/-! ## Valve Controller (07, section 7.1) -/

/-- A valve record. `tripDue`: the present thermal tick has left the valve at or above trip_level
while ON, and the trip has not been made yet (R128). The holdoff timer is in 0.1 us. -/
structure Valve where
  state : ValveState
  refCount : Nat
  holdoff : Option Nat
  delayMark : Bool
  thermal : Nat
  coilFault : Bool
  tripDue : Bool
  deriving DecidableEq, Repr

/-- A valve after either reset (R141). -/
def Valve.reset : Valve where
  state := .idle
  refCount := 0
  holdoff := none
  delayMark := false
  thermal := 0
  coilFault := false
  tripDue := false

/-- A running valve test (R131); the time left is in 0.1 us. -/
structure ValveTest where
  valve : Nat
  left : Nat
  deriving DecidableEq, Repr

/-- The Valve Controller. `image` is the Valve Image frame whose transmission or answer window is
under way. -/
structure Vlc where
  valves : List Valve
  test : Option ValveTest
  nextSequence : Byte
  awaited : Option Byte
  phase : PortPhase
  answerLeft : Option Nat
  image : Option (List Byte)
  imageDue : Bool
  refresh : Nat
  missCount : Nat
  link : ValveLink
  deriving DecidableEq, Repr

/-- The VLC after either reset (R141). -/
def Vlc.reset : Vlc where
  valves := List.replicate 64 Valve.reset
  test := none
  nextSequence := 0
  awaited := none
  phase := .free
  answerLeft := none
  image := none
  imageDue := true
  refresh := 0
  missCount := 0
  link := .lost

/-! ## Table Store (08, section 8.1) -/

/-- A CCT block (08, section 8.2.1): 256 codes, check word, block state. -/
structure CctBlock where
  codes : List ClassCode
  check : Word16
  state : BlockState
  deriving DecidableEq, Repr

/-- A CCT block after a power-on reset (R143). -/
def CctBlock.powerOn : CctBlock where
  codes := List.replicate 256 0
  check := 0
  state := .unwritten

/-- An entry of the NIR Band Table (R145). -/
structure NbtEntry where
  low : Nat
  high : Nat
  override : ClassCode
  deriving DecidableEq, Repr

/-- The coincidence term of a rule (R146); a class mask is 16 bits, bit c for class c. -/
structure Coincidence where
  mask : Word16
  measure : Measure
  threshold : Nat
  deriving DecidableEq, Repr

/-- A rule of the Reject Rule Table (R146). -/
structure Rule where
  enabled : Bool
  mask : Word16
  measure : Measure
  threshold : Nat
  coincidence : Option Coincidence
  areaMin : Nat
  areaMax : Nat
  action : RuleAction
  deriving DecidableEq, Repr

/-- A rule after a power-on reset (R146). -/
def Rule.powerOn : Rule where
  enabled := false
  mask := 0
  measure := .count
  threshold := 0
  coincidence := none
  areaMin := 0
  areaMax := 65535
  action := .accept

/-- A product bank (R142): 128 CCT blocks, 16 NBT entries, 16 rules and the default action. -/
structure ProductBank where
  cct : List CctBlock
  nbt : List NbtEntry
  rules : List Rule
  default : RuleAction
  deriving DecidableEq, Repr

/-- A bank after a power-on reset (R145, R146, R162). -/
def ProductBank.powerOn : ProductBank where
  cct := List.replicate 128 CctBlock.powerOn
  nbt := (List.range 16).map (fun v => { low := 0, high := 255, override := Fin.ofNat 16 v })
  rules := List.replicate 16 Rule.powerOn
  default := .accept

/-- Dark offset and gain of one channel (R152); the gain is read as gain / 256. -/
structure ChannelCal where
  dark : Nat
  gain : Nat
  deriving DecidableEq, Repr

/-- A Column Calibration Table entry (R152). -/
structure ColumnCal where
  r : ChannelCal
  g : ChannelCal
  b : ChannelCal
  n : ChannelCal
  deriving DecidableEq, Repr

/-- A CCal entry after a power-on reset (R152). -/
def ColumnCal.powerOn : ColumnCal :=
  let c : ChannelCal := { dark := 0, gain := 256 }
  { r := c, g := c, b := c, n := c }

/-- A pending swap (R158). -/
structure PendingSwap where
  deadline : Nat
  counted : Nat
  deriving DecidableEq, Repr

/-- A BANK_COPY in progress: the next block, and the blocks copied BAD because a VALID source failed
its check (R155). -/
structure CopyProgress where
  next : Nat
  badCopies : Nat
  deriving DecidableEq, Repr

/-- The Table Store. `boundary`: a line boundary has been signalled and not yet acted on (R56, R159). -/
structure Tbs where
  bankA : ProductBank
  bankB : ProductBank
  active : Bank
  generation : Byte
  vmt : List (Option Nat)
  ccal : List ColumnCal
  scrubPointer : Nat
  scrubCount : Nat
  swap : Option PendingSwap
  copy : Option CopyProgress
  boundary : Bool
  deriving DecidableEq, Repr

/-- The TBS after a power-on reset (R162). -/
def Tbs.powerOn : Tbs where
  bankA := ProductBank.powerOn
  bankB := ProductBank.powerOn
  active := .a
  generation := 0
  vmt := List.replicate 576 none
  ccal := List.replicate 576 ColumnCal.powerOn
  scrubPointer := 0
  scrubCount := 0
  swap := none
  copy := none
  boundary := false

/-! ## Command Unit (09, section 9.1) -/

/-- The executing sequenced command (R165). -/
structure Executing where
  command : Command
  tag : Word16
  deriving DecidableEq, Repr

/-- The Command Unit. `causes`: fault causes raised and not yet taken, in the order of their raising
(R175). -/
structure Cmu where
  engine : EngineState
  unit : Option Nat
  cause : Option FaultCause
  executing : Option Executing
  config : Configuration
  causes : List FaultCause
  deriving DecidableEq, Repr

/-- The CMU after a reset that leaves the given configuration record (R178). -/
def Cmu.reset (config : Configuration) : Cmu where
  engine := .offline
  unit := none
  cause := none
  executing := none
  config := config
  causes := []

/-! ## Link Interface (10, section 10.1) -/

/-- The Link Interface. `doFrame` and `roFrame` are the frames in transmission on DO and RO.
`diOpen`: a frame has begun on DI and has not ended (R179). Times are in 0.1 us. -/
structure Lki where
  link : LinkState
  silence : Nat
  diOpen : Bool
  forwardQueue : List Frame
  doFrame : Option Frame
  pauseDue : Bool
  passBuffer : List Frame
  repeatTimer : Option Nat
  pauseTimer : Option Nat
  preference : Preference
  roFrame : Option Frame
  deriving DecidableEq, Repr

/-- The LKI after a power-on reset (R191). DESIGN CHOICE (log 11): R191 gives no state for a frame being
received on DI at the reset; the mark diOpen is cleared, so such a frame is never counted as cut off.
Unsafe. -/
def Lki.powerOn : Lki where
  link := .down
  silence := 0
  diOpen := false
  forwardQueue := []
  doFrame := none
  pauseDue := false
  passBuffer := []
  repeatTimer := none
  pauseTimer := none
  preference := .pass
  roFrame := none

/-! ## Report Unit (11) -/

/-- A response (12.3). -/
structure Response where
  unit : Nat
  tag : Word16
  code : Byte
  status : Status
  detail : Word32
  data : List Byte
  deriving DecidableEq, Repr

/-- A notice's kind with its detail (R195); a detail that is absent is a missing-index mark. -/
inductive Notice where
  | syncHunt (sync : SyncState) (cause : HuntCause) (offset line : LineNo)
  | syncLocked (offset line : LineNo)
  | syncFailed (offset line : LineNo)
  | beltReverse (travel : Position) (limit : Nat)
  | encoderSlip (counted : Option Nat) (run : Nat)
  | encoderFault (counted : Option Nat) (run : Nat)
  | tableBlockBad (bank : Bank) (block : Nat) (stored computed : Word16)
  | valveTrip (valve thermal refCount : Nat)
  | valveCoil (valve : Nat) (before : ValveState)
  | valveLinkLost (sequence : Byte) (engine : EngineState)
  | valveLinkRestored (sequence : Byte)
  | linkDown (engine : EngineState)
  | chainChanged (old new : Nat)
  | enumOverflow (hop : Nat)
  | faultEntered (cause : FaultCause) (left : EngineState) (ended : Option Command)
  deriving DecidableEq, Repr

/-- Outcome of an evaluation (05, section 5.3). -/
inductive Verdict where
  | discarded | accept | reject
  deriving DecidableEq, Repr

/-- The six policy flags, in the order of R87. -/
inductive PolicyFlag where
  | lineLoss | mixed | truncated | oversize | partialLine | gap
  deriving DecidableEq, Repr

/-- Deciding source of an evaluation. -/
inductive DecidingSource where
  | ownership
  | flag (f : PolicyFlag)
  | rule (n : Nat)
  | default
  deriving DecidableEq, Repr

/-- Ejection result of a REJECT (R93); `none` where there is no REJECT. -/
inductive EjectionResult where
  | none | requested | noValve | late
  deriving DecidableEq, Repr

/-- An object report (R94; 12.4). -/
structure ObjectReport where
  object : ObjectRecord
  verdict : Verdict
  source : DecidingSource
  generation : Byte
  result : EjectionResult
  window : Option (Position × Position)
  valves : Option (Nat × Nat)
  travel : Position
  deriving DecidableEq, Repr

/-- A frame waiting in the Report Queue (R192). Notices and object reports hold the unit number held
when they are queued. -/
inductive Report where
  | response (r : Response)
  | notice (unit : Nat) (n : Notice)
  | objectReport (unit : Nat) (r : ObjectReport)
  deriving DecidableEq, Repr

/-- The Report Unit: the Report Queue and the 54 counters in index order (R196). -/
structure Rpu where
  rq : List Report
  counters : List Word32
  deriving DecidableEq, Repr

/-- The RPU after either reset (R198). -/
def Rpu.reset : Rpu where
  rq := []
  counters := List.replicate 54 0

/-! ## The machine -/

/-- The state of the engine, its time base (0.1 us) and the queue of waiting commands, first in,
first out. -/
structure State where
  timeBase : Nat
  bpu : Bpu
  liu : Liu
  capture : Option Capture
  oas : Oas
  vdu : Vdu
  ejs : Ejs
  vlc : Vlc
  tbs : Tbs
  cmu : Cmu
  lki : Lki
  rpu : Rpu
  pending : List Instr
  deriving DecidableEq, Repr

/-- Why a step stops. The spec stops the engine nowhere; a command that names a thing the engine does
not have stops the model. -/
inductive Fault where
  /-- A command of a valve names a valve above 63; the engine has 64 valves (R122). Raised by
  HOLDOFF_EXPIRY and VALVE_TRIP. Safe: no such event exists. -/
  | noSuchValve (valve : Nat)
  /-- CCT_ENTRY_CHANGE names a CCT entry above 32,767 (R43). Safe: no such entry exists. -/
  | noSuchEntry (index : Nat)
  deriving DecidableEq, Repr

/-- Why a command is refused. -/
inductive Refusal where
  /-- The command has no meaning in the model. Raised by `exec`'s refused arms only; there is none.
  Safe. -/
  | notModelled (mnemonic : String)
  deriving DecidableEq, Repr

/-- The engine right after the power-on reset (R20, R39, R54, R82, R99, R120, R141, R162, R178, R191,
R198). DESIGN CHOICE (log 4): the encoder inputs are low and the time base is 0; the spec gives
neither. Unsafe: a proof could rest on these levels. -/
def State.reset : State where
  timeBase := 0
  bpu := Bpu.reset false false false
  liu := Liu.reset
  capture := none
  oas := Oas.reset
  vdu := { vq := [], evaluating := none }
  ejs := Ejs.reset
  vlc := Vlc.reset
  tbs := Tbs.powerOn
  cmu := Cmu.reset Configuration.powerOn
  lki := Lki.powerOn
  rpu := Rpu.reset
  pending := []

end Sys2Proof.Machine
end

