-- ==== Sys2Proof/Machine/Operands.lean ====
section
/-! DEFINITION. The operand forms: byte fields of a frame, belt positions, columns and windows, the
configuration record as it is carried, and the helpers on lists that the blocks share. -/

namespace Sys2Proof.Machine

/-! ## Lists -/

/-- `f` applied to each element with its index, counted from `i`. -/
def mapFrom {α β : Type} (f : Nat → α → β) : Nat → List α → List β
  | _, [] => []
  | i, x :: xs => f i x :: mapFrom f (i + 1) xs

/-- The list without the last element that satisfies `p`. -/
def eraseLast {α : Type} (p : α → Bool) (l : List α) : List α :=
  (l.reverse.eraseP p).reverse

/-- The elements of `new` written over `l` from index `first` on. -/
def writeFrom {α : Type} (first : Nat) (new l : List α) : List α :=
  mapFrom (fun i x => if first ≤ i ∧ i < first + new.length then new.getD (i - first) x else x) 0 l

/-- The index of the first free place, if there is one. -/
def freeIndex {α : Type} (l : List (Option α)) : Option Nat :=
  l.findIdx? (fun x => x.isNone)

/-! ## Byte fields (12, opening: least significant byte first) -/

/-- The byte at an offset. -/
def u8 (b : List Byte) (off : Nat) : Nat := (b.getD off 0).toNat

/-- The 2-byte field at an offset. -/
def u16 (b : List Byte) (off : Nat) : Nat := u8 b off + 256 * u8 b (off + 1)

/-- The 3-byte field at an offset. -/
def u24 (b : List Byte) (off : Nat) : Nat := u16 b off + 65536 * u8 b (off + 2)

/-- A number in `n` bytes, least significant byte first. -/
def le : Nat → Nat → List Byte
  | 0, _ => []
  | n + 1, v => BitVec.ofNat 8 v :: le n (v / 256)

/-- A flag as one byte. -/
def bit (b : Bool) : List Byte := [if b then 1 else 0]

/-- A presence byte, then the value when it is present (R201). -/
def optional {α : Type} (f : α → List Byte) : Option α → List Byte
  | none => [0]
  | some x => 1 :: f x

/-! ## Belt positions (R1) -/

/-- A position is reached when (travel - p) mod 2^24 is less than 2^23 (R1). -/
def reached (p travel : Position) : Bool := decide ((travel - p).toNat < 2 ^ 23)

/-- The distance ahead of a position (R1). -/
def distanceAhead (p travel : Position) : Nat := (p - travel).toNat

/-- A distance with a reached position counted 0 (06, section 6.2). -/
def waitDistance (p travel : Position) : Nat :=
  if reached p travel then 0 else distanceAhead p travel

/-- A count of belt counts as a position. -/
def counts (n : Nat) : Position := BitVec.ofNat 24 n

/-! ## Columns and windows (R2) -/

/-- The observed window is configured while own_first is not above own_last (09, section 9.6). -/
def Configuration.windowed (c : Configuration) : Bool := decide (c.ownFirst ≤ c.ownLast)

/-- First column of the observed window: the owned range widened by guard, clipped to 0 (R2). -/
def Configuration.windowFirst (c : Configuration) : Nat := c.ownFirst - c.guard

/-- Last column of the observed window: the owned range widened by guard, clipped to 4095 (R2). -/
def Configuration.windowLast (c : Configuration) : Nat := min 4095 (c.ownLast + c.guard)

/-- Width of the observed window; 0 while it is not configured. -/
def Configuration.width (c : Configuration) : Nat :=
  if c.windowed then c.windowLast + 1 - c.windowFirst else 0

/-- The observed window, or none while it is not configured. -/
def Configuration.window (c : Configuration) : Option (Nat × Nat) :=
  if c.windowed then some (c.windowFirst, c.windowLast) else none

/-- Whether a column lies in the owned range (R2). -/
def Configuration.owns (c : Configuration) (column : Nat) : Bool :=
  decide (c.ownFirst ≤ column) && decide (column ≤ c.ownLast)

/-! ## Window of an ejection (R74, R91) -/

/-- Open position of a window that starts at `p`: p + flight_offset - pre_margin - lead (R74, R91). -/
def openPosition (c : Configuration) (lead : Nat) (p : Position) : Position :=
  p + counts c.flightOffset - counts c.preMargin - counts lead

/-- Close position of a window whose last line lies at `p`:
p + line_pitch + flight_offset + post_margin - lead (R74, R91). -/
def closePosition (c : Configuration) (lead : Nat) (p : Position) : Position :=
  p + counts c.linePitch + counts c.flightOffset + counts c.postMargin - counts lead

/-- The valve range over the columns `first` ~ `last`: the least and the greatest valve the VMT gives
them, columns mapped to NONE skipped; absent if none maps to a valve (R75, R92). -/
def valveRange (c : Configuration) (vmt : List (Option Nat)) (first last : Nat) : Option (Nat × Nat) :=
  let offset := first - c.windowFirst
  let valves := ((vmt.drop offset).take (last + 1 - first)).filterMap id
  match valves with
  | [] => none
  | v :: vs => some (vs.foldl min v, vs.foldl max v)

/-! ## Enumerated parameters (12.2) -/

/-- A policy from its code. -/
def Policy.ofCode : Nat → Policy
  | 0 => .evaluate
  | 1 => .reject
  | _ => .accept

/-- A policy's code. -/
def Policy.code : Policy → Nat
  | .evaluate => 0
  | .reject => 1
  | .accept => 2

/-- oot_full_action from its code. -/
def OotFullAction.ofCode : Nat → OotFullAction
  | 0 => .pass
  | _ => .blind

/-- oot_full_action's code. -/
def OotFullAction.code : OotFullAction → Nat
  | .pass => 0
  | .blind => 1

/-- overlap_policy from its code. -/
def OverlapPolicy.ofCode : Nat → OverlapPolicy
  | 0 => .merge
  | 1 => .refuse
  | _ => .separate

/-- overlap_policy's code. -/
def OverlapPolicy.code : OverlapPolicy → Nat
  | .merge => 0
  | .refuse => 1
  | .separate => 2

/-- report_mode from its code. -/
def ReportMode.ofCode : Nat → ReportMode
  | 0 => .none
  | 1 => .rejects
  | _ => .all

/-- report_mode's code. -/
def ReportMode.code : ReportMode → Nat
  | .none => 0
  | .rejects => 1
  | .all => 2

/-- A measure from its code. -/
def Measure.ofCode : Nat → Measure
  | 0 => .count
  | _ => .share

/-- An action from its code. -/
def RuleAction.ofCode : Nat → RuleAction
  | 0 => .accept
  | _ => .reject

/-! ## The configuration record as it is carried (12.2) -/

/-- The configuration record a CONFIGURE carries in its 47 parameter bytes. -/
def Configuration.ofBytes (b : List Byte) : Configuration where
  group := u8 b 0x00
  ownFirst := u16 b 0x01
  ownLast := u16 b 0x03
  guard := u8 b 0x05
  linePitch := u8 b 0x06
  ltrigEnable := decide (u8 b 0x07 = 1)
  edgeFilter := u8 b 0x08
  stallTimeout := u8 b 0x09
  reverseLimit := u16 b 0x0A
  revCounts := u24 b 0x0C
  revTolerance := u8 b 0x0F
  latencyLines := u8 b 0x10
  maxObjectLines := u8 b 0x11
  ootFullAction := .ofCode (u8 b 0x12)
  policyLineLoss := .ofCode (u8 b 0x13)
  policyMixed := .ofCode (u8 b 0x14)
  policyTruncated := .ofCode (u8 b 0x15)
  policyOversize := .ofCode (u8 b 0x16)
  policyPartial := .ofCode (u8 b 0x17)
  policyGap := .ofCode (u8 b 0x18)
  flightOffset := u16 b 0x19
  preMargin := u16 b 0x1B
  postMargin := u16 b 0x1D
  valveLatency := u8 b 0x1F
  overlapPolicy := .ofCode (u8 b 0x20)
  holdoff := u8 b 0x21
  heatStep := u8 b 0x22
  tripLevel := u16 b 0x23
  rearmLevel := u16 b 0x25
  scrubInterval := u8 b 0x27
  swapDeadline := u8 b 0x28
  reportMode := .ofCode (u8 b 0x29)
  calTargetR := u8 b 0x2A
  calTargetG := u8 b 0x2B
  calTargetB := u8 b 0x2C
  calTargetN := u8 b 0x2D
  calTolerance := u8 b 0x2E

/-- The 47 bytes of a configuration record (12.2), as READ_CONFIG returns them (R169). -/
def Configuration.bytes (c : Configuration) : List Byte :=
  le 1 c.group ++ le 2 c.ownFirst ++ le 2 c.ownLast ++ le 1 c.guard ++ le 1 c.linePitch
    ++ bit c.ltrigEnable ++ le 1 c.edgeFilter ++ le 1 c.stallTimeout ++ le 2 c.reverseLimit
    ++ le 3 c.revCounts ++ le 1 c.revTolerance ++ le 1 c.latencyLines ++ le 1 c.maxObjectLines
    ++ le 1 c.ootFullAction.code ++ le 1 c.policyLineLoss.code ++ le 1 c.policyMixed.code
    ++ le 1 c.policyTruncated.code ++ le 1 c.policyOversize.code ++ le 1 c.policyPartial.code
    ++ le 1 c.policyGap.code ++ le 2 c.flightOffset ++ le 2 c.preMargin ++ le 2 c.postMargin
    ++ le 1 c.valveLatency ++ le 1 c.overlapPolicy.code ++ le 1 c.holdoff ++ le 1 c.heatStep
    ++ le 2 c.tripLevel ++ le 2 c.rearmLevel ++ le 1 c.scrubInterval ++ le 1 c.swapDeadline
    ++ le 1 c.reportMode.code ++ le 1 c.calTargetR ++ le 1 c.calTargetG ++ le 1 c.calTargetB
    ++ le 1 c.calTargetN ++ le 1 c.calTolerance

/-- The position of the first test that fails, in position order (R164, test 5). -/
def firstFailing : List (Nat × Bool) → Option Nat
  | [] => none
  | (p, ok) :: rest => if ok then firstFailing rest else some p

/-- The range tests of a CONFIGURE's parameter bytes, in position order (09 section 9.6, R168). -/
def configurationTests (b : List Byte) : List (Nat × Bool) :=
  [ (1, decide (u8 b 0x00 ≤ 7)),
    (2, decide (u16 b 0x01 ≤ 4095)),
    (3, decide (u16 b 0x03 ≤ 4095)
          && (decide (u16 b 0x03 < u16 b 0x01) || decide (u16 b 0x03 - u16 b 0x01 ≤ 511))),
    (4, decide (u8 b 0x05 ≤ 32)),
    (5, decide (1 ≤ u8 b 0x06) && decide (u8 b 0x06 ≤ 64)),
    (6, decide (u8 b 0x07 ≤ 1)),
    (7, decide (u8 b 0x08 ≤ 15)),
    (8, decide (1 ≤ u8 b 0x09)),
    (9, decide (1 ≤ u16 b 0x0A) && decide (u16 b 0x0A ≤ 4095)),
    (10, decide (u24 b 0x0C ≤ 16776959)),
    (12, decide (1 ≤ u8 b 0x10) && decide (u8 b 0x10 ≤ 7)),
    (13, decide (8 ≤ u8 b 0x11)),
    (14, decide (u8 b 0x12 ≤ 1)),
    (15, decide (u8 b 0x13 ≤ 2)),
    (16, decide (u8 b 0x14 ≤ 2)),
    (17, decide (u8 b 0x15 ≤ 2)),
    (18, decide (u8 b 0x16 ≤ 2)),
    (19, decide (u8 b 0x17 ≤ 2)),
    (20, decide (u8 b 0x18 ≤ 2)),
    (22, decide (u16 b 0x1B ≤ 1023)),
    (23, decide (u16 b 0x1D ≤ 1023)),
    (25, decide (u8 b 0x20 ≤ 2)),
    (27, decide (1 ≤ u8 b 0x22) && decide (u8 b 0x22 ≤ 15)),
    (28, decide (16 ≤ u16 b 0x23)),
    (29, decide (u16 b 0x25 < u16 b 0x23)),
    (31, decide (1 ≤ u8 b 0x28)),
    (32, decide (u8 b 0x29 ≤ 2)),
    (33, decide (1 ≤ u8 b 0x2A)),
    (34, decide (1 ≤ u8 b 0x2B)),
    (35, decide (1 ≤ u8 b 0x2C)),
    (36, decide (1 ≤ u8 b 0x2D)) ]

/-- The parameter ranges of 09 section 9.6, stated of a record. -/
def Configuration.inRange (c : Configuration) : Bool :=
  decide (c.group ≤ 7) && decide (c.ownFirst ≤ 4095) && decide (c.ownLast ≤ 4095)
    && (decide (c.ownLast < c.ownFirst) || decide (c.ownLast - c.ownFirst ≤ 511))
    && decide (c.guard ≤ 32) && decide (1 ≤ c.linePitch) && decide (c.linePitch ≤ 64)
    && decide (c.edgeFilter ≤ 15) && decide (1 ≤ c.stallTimeout) && decide (c.stallTimeout ≤ 255)
    && decide (1 ≤ c.reverseLimit) && decide (c.reverseLimit ≤ 4095)
    && decide (c.revCounts ≤ 16776959) && decide (c.revTolerance ≤ 255)
    && decide (1 ≤ c.latencyLines) && decide (c.latencyLines ≤ 7)
    && decide (8 ≤ c.maxObjectLines) && decide (c.maxObjectLines ≤ 255)
    && decide (c.flightOffset ≤ 65535) && decide (c.preMargin ≤ 1023)
    && decide (c.postMargin ≤ 1023) && decide (c.valveLatency ≤ 255) && decide (c.holdoff ≤ 255)
    && decide (1 ≤ c.heatStep) && decide (c.heatStep ≤ 15) && decide (16 ≤ c.tripLevel)
    && decide (c.tripLevel ≤ 65535) && decide (c.rearmLevel < c.tripLevel)
    && decide (c.scrubInterval ≤ 255) && decide (1 ≤ c.swapDeadline)
    && decide (c.swapDeadline ≤ 255) && decide (1 ≤ c.calTargetR) && decide (c.calTargetR ≤ 255)
    && decide (1 ≤ c.calTargetG) && decide (c.calTargetG ≤ 255) && decide (1 ≤ c.calTargetB)
    && decide (c.calTargetB ≤ 255) && decide (1 ≤ c.calTargetN) && decide (c.calTargetN ≤ 255)
    && decide (c.calTolerance ≤ 255)

end Sys2Proof.Machine
end

