-- ==== Sys2Proof/Machine/Checks.lean ====
section
/-! DEFINITION. The two check computations: the 16-bit check word of a CCT block and of a Valve Port
frame (R144), and the 32-bit CRC of a Scan Link frame (R179). -/

namespace Sys2Proof.Machine

/-- One data bit into the 16-bit register (R144, step 3). -/
def checkBit (reg : Word16) (bit : Bool) : Word16 :=
  let shifted := reg <<< 1
  if (reg.getMsbD 0).xor bit then shifted ^^^ 4129 else shifted

/-- One byte into the 16-bit register, most significant bit first (R144, step 3). -/
def checkByte (reg : Word16) (b : Byte) : Word16 :=
  let r7 := checkBit reg (b.getLsbD 7)
  let r6 := checkBit r7 (b.getLsbD 6)
  let r5 := checkBit r6 (b.getLsbD 5)
  let r4 := checkBit r5 (b.getLsbD 4)
  let r3 := checkBit r4 (b.getLsbD 3)
  let r2 := checkBit r3 (b.getLsbD 2)
  let r1 := checkBit r2 (b.getLsbD 1)
  checkBit r1 (b.getLsbD 0)

/-- The check word of a list of bytes (R144, steps 2 ~ 4). -/
def checkWord (bytes : List Byte) : Word16 := bytes.foldl checkByte 65535

/-- The check word of a block's codes: each code as one byte whose upper four bits are 0, in index
order (R144, step 1). -/
def blockCheck (codes : List ClassCode) : Word16 :=
  checkWord (codes.map (fun c => BitVec.ofNat 8 c.val))

/-- One data bit into the 32-bit register (R179). -/
def crcBit (reg : Word32) (bit : Bool) : Word32 :=
  let shifted := reg >>> 1
  if (reg.getLsbD 0).xor bit then shifted ^^^ 3988292384 else shifted

/-- One byte into the 32-bit register, least significant bit first (R179). -/
def crcByte (reg : Word32) (b : Byte) : Word32 :=
  let r0 := crcBit reg (b.getLsbD 0)
  let r1 := crcBit r0 (b.getLsbD 1)
  let r2 := crcBit r1 (b.getLsbD 2)
  let r3 := crcBit r2 (b.getLsbD 3)
  let r4 := crcBit r3 (b.getLsbD 4)
  let r5 := crcBit r4 (b.getLsbD 5)
  let r6 := crcBit r5 (b.getLsbD 6)
  crcBit r6 (b.getLsbD 7)

/-- The CRC over header and payload (R179): the register starts with every bit set, and every bit of
it is inverted at the end. -/
def crc32 (bytes : List Byte) : Word32 := ~~~ (bytes.foldl crcByte 4294967295)

end Sys2Proof.Machine
end

