-- ==== Sys2Proof/Machine/Layouts.lean ====
section
/-! DEFINITION. Frame and record layouts: the codes of enumerated values, the bytes of a frame with
its CRC, the tests of a good frame, and the frames made of responses, notices and object reports
(12_frame_and_record_layouts.md). -/

namespace Sys2Proof

/-! ## Codes and bytes of the operand types (12.1, 12.3) -/

/-- Bank code. -/
def Bank.code : Bank → Nat
  | .a => 0
  | .b => 1

/-- Fault cause code; `none` is 0. -/
def FaultCause.code : FaultCause → Nat
  | .syncFailed => 1
  | .beltReverse => 2
  | .encoderFault => 3
  | .valveLinkLost => 4
  | .linkDown => 5
  | .chainChanged => 6

/-- The 9 header bytes and the payload of a frame. -/
def Frame.body (f : Frame) : List Byte :=
  [f.ftype, f.hdr.destKind, f.hdr.destValue, f.hdr.source] ++ Machine.le 2 f.hdr.tag.toNat ++ [f.hdr.flags]
    ++ Machine.le 2 f.payload.length ++ f.payload

/-- The bytes of a frame between its start symbol and its end symbol, the CRC included (R179). -/
def Frame.bytes (f : Frame) : List Byte := f.body ++ Machine.le 4 (Machine.crc32 f.body).toNat

end Sys2Proof

namespace Sys2Proof.Machine

/-! ## Codes (12.3) -/

/-- Engine state code. -/
def EngineState.code : EngineState → Nat
  | .offline => 0
  | .standby => 1
  | .sorting => 2
  | .draining => 3
  | .fault => 4

/-- Belt state code. -/
def BeltState.code : BeltState → Nat
  | .stopped => 0
  | .moving => 1
  | .reversing => 2

/-- Sync state code. -/
def SyncState.code : SyncState → Nat
  | .locked => 0
  | .hunt1 => 1
  | .hunt2 => 2
  | .failed => 3

/-- Code of the cause of a SYNC_HUNT notice (12.5). -/
def HuntCause.code : HuntCause → Nat
  | .loss => 0
  | .resync => 1
  | .clearFault => 2
  | .enumNumbering => 3
  | .timeout => 4

/-- Block state code. -/
def BlockState.code : BlockState → Nat
  | .unwritten => 0
  | .valid => 1
  | .bad => 2

/-- Valve state code, the disable cause within it. -/
def ValveState.code : ValveState → Nat
  | .idle => 0
  | .on => 1
  | .holdoff => 2
  | .tripped => 3
  | .disabled .soft => 4
  | .disabled .coil => 5

/-- Valve Port link state code. -/
def ValveLink.code : ValveLink → Nat
  | .up => 0
  | .lost => 1

/-- Scan Link link state code. -/
def LinkState.code : LinkState → Nat
  | .up => 0
  | .down => 1

/-- RO preference code. -/
def Preference.code : Preference → Nat
  | .pass => 0
  | .report => 1

/-- Status code. -/
def Status.code : Status → Nat
  | .ok => 0x00
  | .busy => 0x01
  | .badState => 0x02
  | .badOpcode => 0x03
  | .badLength => 0x04
  | .badParam => 0x05
  | .badCheck => 0x06
  | .bankIncomplete => 0x07
  | .bankHasBad => 0x08
  | .notLocked => 0x09
  | .valveLink => 0x0A
  | .valveHot => 0x0B
  | .valveState => 0x0C
  | .calUnsteady => 0x0D
  | .calRange => 0x0E
  | .calLineLoss => 0x0F
  | .aborted => 0x10
  | .nothingToAbort => 0x11

/-- Command code (12.2). -/
def Command.code : Command → Nat
  | .nop => 0x01
  | .readStatus => 0x02
  | .readCounters => 0x03
  | .readConfig => 0x04
  | .blockRead => 0x05
  | .abort => 0x06
  | .resync => 0x07
  | .configure => 0x10
  | .cctWrite => 0x11
  | .cctFill => 0x12
  | .nbtWrite => 0x13
  | .rrtWrite => 0x14
  | .vmtWrite => 0x15
  | .ccalWrite => 0x16
  | .blockMark => 0x17
  | .bankCopy => 0x18
  | .bankSwap => 0x19
  | .calibrate => 0x1A
  | .start => 0x1B
  | .stop => 0x1C
  | .clearFault => 0x1D
  | .valveControl => 0x1E
  | .valveTest => 0x1F

/-- The command a code names (12.2); none for an unknown code. -/
def Command.ofCode : Nat → Option Command
  | 0x01 => some .nop
  | 0x02 => some .readStatus
  | 0x03 => some .readCounters
  | 0x04 => some .readConfig
  | 0x05 => some .blockRead
  | 0x06 => some .abort
  | 0x07 => some .resync
  | 0x10 => some .configure
  | 0x11 => some .cctWrite
  | 0x12 => some .cctFill
  | 0x13 => some .nbtWrite
  | 0x14 => some .rrtWrite
  | 0x15 => some .vmtWrite
  | 0x16 => some .ccalWrite
  | 0x17 => some .blockMark
  | 0x18 => some .bankCopy
  | 0x19 => some .bankSwap
  | 0x1A => some .calibrate
  | 0x1B => some .start
  | 0x1C => some .stop
  | 0x1D => some .clearFault
  | 0x1E => some .valveControl
  | 0x1F => some .valveTest
  | _ => none

/-! ## The envelope (12.1) -/

/-- The greatest payload length (R179). -/
def maxPayload : Nat := 4104

/-- Whether received bytes make a good frame (R179): the received length agrees with the payload
length field, the payload length is at most 4,104 bytes, and the CRC field equals the computed CRC. -/
def goodBytes (b : List Byte) : Bool :=
  decide (13 ≤ b.length)
    && decide (b.length = 13 + u16 b 7)
    && decide (u16 b 7 ≤ maxPayload)
    && decide (b.drop (b.length - 4) = le 4 (crc32 (b.take (b.length - 4))).toNat)

/-- The frame that good bytes hold. -/
def frameOfBytes (b : List Byte) : Frame where
  ftype := b.getD 0 0
  hdr :=
    { destKind := b.getD 1 0
      destValue := b.getD 2 0
      source := b.getD 3 0
      tag := BitVec.ofNat 16 (u16 b 4)
      flags := b.getD 6 0 }
  payload := (b.drop 9).take (u16 b 7)

/-- The frame received bytes make, none where they make no good frame. -/
def receiveBytes (b : List Byte) : Option Frame :=
  if goodBytes b then some (frameOfBytes b) else none

/-! ## Records (12.4) -/

/-- The flags byte of an object record: bit 0 MERGED ... bit 7 LINE_LOSS. -/
def ObjectFlags.code (f : ObjectFlags) : Nat :=
  f.merged.toNat + 2 * f.mixed.toNat + 4 * f.truncated.toNat + 8 * f.oversize.toNat
    + 16 * f.cont.toNat + 32 * f.gap.toNat + 64 * f.partialLine.toNat + 128 * f.lineLoss.toNat

/-- A policy flag's bit number in the flags byte. -/
def PolicyFlag.bitNumber : PolicyFlag → Nat
  | .lineLoss => 7
  | .mixed => 1
  | .truncated => 2
  | .oversize => 3
  | .partialLine => 6
  | .gap => 5

/-- Outcome code (byte 34h). -/
def Verdict.code : Verdict → Nat
  | .discarded => 0
  | .accept => 1
  | .reject => 2

/-- Ejection result code (byte 38h). -/
def EjectionResult.code : EjectionResult → Nat
  | .none => 0
  | .requested => 1
  | .noValve => 2
  | .late => 3

/-- Deciding source: bytes 35h and 36h. -/
def DecidingSource.codes : DecidingSource → List Byte
  | .ownership => le 1 0 ++ le 1 0
  | .flag f => le 1 1 ++ le 1 f.bitNumber
  | .rule n => le 1 2 ++ le 1 n
  | .default => le 1 3 ++ le 1 0

/-- Byte 37h: the bank generation of the RRT read, for RULE or DEFAULT; otherwise 0. -/
def ObjectReport.generationByte (r : ObjectReport) : List Byte :=
  match r.source with
  | .rule _ => [r.generation]
  | .default => [r.generation]
  | .ownership => [0]
  | .flag _ => [0]

/-- Bytes 00h ~ 33h of an object report: the object record. -/
def ObjectRecord.bytes (o : ObjectRecord) : List Byte :=
  le 2 o.number.toNat ++ le 2 o.startLine.toNat ++ le 3 o.startPos.toNat ++ le 2 o.lastLine.toNat
    ++ le 3 o.lastPos.toNat ++ le 2 o.colMin ++ le 2 o.colMax ++ le 2 o.area
    ++ (o.histogram.map (le 2)).flatten ++ [o.generation] ++ le 1 o.flags.code

/-- The 68 bytes of an object report. -/
def ObjectReport.bytes (r : ObjectReport) : List Byte :=
  r.object.bytes ++ le 1 r.verdict.code ++ r.source.codes ++ r.generationByte
    ++ le 1 r.result.code
    ++ (match r.window with
        | some (o, c) => le 3 o.toNat ++ le 3 c.toNat
        | none => le 3 0 ++ le 3 0)
    ++ (match r.valves with
        | some (a, b) => le 1 a ++ le 1 b
        | none => le 1 0xFF ++ le 1 0xFF)
    ++ le 3 r.travel.toNat

/-- The 13 bytes of an ejection record as READ_STATUS carries it. -/
def EjectionRecord.bytes (r : EjectionRecord) : List Byte :=
  (match r.source with
    | .object n => le 1 0 ++ le 2 n.toNat
    | .blind => le 1 1 ++ le 2 0)
    ++ le 1 r.valveFirst ++ le 1 r.valveLast ++ le 3 r.openPos.toNat ++ le 3 r.closePos.toNat
    ++ le 1 r.mergedCount ++ le 1 (r.late.toNat + 2 * r.blind.toNat + 4 * r.merged.toNat)

/-! ## Notices (12.5) -/

/-- The detail word of the advances counted; a missing-index mark is FFFFFFFFh. -/
def indexWord : Option Nat → Nat
  | some n => n
  | none => 0xFFFFFFFF

/-- Kind code and the three detail words of a notice. -/
def Notice.words : Notice → Nat × Nat × Nat × Nat
  | .syncHunt s c off ln => (0x01, s.code, c.code, off.toNat + 65536 * ln.toNat)
  | .syncLocked off ln => (0x02, off.toNat, ln.toNat, 0)
  | .syncFailed off ln => (0x03, off.toNat, ln.toNat, 0)
  | .beltReverse t l => (0x04, t.toNat, l, 0)
  | .encoderSlip n run => (0x05, indexWord n, run, 0)
  | .encoderFault n run => (0x06, indexWord n, run, 0)
  | .tableBlockBad b n stored comp => (0x07, b.code, n, stored.toNat + 65536 * comp.toNat)
  | .valveTrip v th rc => (0x08, v, th, rc)
  | .valveCoil v st => (0x09, v, st.code, 0)
  | .valveLinkLost sq e => (0x0A, sq.toNat, e.code, 0)
  | .valveLinkRestored sq => (0x0B, sq.toNat, 0, 0)
  | .linkDown e => (0x0C, e.code, 0, 0)
  | .chainChanged old new => (0x0D, old, new, 0)
  | .enumOverflow h => (0x0E, h, 0, 0)
  | .faultEntered c e ended => (0x0F, c.code, e.code, (ended.map Command.code).getD 0)

/-- The 13 bytes of a notice. -/
def Notice.bytes (n : Notice) : List Byte :=
  le 1 n.words.1 ++ le 4 n.words.2.1 ++ le 4 n.words.2.2.1 ++ le 4 n.words.2.2.2

/-! ## Frames the engine makes (12.1) -/

/-- The header of a frame the engine makes on the return lane. -/
def returnHeader (unit : Nat) (tag : Word16) (flags : Byte) : Header where
  destKind := 0
  destValue := 0
  source := BitVec.ofNat 8 unit
  tag := tag
  flags := flags

/-- The payload of a RESP (12.3). -/
def Response.payload (r : Response) : List Byte :=
  [r.code] ++ le 1 r.status.code ++ le 4 r.detail.toNat ++ r.data

/-- The frame of a response, a notice or an object report: RESP is type 81h, REPORT type 82h with
flag bit 0 set on a notice. -/
def Report.frame : Report → Frame
  | .response r => { ftype := 0x81, hdr := returnHeader r.unit r.tag 0, payload := r.payload }
  | .notice u n => { ftype := 0x82, hdr := returnHeader u 0 1, payload := n.bytes }
  | .objectReport u r => { ftype := 0x82, hdr := returnHeader u 0 0, payload := r.bytes }

/-- The PAUSE frame of the engine's own (12.1). -/
def pauseFrame : Frame :=
  { ftype := 0x05
    hdr := { destKind := 0, destValue := 0, source := 0, tag := 0, flags := 0 }
    payload := [] }

/-! ## Valve Port frames (12.6) -/

/-- Eight flags as one byte, the first in bit 0. -/
def packByte (l : List Bool) : Nat :=
  l.foldr (fun b acc => b.toNat + 2 * acc) 0

/-- Flags packed eight to a byte, `n` bytes. -/
def packBytes : Nat → List Bool → List Byte
  | 0, _ => []
  | n + 1, l => BitVec.ofNat 8 (packByte (l.take 8)) :: packBytes n (l.drop 8)

/-- The 11 bytes of a Valve Image frame: sequence number, 64 outputs, check (R134, R144). -/
def valveImage (sequence : Byte) (outputs : List Bool) : List Byte :=
  let head := sequence :: packBytes 8 outputs
  head ++ le 2 (checkWord head).toNat

/-- Whether a Status frame has 11 bytes and its check matches (R135, 12.6). -/
def statusGood (b : List Byte) : Bool :=
  decide (b.length = 11) && decide (u16 b 9 = (checkWord (b.take 9)).toNat)

/-- The coil fault indication of a valve in a Status frame (12.6). -/
def statusFault (b : List Byte) (v : Nat) : Bool := (b.getD (1 + v / 8) 0).getLsbD (v % 8)

end Sys2Proof.Machine
end

