-- ==== Sys2Proof/Machine/Flags.lean ====
section
/-! DEFINITION. The values the spec derives from what State holds: belt state, lead, whether the Line
Intake Unit is active, the ON condition of a valve, the objects in flight, the quiet point and the
running out of the drain. -/

namespace Sys2Proof.Machine

/-! ## Belt (R7, R16) -/

/-- Belt state, from the reverse debt and the stall flag (R7). -/
def Bpu.beltState (b : Bpu) : BeltState :=
  if 0 < b.debt then .reversing else if b.stallFlag then .stopped else .moving

/-- The lead (R16): min(65,535, floor(valve_latency x 100 x line_pitch / line period)), 0 while the
line period is absent. -/
def Bpu.lead (c : Configuration) (b : Bpu) : Nat :=
  match b.period with
  | none => 0
  | some p => min 65535 (c.valveLatency * 100 * c.linePitch / p)

/-- The lead as a block asks for it (R16). -/
def State.lead (s : State) : Nat := s.bpu.lead s.cmu.config

/-! ## Engine (R21, R163) -/

/-- The engine is numbered while it holds a unit number (09, section 9.1). -/
def State.numbered (s : State) : Bool := s.cmu.unit.isSome

/-- The unit number a frame of the engine's own carries. -/
def State.unitNumber (s : State) : Nat := s.cmu.unit.getD 0

/-- STANDBY, SORTING or DRAINING. -/
def EngineState.takesLines : EngineState → Bool
  | .standby => true
  | .sorting => true
  | .draining => true
  | .offline => false
  | .fault => false

/-- Whether the Line Intake Unit is active (R21). -/
def State.liuActive (s : State) : Bool :=
  s.cmu.engine.takesLines && decide (s.liu.sync ≠ .failed) && s.cmu.config.windowed

/-- Whether the named sequenced command executes (R165). -/
def State.executes (s : State) (c : Command) : Bool :=
  match s.cmu.executing with
  | some e => decide (e.command = c)
  | none => false

/-! ## Valves (R122) -/

/-- Whether a valve test of valve `i` is running (R131). -/
def Vlc.tests (v : Vlc) (i : Nat) : Bool :=
  match v.test with
  | some t => decide (t.valve = i)
  | none => false

/-- The ON condition of a valve (R122). -/
def Valve.onCondition (belt : BeltState) (tested : Bool) (v : Valve) : Bool :=
  (decide (0 < v.refCount) && decide (belt = .moving)) || tested

/-- TRIPPED or DISABLED: the states in which a raise of the count is counted in valve_skipped
(R126). -/
def Valve.blocked (v : Valve) : Bool :=
  match v.state with
  | .tripped => true
  | .disabled _ => true
  | .idle => false
  | .on => false
  | .holdoff => false

/-- The outputs of the 64 valves (R122). -/
def Vlc.outputs (v : Vlc) : List Bool := v.valves.map (fun x => decide (x.state = .on))

/-- The record of valve `i`. -/
def State.valve (s : State) (i : Nat) : Valve := s.vlc.valves.getD i Valve.reset

/-! ## Objects in flight (R55, R196) -/

/-- Whether an OOT slot is OPEN. -/
def OotSlot.isOpen : OotSlot → Bool
  | .opened _ => true
  | .closing _ => false
  | .free => false

/-- Whether an OOT slot is CLOSING. -/
def OotSlot.isClosing : OotSlot → Bool
  | .opened _ => false
  | .closing _ => true
  | .free => false

/-- Whether an OOT slot is FREE. -/
def OotSlot.isFree : OotSlot → Bool
  | .opened _ => false
  | .closing _ => false
  | .free => true

/-- Number of OPEN slots. -/
def Oas.openCount (o : Oas) : Nat := o.oot.countP OotSlot.isOpen

/-- Number of CLOSING slots. -/
def Oas.closingCount (o : Oas) : Nat := o.oot.countP OotSlot.isClosing

/-- Number of objects in the Verdict Unit's keeping: in the VQ and under evaluation. -/
def Vdu.held (v : Vdu) : Nat := v.vq.length + (if v.evaluating.isSome then 1 else 0)

/-- Number of objects in flight (R55). -/
def State.inFlight (s : State) : Nat := s.oas.openCount + s.oas.closingCount + s.vdu.held

/-- The quiet point: no OOT slot OPEN or CLOSING, VQ empty, VDU IDLE (R159, R81, R98). -/
def State.quiet (s : State) : Bool :=
  s.oas.oot.all OotSlot.isFree && s.vdu.vq.isEmpty && s.vdu.evaluating.isNone

/-- Number of records in the Active Ejection List. -/
def Ejs.activeCount (e : Ejs) : Nat := e.ael.countP (fun x => x.isSome)

/-- The drain's conditions hold: the objects' (R172), the EQ's and the AEL's; and no ejection request
is still to be taken (R96, R118; log 12). -/
def State.drained (s : State) : Bool :=
  s.quiet && s.ejs.eq.isEmpty && s.ejs.ael.all (fun x => x.isNone)
    && s.ejs.vduRequests.isEmpty && s.ejs.oasRequests.isEmpty

/-! ## Banks (R142) -/

/-- The other bank. -/
def otherBank : Bank → Bank
  | .a => .b
  | .b => .a

/-- A bank by its name. -/
def Tbs.bank (t : Tbs) : Bank → ProductBank
  | .a => t.bankA
  | .b => t.bankB

/-- The active bank. -/
def Tbs.activeBank (t : Tbs) : ProductBank := t.bank t.active

/-- The standby bank. -/
def Tbs.standbyBank (t : Tbs) : ProductBank := t.bank (otherBank t.active)

/-- A block of a bank. -/
def ProductBank.block (b : ProductBank) (n : Nat) : CctBlock := b.cct.getD n CctBlock.powerOn

end Sys2Proof.Machine
end

