-- ==== Sys2Proof/Machine/Ops.lean ====
section
/-! DEFINITION. The named operations every block uses: replacing a block of State, advancing a
counter, the Report Queue's admissions, the arbiters of RO and DO, responses, notices and the raising
of fault causes. -/

namespace Sys2Proof.Machine

/-! ## Replacing a part of State -/

/-- The state with its `timeBase` replaced. -/
def State.setTimeBase (s : State) (x : Nat) : State := { s with timeBase := x }

/-- The state with its `bpu` replaced. -/
def State.setBpu (s : State) (x : Bpu) : State := { s with bpu := x }

/-- The state with its `liu` replaced. -/
def State.setLiu (s : State) (x : Liu) : State := { s with liu := x }

/-- The state with its `capture` replaced. -/
def State.setCapture (s : State) (x : Option Capture) : State := { s with capture := x }

/-- The state with its `oas` replaced. -/
def State.setOas (s : State) (x : Oas) : State := { s with oas := x }

/-- The state with its `vdu` replaced. -/
def State.setVdu (s : State) (x : Vdu) : State := { s with vdu := x }

/-- The state with its `ejs` replaced. -/
def State.setEjs (s : State) (x : Ejs) : State := { s with ejs := x }

/-- The state with its `vlc` replaced. -/
def State.setVlc (s : State) (x : Vlc) : State := { s with vlc := x }

/-- The state with its `tbs` replaced. -/
def State.setTbs (s : State) (x : Tbs) : State := { s with tbs := x }

/-- The state with its `cmu` replaced. -/
def State.setCmu (s : State) (x : Cmu) : State := { s with cmu := x }

/-- The state with its `lki` replaced. -/
def State.setLki (s : State) (x : Lki) : State := { s with lki := x }

/-- The state with its `rpu` replaced. -/
def State.setRpu (s : State) (x : Rpu) : State := { s with rpu := x }

/-- The state with its `pending` replaced. -/
def State.setPending (s : State) (x : List Instr) : State := { s with pending := x }

/-! ## Statistics counters (R196) -/

/-- The index of a counter (R196). -/
def Counter.index : Counter → Nat
  | .objectsOpened => 0
  | .objectsRejected => 1
  | .objectsAccepted => 2
  | .objectsDiscarded => 3
  | .objectsAbandoned => 4
  | .objectsMerged => 5
  | .linesAssembled => 6
  | .linesBridged => 7
  | .linesPartial => 8
  | .linesLost => 9
  | .lineOverruns => 10
  | .lineTriggers => 11
  | .framesEarly => 12
  | .framesStale => 13
  | .duplicateColumns => 14
  | .badBlockPixels => 15
  | .nirOverrides => 16
  | .overflowPixels => 17
  | .unassignedPixels => 18
  | .ootFullEvents => 19
  | .blindRequests => 20
  | .noValve => 21
  | .ejectionsFired => 22
  | .ejectionsLate => 23
  | .ejectionsMerged => 24
  | .ejectionsRefusedOverlap => 25
  | .ejectionsRefusedFull => 26
  | .ejectionsMissedLate => 27
  | .ejectionsMissedAelFull => 28
  | .ejectionsMissedFlush => 29
  | .aelWaits => 30
  | .valveTrips => 31
  | .valveDelays => 32
  | .valveSkipped => 33
  | .valveCoilFaults => 34
  | .valveLinkLosses => 35
  | .valveStatusErrors => 36
  | .encoderGlitches => 37
  | .reverseLimitHits => 38
  | .encoderSlips => 39
  | .encoderFaults => 40
  | .swapsCompleted => 41
  | .swapsForced => 42
  | .scrubMismatches => 43
  | .faultsWhileFaulted => 44
  | .crcErrors => 45
  | .forwardDrops => 46
  | .returnOverflow => 47
  | .pausesSent => 48
  | .pausesReceived => 49
  | .linkDowns => 50
  | .reportsDropped => 51
  | .noticesDropped => 52
  | .commandsDropped => 53

/-- The value of a counter. -/
def State.counter (s : State) (c : Counter) : Word32 := s.rpu.counters.getD c.index 0

/-- A counter risen by `n`, wrapping (R196). -/
def bumpBy (c : Counter) (n : Nat) (s : State) : State :=
  s.setRpu
    { s.rpu with counters := s.rpu.counters.modify c.index (fun x => x + BitVec.ofNat 32 n) }

/-- A counter risen by 1 (R196). -/
def bump (c : Counter) (s : State) : State := bumpBy c 1 s

/-! ## RO arbiter (R190) -/

/-- RO begins to send a frame; the preference then names the other source. -/
def roSend (f : Frame) (next : Preference) (s : State) : State :=
  s.setLki { s.lki with roFrame := some f, preference := next }

/-- RO begins to send the head of the Pass Buffer. -/
def roSendPass (s : State) : State :=
  match s.lki.passBuffer with
  | [] => s
  | f :: rest => roSend f .report (s.setLki { s.lki with passBuffer := rest })

/-- RO begins to send the head of the RQ. -/
def roSendReport (s : State) : State :=
  match s.rpu.rq with
  | [] => s
  | r :: rest => roSend r.frame .pass (s.setRpu { s.rpu with rq := rest })

/-- The RO arbiter's choice, made when RO is at a frame boundary with the pause timer absent. -/
def roChoose (s : State) : State :=
  if s.lki.passBuffer.isEmpty then roSendReport s
  else if s.rpu.rq.isEmpty then roSendPass s
  else match s.lki.preference with
    | .pass => roSendPass s
    | .report => roSendReport s

/-- The RO arbiter (R190): it acts when RO is at a frame boundary and the pause timer is absent. -/
def roKick (s : State) : State :=
  if s.lki.roFrame.isNone && s.lki.pauseTimer.isNone then roChoose s else s

/-! ## Report Queue (R192 ~ R195) -/

/-- A response in the RQ. -/
def Report.isResponse : Report → Bool
  | .response _ => true
  | .notice _ _ => false
  | .objectReport _ _ => false

/-- A notice in the RQ. -/
def Report.isNotice : Report → Bool
  | .response _ => false
  | .notice _ _ => true
  | .objectReport _ _ => false

/-- An object report in the RQ. -/
def Report.isObjectReport : Report → Bool
  | .response _ => false
  | .notice _ _ => false
  | .objectReport _ _ => true

/-- Number of responses in the RQ. -/
def Rpu.responses (r : Rpu) : Nat := r.rq.countP Report.isResponse

/-- Number of notices in the RQ. -/
def Rpu.notices (r : Rpu) : Nat := r.rq.countP Report.isNotice

/-- Number of object reports in the RQ. -/
def Rpu.objectReports (r : Rpu) : Nat := r.rq.countP Report.isObjectReport

/-- General places in use: (r - 2, if above 0) + (n - 4, if above 0) + o (R192). -/
def Rpu.generalUsed (r : Rpu) : Nat := (r.responses - 2) + (r.notices - 4) + r.objectReports

/-- A general place is free (R192). -/
def Rpu.generalFree (r : Rpu) : Bool := decide (r.generalUsed < 26)

/-- A frame joins the RQ at its tail, and the RO arbiter tests (R190, R192). -/
def joinRq (x : Report) (s : State) : State :=
  roKick (s.setRpu { s.rpu with rq := s.rpu.rq ++ [x] })

/-- A response is admitted in every case (R193). The removal of a notice takes one that holds a
general place, a notice beyond the fourth. -/
def admitResponse (x : Response) (s : State) : State :=
  if decide (s.rpu.responses < 2) || s.rpu.generalFree then joinRq (.response x) s
  else if 0 < s.rpu.objectReports then
    joinRq (.response x)
      (bump .reportsDropped
        (s.setRpu { s.rpu with rq := eraseLast Report.isObjectReport s.rpu.rq }))
  else if 4 < s.rpu.notices then
    joinRq (.response x)
      (bump .noticesDropped (s.setRpu { s.rpu with rq := eraseLast Report.isNotice s.rpu.rq }))
  else joinRq (.response x) s

/-- A notice is posted: only while the engine is numbered, and admitted or dropped (R195). -/
def notice (n : Notice) (s : State) : State :=
  if s.numbered then
    if decide (s.rpu.notices < 4) || s.rpu.generalFree then joinRq (.notice s.unitNumber n) s
    else bump .noticesDropped s
  else s

/-- An object report is posted: admitted to a general place or dropped (R195). -/
def postReport (r : ObjectReport) (s : State) : State :=
  if s.rpu.generalFree then joinRq (.objectReport s.unitNumber r) s else bump .reportsDropped s

/-! ## Responses (R164, R165) -/

/-- One response is queued with the unit number held at the queueing (R164). -/
def respond (code : Byte) (tag : Word16) (status : Status) (detail : Nat) (data : List Byte)
    (s : State) : State :=
  admitResponse
    { unit := s.unitNumber
      tag := tag
      code := code
      status := status
      detail := BitVec.ofNat 32 detail
      data := data } s

/-- The executing command ends: it becomes absent and its one response is queued (R165). -/
def endCommand (status : Status) (detail : Nat) (data : List Byte) (s : State) : State :=
  match s.cmu.executing with
  | none => s
  | some e =>
      respond (BitVec.ofNat 8 e.command.code) e.tag status detail data
        (s.setCmu { s.cmu with executing := none })

/-- An accepted sequenced command that does not complete at acceptance becomes the executing command
(R165). -/
def beginCommand (c : Command) (tag : Word16) (s : State) : State :=
  s.setCmu { s.cmu with executing := some { command := c, tag := tag } }

/-! ## Fault causes (R17, R34, R139, R175, R176, R186) -/

/-- A block raises a fault cause. In SORTING or DRAINING it requests FAULT entry and waits to be taken;
in FAULT it is a later cause; in STANDBY and OFFLINE it requests nothing. -/
def raiseCause (c : FaultCause) (s : State) : State :=
  match s.cmu.engine with
  | .sorting => s.setCmu { s.cmu with causes := s.cmu.causes ++ [c] }
  | .draining => s.setCmu { s.cmu with causes := s.cmu.causes ++ [c] }
  | .fault => bump .faultsWhileFaulted s
  | .standby => s
  | .offline => s

/-! ## Downstream out (R180, R185) -/

/-- DO starts its next frame at a boundary: a due PAUSE first, else the head of the forward queue.
While the link is DOWN the forward queue is sent to its end and a due PAUSE stays due. -/
def doChoose (s : State) : State :=
  if s.lki.pauseDue && decide (s.lki.link = .up) then
    bump .pausesSent (s.setLki { s.lki with doFrame := some pauseFrame, pauseDue := false })
  else
    match s.lki.forwardQueue with
    | [] => s
    | f :: rest => s.setLki { s.lki with doFrame := some f, forwardQueue := rest }

/-- DO acts when no frame is in transmission on it. -/
def doKick (s : State) : State := if s.lki.doFrame.isNone then doChoose s else s

end Sys2Proof.Machine
end

