-- ==== Sys2Proof/Machine/Valves.lean ====
section
/-! DEFINITION. The Valve Controller's operations: the ON test and holdoff, the reference counts, the
thermal tick and the trip, the valve test, and the Valve Port exchange
(07_valves_and_the_valve_port.md). -/

namespace Sys2Proof.Machine

/-- The state with valve `i`'s record replaced. -/
def State.setValve (s : State) (i : Nat) (v : Valve) : State :=
  s.setVlc { s.vlc with valves := s.vlc.valves.set i v }

/-- Image due is set (R123, R134). -/
def setImageDue (s : State) : State := s.setVlc { s.vlc with imageDue := true }

/-! ## The ON test and holdoff (R122 ~ R125) -/

/-- An ON valve enters HOLDOFF (R124): the timer is loaded with holdoff x 10 us and the delay mark is
cleared. With holdoff 0 the timer expires as it is loaded and the valve is IDLE. -/
def Valve.enterHoldoff (holdoff : Nat) (v : Valve) : Valve :=
  if holdoff = 0 then { v with state := .idle, holdoff := none, delayMark := false, tripDue := false }
  else { v with state := .holdoff, holdoff := some (holdoff * 100), delayMark := false,
                tripDue := false }

/-- The ON test of valve `i` (R122), with image due (R123) and the deferral count (R125). -/
def onTest (i : Nat) (s : State) : State :=
  let v := s.valve i
  let on := v.onCondition s.bpu.beltState (s.vlc.tests i)
  match v.state with
  | .idle => if on then setImageDue (s.setValve i { v with state := .on }) else s
  | .on => if on then s else setImageDue (s.setValve i (v.enterHoldoff s.cmu.config.holdoff))
  | .holdoff =>
      if on && !v.delayMark then bump .valveDelays (s.setValve i { v with delayMark := true }) else s
  | .tripped => s
  | .disabled _ => s

/-- The ON test applied to each of the 64 valves that `sel` names, in ascending order. -/
def onTests (sel : Nat → Bool) (s : State) : State :=
  (List.range 64).foldl (fun t i => if sel i then onTest i t else t) s

/-- The valves' reaction to the end of an event that began in `before`: every valve if the belt state
has changed (R8), and each valve whose reference count has changed (R114, R122; log 7). -/
def handOver (before s : State) : State :=
  onTests
    (fun i => decide (before.bpu.beltState ≠ s.bpu.beltState)
      || decide ((before.valve i).refCount ≠ (s.valve i).refCount)) s

/-! ## Reference counts (R103, R126) -/

/-- Each count of the range raised by 1; a raise that finds a valve TRIPPED or DISABLED is counted in
valve_skipped (R126). -/
def raiseCounts (first last : Nat) (s : State) : State :=
  bumpBy .valveSkipped (((s.vlc.valves.drop first).take (last + 1 - first)).countP Valve.blocked)
    (s.setVlc
      { s.vlc with
        valves :=
          mapFrom
            (fun i v => if first ≤ i ∧ i ≤ last then { v with refCount := v.refCount + 1 } else v)
            0 s.vlc.valves })

/-- Each count of the range lowered by 1 (R112, R126). -/
def lowerCounts (first last : Nat) (s : State) : State :=
  s.setVlc
    { s.vlc with
      valves :=
        mapFrom
          (fun i v => if first ≤ i ∧ i ≤ last then { v with refCount := v.refCount - 1 } else v)
          0 s.vlc.valves }

/-- Every reference count becomes 0 (R119). -/
def zeroCounts (s : State) : State :=
  s.setVlc { s.vlc with valves := s.vlc.valves.map (fun v => { v with refCount := 0 }) }

/-! ## Valve test (R131 ~ R133) -/

/-- The test valve becomes absent and the executing VALVE_TEST ends with a status. -/
def endTest (status : Status) (detail : Nat) (data : List Byte) (s : State) : State :=
  endCommand status detail data (s.setVlc { s.vlc with test := none })

/-- The test of valve `i`, if running, ends with a status. -/
def endTestOf (i : Nat) (status : Status) (detail : Nat) (s : State) : State :=
  if s.vlc.tests i then endTest status detail [] s else s

/-- A running test ends and its valve goes to HOLDOFF (R132, R133): the test valve becomes absent, the
ON test is applied, and the response is queued. -/
def endTestOff (status : Status) (data : Nat → State → List Byte) (s : State) : State :=
  match s.vlc.test with
  | none => s
  | some t =>
      let u := onTest t.valve (s.setVlc { s.vlc with test := none })
      endCommand status 0 (data t.valve u) u

/-- An aborted test: the valve goes to HOLDOFF and the executing command ends with ABORTED (R133). -/
def abortTest (s : State) : State :=
  if s.vlc.test.isSome then endTestOff .aborted (fun _ _ => []) s else endCommand .aborted 0 [] s

/-- The expiry of the test time (R132): status OK, with the valve number and the thermal count at the
end. -/
def testExpires (s : State) : State :=
  endTestOff .ok (fun i u => le 1 i ++ le 2 (u.valve i).thermal) s

/-! ## Holdoff expiry (R125) -/

/-- The holdoff timer of valve `i` expires: the valve becomes IDLE, the timer absent, and the ON test
is applied. -/
def holdoffExpires (i : Nat) (s : State) : State :=
  match (s.valve i).holdoff with
  | none => s
  | some _ => onTest i (s.setValve i { s.valve i with state := .idle, holdoff := none })

/-! ## Thermal tick and trip (R127, R128) -/

/-- One thermal tick of one valve (R127), with the mark of the trip it brings (R128). -/
def Valve.tick (heatStep tripLevel : Nat) (v : Valve) : Valve :=
  if v.state = .on then
    let t := min 65535 (v.thermal + heatStep)
    { v with thermal := t, tripDue := decide (tripLevel ≤ t) }
  else { v with thermal := v.thermal - 1 }

/-- The tick acts on all 64 valves at once (R127). -/
def heat (s : State) : State :=
  s.setVlc
    { s.vlc with
      valves := s.vlc.valves.map (Valve.tick s.cmu.config.heatStep s.cmu.config.tripLevel) }

/-- A valve that the tick has left hot while ON trips (R128). -/
def trip (i : Nat) (s : State) : State :=
  let v := s.valve i
  if v.tripDue && decide (v.state = .on) then
    endTestOf i .valveHot v.thermal
      (notice (.valveTrip i v.thermal v.refCount)
        (bump .valveTrips
          (setImageDue (s.setValve i { v with state := .tripped, tripDue := false }))))
  else s

/-- The thermal tick with the trips it brings (R127, R128). DESIGN CHOICE (log 8): valves that trip at one
tick trip, and post their VALVE_TRIP notices, in ascending order; no rule gives their order. Unsafe. -/
def thermalTick (s : State) : State := (List.range 64).foldl (fun t i => trip i t) (heat s)

/-! ## Valve Port (R134 ~ R138) -/

/-- A Valve Image frame starts (R134). -/
def startImage (s : State) : State :=
  s.setVlc
    { s.vlc with
      image := some (valveImage s.vlc.nextSequence s.vlc.outputs)
      awaited := some s.vlc.nextSequence
      nextSequence := s.vlc.nextSequence + 1
      imageDue := false
      refresh := 0
      phase := .sending }

/-- The image's transmission ends and the 100 us answer window opens (R134). -/
def openWindow (s : State) : State :=
  s.setVlc { s.vlc with phase := .awaiting, answerLeft := some 1000 }

/-- The answer window is closed: the phase becomes FREE and the awaited sequence absent (R135, R137). -/
def closeWindow (s : State) : State :=
  s.setVlc { s.vlc with phase := .free, awaited := none, answerLeft := none, image := none }

/-- A coil fault makes the valve DISABLED with cause COIL (R136), unless it is so already. -/
def coilFault (i : Nat) (s : State) : State :=
  let v := s.valve i
  if v.coilFault && decide (v.state ≠ .disabled .coil) then
    let w := { v with state := .disabled .coil, holdoff := none, tripDue := false }
    let t := s.setValve i w
    let u := if v.state = .on then setImageDue t else t
    endTestOf i .valveState (ValveState.disabled .coil).code
      (notice (.valveCoil i v.state) (bump .valveCoilFaults u))
  else s

/-- The coil fault indications of a matching Status frame are applied (R136): all are replaced, then
each valve acts. DESIGN CHOICE (log 8): the valves act, and post their VALVE_COIL notices, in ascending
order; no rule gives their order. Unsafe. -/
def applyStatus (b : List Byte) (s : State) : State :=
  (List.range 64).foldl (fun t i => coilFault i t)
    (s.setVlc
      { s.vlc with
        valves := mapFrom (fun i v => { v with coilFault := statusFault b i }) 0 s.vlc.valves })

/-- The link is restored by a matching Status frame while LOST (R138). -/
def restoreLink (sequence : Byte) (s : State) : State :=
  if s.vlc.link = .lost then
    notice (.valveLinkRestored sequence) (s.setVlc { s.vlc with link := .up })
  else s

/-- A matching Status frame (R135, R136, R138). -/
def statusMatches (b : List Byte) (s : State) : State :=
  restoreLink (b.getD 0 0)
    (applyStatus b ((closeWindow s).setVlc { (closeWindow s).vlc with missCount := 0 }))

/-- A Status frame arrives (R135). -/
def statusArrives (b : List Byte) (s : State) : State :=
  if statusGood b && decide (s.vlc.phase = .awaiting) && decide (s.vlc.awaited = some (b.getD 0 0))
  then statusMatches b s
  else bump .valveStatusErrors s

/-- The third miss while the link is UP makes it LOST (R137, R133). -/
def loseValveLink (sequence : Byte) (s : State) : State :=
  endTestOff .valveLink (fun _ _ => [])
    (raiseCause .valveLinkLost
      (notice (.valveLinkLost sequence s.cmu.engine)
        (bump .valveLinkLosses (s.setVlc { s.vlc with link := .lost }))))

/-- The answer window closes unanswered: a miss (R137). -/
def windowCloses (s : State) : State :=
  let n := min 3 (s.vlc.missCount + 1)
  let t := (closeWindow s).setVlc { (closeWindow s).vlc with missCount := n }
  if decide (n = 3) && decide (s.vlc.link = .up) then loseValveLink (s.vlc.awaited.getD 0) t else t

/-! ## VALVE_CONTROL (R129, R130) -/

/-- DISABLE makes the valve DISABLED with cause SOFT from every state (R129). -/
def disableValve (i : Nat) (s : State) : State :=
  let v := s.valve i
  let t := s.setValve i { v with state := .disabled .soft, holdoff := none, tripDue := false }
  if v.state = .on then setImageDue t else t

/-- The valve becomes IDLE and the ON test is applied at once (R126, R130). -/
def enableValve (i : Nat) (s : State) : State :=
  onTest i (s.setValve i { s.valve i with state := .idle })

end Sys2Proof.Machine
end

