-- ==== Sys2Proof/Machine/Ejection.lean ====
section
/-! DEFINITION. The Ejection Scheduler's operations: the taking of a request, the overlap policies, the
activation test, the compares of an advance, and the flush (06_ejection_scheduling.md). -/

namespace Sys2Proof.Machine

/-! ## Records and distances (06, section 6.2) -/

/-- Open distance of a record. -/
def EjectionRecord.openDistance (travel : Position) (r : EjectionRecord) : Nat :=
  waitDistance r.openPos travel

/-- Close distance of a record. -/
def EjectionRecord.closeDistance (travel : Position) (r : EjectionRecord) : Nat :=
  waitDistance r.closePos travel

/-- Whether a request's or record's source is BLIND. -/
def EjectionSource.isBlind : EjectionSource → Bool
  | .object _ => false
  | .blind => true

/-- The record the EJS makes from a request (R100). -/
def EjectionRequest.record (q : EjectionRequest) (late : Bool) : EjectionRecord where
  source := q.source
  valveFirst := q.valveFirst
  valveLast := q.valveLast
  openPos := q.openPos
  closePos := q.closePos
  mergedCount := 0
  late := late
  blind := q.source.isBlind
  merged := false
  waited := false

/-- A record in the EQ goes after every record whose open distance is less than or equal to its own
(R101). -/
def placeRecord (travel : Position) (r : EjectionRecord) : List EjectionRecord → List EjectionRecord
  | [] => [r]
  | x :: xs =>
      if x.openDistance travel ≤ r.openDistance travel then x :: placeRecord travel r xs
      else r :: x :: xs

/-- A request and a record overlap (R106). -/
def overlaps (travel : Position) (q : EjectionRequest) (r : EjectionRecord) : Bool :=
  decide (q.valveFirst ≤ r.valveLast) && decide (r.valveFirst ≤ q.valveLast)
    && decide (waitDistance q.openPos travel ≤ r.closeDistance travel)
    && decide (r.openDistance travel ≤ waitDistance q.closePos travel)

/-- A record of an AEL slot that a request overlaps. -/
def overlapsSlot (travel : Position) (q : EjectionRequest) : Option EjectionRecord → Bool
  | none => false
  | some r => overlaps travel q r

/-- The fields every folding changes (R107, R108): close position, valve range, merged count, MERGED and
BLIND. -/
def foldInto (travel : Position) (q : EjectionRequest) (r : EjectionRecord) : EjectionRecord :=
  { r with
    closePos :=
      if r.closeDistance travel < waitDistance q.closePos travel then q.closePos else r.closePos
    valveFirst := min r.valveFirst q.valveFirst
    valveLast := max r.valveLast q.valveLast
    mergedCount := min 255 (r.mergedCount + 1)
    merged := true
    blind := r.blind || q.source.isBlind }

/-! ## Activation (R110, R113, R115) -/

/-- A record enters the AEL slot `i` and is activated: the counts of its valves rise, and it is counted
in ejections_fired, and in ejections_late if it carries LATE. -/
def activate (i : Nat) (r : EjectionRecord) (s : State) : State :=
  let t := raiseCounts r.valveFirst r.valveLast
    (s.setEjs { s.ejs with ael := s.ejs.ael.set i (some r) })
  let u := bump .ejectionsFired t
  if r.late then bump .ejectionsLate u else u

/-- The waiting record at the EQ head is counted the first time it is found so (R115). -/
def countWait (r : EjectionRecord) (rest : List EjectionRecord) (s : State) : State :=
  if r.waited then s
  else bump .aelWaits (s.setEjs { s.ejs with eq := { r with waited := true } :: rest })

/-- The activation test, repeated while it changes the EQ head, at most `n` times (R113). -/
def activationTest : Nat → State → State
  | 0, s => s
  | n + 1, s =>
      match s.ejs.eq with
      | [] => s
      | r :: rest =>
          if reached r.openPos s.bpu.travel then
            if reached r.closePos s.bpu.travel then
              activationTest n
                (bump .ejectionsMissedAelFull (s.setEjs { s.ejs with eq := rest }))
            else
              match freeIndex s.ejs.ael with
              | some i => activationTest n (activate i r (s.setEjs { s.ejs with eq := rest }))
              | none => countWait r rest s
          else s

/-- The activation test applied to the EQ head until it ends. -/
def testHead (s : State) : State := activationTest (s.ejs.eq.length + 1) s

/-! ## An advance (R112, R113) -/

/-- The AEL record of slot `i` is removed if its close position is reached (R112). -/
def closeSlot (i : Nat) (s : State) : State :=
  match s.ejs.ael.getD i none with
  | none => s
  | some r =>
      if reached r.closePos s.bpu.travel then
        lowerCounts r.valveFirst r.valveLast
          (s.setEjs { s.ejs with ael := s.ejs.ael.set i none })
      else s

/-- The removals of an advance (R112). -/
def closeRecords (s : State) : State := (List.range 16).foldl (fun t i => closeSlot i t) s

/-- The compares of an advance: removals, then the activation test (R112, R113). -/
def ejectionAdvance (s : State) : State := testHead (closeRecords s)

/-! ## Taking a request (R105 ~ R111) -/

/-- A request folded into the EQ record at place `k` (R107). -/
def mergeQueued (k : Nat) (q : EjectionRequest) (r : EjectionRecord) (s : State) : State :=
  let travel := s.bpu.travel
  let t := bump .ejectionsMerged s
  let m := foldInto travel q r
  if waitDistance q.openPos travel < r.openDistance travel then
    let now := reached q.openPos travel
    let e := { m with openPos := q.openPos, late := m.late || now }
    let u := t.setEjs { t.ejs with eq := placeRecord travel e (t.ejs.eq.eraseIdx k) }
    if now then testHead u else u
  else t.setEjs { t.ejs with eq := t.ejs.eq.set k m }

/-- A request folded into the AEL record of slot `i` (R108): the valves the union adds to the range have
their counts raised at once. -/
def mergeActive (i : Nat) (q : EjectionRequest) (r : EjectionRecord) (s : State) : State :=
  let m := foldInto s.bpu.travel q r
  let t := bump .ejectionsMerged (s.setEjs { s.ejs with ael := s.ejs.ael.set i (some m) })
  let u := if m.valveFirst < r.valveFirst then raiseCounts m.valveFirst (r.valveFirst - 1) t else t
  if r.valveLast < m.valveLast then raiseCounts (r.valveLast + 1) m.valveLast u else u

/-- A request whose open position is reached (R110). -/
def makeLate (q : EjectionRequest) (s : State) : State :=
  match freeIndex s.ejs.ael with
  | some i => activate i (q.record true) s
  | none =>
      if s.ejs.eq.length < 64 then
        s.setEjs { s.ejs with eq := placeRecord s.bpu.travel (q.record true) s.ejs.eq }
      else bump .ejectionsRefusedFull s

/-- A request placed in the EQ, or refused when the EQ is full (R111). -/
def makeQueued (q : EjectionRequest) (s : State) : State :=
  if s.ejs.eq.length < 64 then
    s.setEjs { s.ejs with eq := placeRecord s.bpu.travel (q.record false) s.ejs.eq }
  else bump .ejectionsRefusedFull s

/-- Steps 3 and 4 of a request (R105). -/
def makeRecord (q : EjectionRequest) (s : State) : State :=
  if reached q.openPos s.bpu.travel then makeLate q s else makeQueued q s

/-- Step 2 under MERGE: the first overlapping record, AEL slots first, then the EQ (R106 ~ R108). -/
def takeMerge (q : EjectionRequest) (s : State) : State :=
  match s.ejs.ael.findIdx? (overlapsSlot s.bpu.travel q) with
  | some i =>
      match s.ejs.ael.getD i none with
      | some r => mergeActive i q r s
      | none => s
  | none =>
      match s.ejs.eq.findIdx? (overlaps s.bpu.travel q) with
      | some k =>
          match s.ejs.eq[k]? with
          | some r => mergeQueued k q r s
          | none => s
      | none => makeRecord q s

/-- Step 2 under REFUSE (R109). -/
def takeRefuse (q : EjectionRequest) (s : State) : State :=
  if s.ejs.ael.any (overlapsSlot s.bpu.travel q) || s.ejs.eq.any (overlaps s.bpu.travel q) then
    bump .ejectionsRefusedOverlap s
  else makeRecord q s

/-- The four steps of a request (R105). -/
def takeRequest (q : EjectionRequest) (s : State) : State :=
  if reached q.closePos s.bpu.travel then bump .ejectionsMissedLate s
  else
    match s.cmu.config.overlapPolicy with
    | .merge => takeMerge q s
    | .refuse => takeRefuse q s
    | .separate => makeRecord q s

/-- A request taken as one event, its count changes handed to the valves at its end (R104, R114). -/
def requestEvent (q : EjectionRequest) (s : State) : State := handOver s (takeRequest q s)

/-- The first request a block has handed over and that has not been taken, if there is one, is taken
(R104; log 2). -/
def takeFrom (src : Requester) (s : State) : State :=
  match src with
  | .verdictUnit =>
      match s.ejs.vduRequests with
      | [] => s
      | q :: rest => requestEvent q (s.setEjs { s.ejs with vduRequests := rest })
  | .objectAssembler =>
      match s.ejs.oasRequests with
      | [] => s
      | q :: rest => requestEvent q (s.setEjs { s.ejs with oasRequests := rest })

/-- A block hands a request to the EJS (R75, R93; log 2). -/
def handRequest (src : Requester) (q : EjectionRequest) (s : State) : State :=
  match src with
  | .verdictUnit => s.setEjs { s.ejs with vduRequests := s.ejs.vduRequests ++ [q] }
  | .objectAssembler => s.setEjs { s.ejs with oasRequests := s.ejs.oasRequests ++ [q] }

/-! ## Flush (R119) -/

/-- The requests handed over before the flush are taken first (R119). DESIGN CHOICE (log 12): those of the
Verdict Unit are taken before those of the Object Assembler; R104 allows either order. Unsafe. -/
def takeAll (s : State) : State :=
  (s.ejs.vduRequests ++ s.ejs.oasRequests).foldl (fun t q => requestEvent q t)
    (s.setEjs { s.ejs with vduRequests := [], oasRequests := [] })

/-- Every record is dropped and counted, and every reference count becomes 0 (R119). -/
def dropRecords (s : State) : State :=
  bumpBy .ejectionsMissedFlush (s.ejs.eq.length + s.ejs.activeCount)
    (zeroCounts (s.setEjs { s.ejs with eq := [], ael := List.replicate 16 none }))

/-- The flush, its count changes handed to the valves as one change (R119, R114). -/
def flush (s : State) : State :=
  let t := takeAll s
  handOver t (dropRecords t)

end Sys2Proof.Machine
end

