-- ==== Sys2Proof/Machine/Verdict.lean ====
section
/-! DEFINITION. The Verdict Queue, the take and the completion of an evaluation (05_verdict.md), and the
move of closed objects into the VQ (04_object_assembly.md R71, R72). -/

namespace Sys2Proof.Machine

/-! ## Closing order list, VQ, take (R72, R83, R84) -/

/-- The IDLE VDU takes the VQ head (R84). -/
def vduTake (s : State) : State :=
  match s.vdu.evaluating, s.vdu.vq with
  | none, o :: rest => s.setVdu { s.vdu with vq := rest, evaluating := some o }
  | _, _ => s

/-- The head of the closing order list moves into the VQ while the VQ holds fewer than 16 objects
(R72): the record joins the VQ tail, the entry leaves the list, the slot becomes FREE. -/
def closingMove (s : State) : State :=
  match s.oas.closingOrder with
  | [] => s
  | i :: rest =>
      if s.vdu.vq.length < 16 then
        match s.oas.oot.getD i .free with
        | .closing o =>
            (s.setOas { s.oas with closingOrder := rest, oot := s.oas.oot.set i .free }).setVdu
              { s.vdu with vq := s.vdu.vq ++ [o] }
        | .opened _ => s
        | .free => s
      else s

/-- Moves and takes, one after another while they can be made, at most `n` times (R72, R84). -/
def pumpN : Nat → State → State
  | 0, s => s
  | n + 1, s => pumpN n (vduTake (closingMove (vduTake s)))

/-- Moves and takes until neither can be made. -/
def pump (s : State) : State := pumpN (s.oas.closingOrder.length + 1) s

/-! ## Flag policies and rules (R87 ~ R89) -/

/-- Whether an object carries a policy flag. -/
def ObjectFlags.has (f : ObjectFlags) : PolicyFlag → Bool
  | .lineLoss => f.lineLoss
  | .mixed => f.mixed
  | .truncated => f.truncated
  | .oversize => f.oversize
  | .partialLine => f.partialLine
  | .gap => f.gap

/-- The policy of a flag (R87). -/
def Configuration.policy (c : Configuration) : PolicyFlag → Policy
  | .lineLoss => c.policyLineLoss
  | .mixed => c.policyMixed
  | .truncated => c.policyTruncated
  | .oversize => c.policyOversize
  | .partialLine => c.policyPartial
  | .gap => c.policyGap

/-- The order in which the policy flags are taken (R87). -/
def policyOrder : List PolicyFlag := [.lineLoss, .mixed, .truncated, .oversize, .partialLine, .gap]

/-- The decision of one flag, none when it is absent or its policy is EVALUATE (R87). -/
def flagDecision (c : Configuration) (f : ObjectFlags) (p : PolicyFlag) : Option Verdict :=
  if f.has p then
    match c.policy p with
    | .evaluate => none
    | .reject => some .reject
    | .accept => some .accept
  else none

/-- The decision of the flag policies (R87). -/
def flagPolicies (c : Configuration) (f : ObjectFlags) : Option (Verdict × DecidingSource) :=
  policyOrder.findSome? (fun p => (flagDecision c f p).map (fun v => (v, DecidingSource.flag p)))

/-- The mask sum (R88): the histogram counts of the classes in the mask, with no saturation. -/
def maskSum (mask : Word16) (histogram : List Nat) : Nat :=
  (mapFrom (fun c n => if mask.getLsbD c then n else 0) 0 histogram).sum

/-- A measure of a class mask (R88). -/
def measureOf (m : Measure) (mask : Word16) (o : ObjectRecord) : Nat :=
  match m with
  | .count => maskSum mask o.histogram
  | .share => 1000 * maskSum mask o.histogram / o.area

/-- The coincidence term is absent or satisfied (R88, condition 4). -/
def Rule.coincides (r : Rule) (o : ObjectRecord) : Bool :=
  match r.coincidence with
  | none => true
  | some t => decide (t.threshold ≤ measureOf t.measure t.mask o)

/-- A rule matches an object (R88). -/
def Rule.matches (r : Rule) (o : ObjectRecord) : Bool :=
  r.enabled && decide (r.areaMin ≤ o.area) && decide (o.area ≤ r.areaMax)
    && decide (r.threshold ≤ measureOf r.measure r.mask o) && r.coincides o

/-- The outcome an action gives. -/
def RuleAction.verdict : RuleAction → Verdict
  | .accept => .accept
  | .reject => .reject

/-- The rules from number `n` on, then the default action (R89). -/
def applyRules (default : RuleAction) (o : ObjectRecord) : Nat → List Rule → Verdict × DecidingSource
  | _, [] => (default.verdict, .default)
  | n, r :: rest =>
      if r.matches o then (r.action.verdict, .rule n) else applyRules default o (n + 1) rest

/-! ## Completion (R85 ~ R94) -/

/-- The centre column (R86). -/
def ObjectRecord.centre (o : ObjectRecord) : Nat := (o.colMin + o.colMax) / 2

/-- The outcome and its deciding source: ownership, flag policies, rules (R86, R87, R89). -/
def judge (c : Configuration) (bank : ProductBank) (o : ObjectRecord) : Verdict × DecidingSource :=
  if c.owns o.centre then
    match flagPolicies c o.flags with
    | some d => d
    | none => applyRules bank.default o 0 bank.rules
  else (.discarded, .ownership)

/-- The counter an outcome advances (R85). -/
def Verdict.counter : Verdict → Counter
  | .discarded => .objectsDiscarded
  | .accept => .objectsAccepted
  | .reject => .objectsRejected

/-- The ejection window of a reject (R91). -/
def ejectionWindow (c : Configuration) (lead : Nat) (o : ObjectRecord) : Position × Position :=
  (openPosition c lead o.startPos, closePosition c lead o.lastPos)

/-- The ejection result of a reject (R93). -/
def ejectionResult (travel : Position) (window : Position × Position)
    (valves : Option (Nat × Nat)) : EjectionResult :=
  match valves with
  | none => .noValve
  | some _ => if reached window.2 travel then .late else .requested

/-- The effects of an ejection result (R93). -/
def settleReject (o : ObjectRecord) (window : Position × Position) (valves : Option (Nat × Nat))
    (s : State) : State :=
  match valves with
  | none => bump .noValve s
  | some v =>
      if reached window.2 s.bpu.travel then bump .ejectionsMissedLate s
      else
        handRequest .verdictUnit
          { source := .object o.number
            valveFirst := v.1
            valveLast := v.2
            openPos := window.1
            closePos := window.2 } s

/-- Whether report_mode calls for a report (R94). -/
def ReportMode.wants : ReportMode → Verdict → Bool
  | .none, _ => false
  | .rejects, v => decide (v = .reject)
  | .all, _ => true

/-- The object report of a completion (R94). -/
def objectReport (o : ObjectRecord) (d : Verdict × DecidingSource) (s : State) : ObjectReport :=
  let window := ejectionWindow s.cmu.config s.lead o
  let valves := valveRange s.cmu.config s.tbs.vmt o.colMin o.colMax
  let rejected := decide (d.1 = .reject)
  { object := o
    verdict := d.1
    source := d.2
    generation := s.tbs.generation
    result := if rejected then ejectionResult s.bpu.travel window valves else .none
    window := if rejected then some window else none
    valves := if rejected then valves else none
    travel := s.bpu.travel }

/-- The completion of the evaluation of an object (R85): the outcome's counter, for a reject its window
and its request, and the report. -/
def complete (o : ObjectRecord) (s : State) : State :=
  let d := judge s.cmu.config s.tbs.activeBank o
  let t := bump d.1.counter (s.setVdu { s.vdu with evaluating := none })
  let u :=
    if d.1 = .reject then
      settleReject o (ejectionWindow s.cmu.config s.lead o)
        (valveRange s.cmu.config s.tbs.vmt o.colMin o.colMax) t
    else t
  if s.cmu.config.reportMode.wants d.1 then postReport (objectReport o d s) u else u

/-- The completion of the evaluation under way, and the take that follows it (R84, R85). -/
def evaluationCompletes (s : State) : State :=
  match s.vdu.evaluating with
  | none => s
  | some o => pump (complete o s)

/-- The VQ is emptied and the object under evaluation abandoned, each counted (R96, R97). -/
def abandonVerdicts (s : State) : State :=
  bumpBy .objectsAbandoned s.vdu.held (s.setVdu { vq := [], evaluating := none })

end Sys2Proof.Machine
end

