-- ==== Sys2Proof/Machine/Tables.lean ====
section
/-! DEFINITION. The Table Store's operations: the two banks, the copy, the scrubber and the swap
(08_tables_and_banks.md). -/

namespace Sys2Proof.Machine

/-! ## Banks -/

/-- The table store with a bank replaced. -/
def Tbs.setBank (t : Tbs) (b : Bank) (p : ProductBank) : Tbs :=
  match b with
  | .a => { t with bankA := p }
  | .b => { t with bankB := p }

/-- The state with a bank replaced. -/
def State.setBank (s : State) (b : Bank) (p : ProductBank) : State := s.setTbs (s.tbs.setBank b p)

/-- The standby bank's name. -/
def Tbs.standby (t : Tbs) : Bank := otherBank t.active

/-- The state with the standby bank replaced. -/
def State.setStandby (s : State) (p : ProductBank) : State := s.setBank s.tbs.standby p

/-- A bank with a block replaced. -/
def ProductBank.setBlock (p : ProductBank) (n : Nat) (b : CctBlock) : ProductBank :=
  { p with cct := p.cct.set n b }

/-- The state with a block of a bank replaced. -/
def State.setBlock (s : State) (b : Bank) (n : Nat) (x : CctBlock) : State :=
  s.setBank b ((s.tbs.bank b).setBlock n x)

/-- A block whose codes are all one class, with its check word, VALID (R150). -/
def CctBlock.filled (c : ClassCode) : CctBlock :=
  let codes := List.replicate 256 c
  { codes := codes, check := blockCheck codes, state := .valid }

/-- The first block of a bank in a state (R158, R170). -/
def ProductBank.firstIn (p : ProductBank) (st : BlockState) : Option Nat :=
  p.cct.findIdx? (fun b => decide (b.state = st))

/-- A stored entry changes of itself (R157). -/
def changeEntry (b : Bank) (index : Nat) (code : ClassCode) (s : State) : State :=
  let n := index / 256
  let x := (s.tbs.bank b).block n
  s.setBlock b n { x with codes := x.codes.set (index % 256) code }

/-! ## BANK_COPY (R155) -/

/-- The copy of a block: BAD when a VALID source fails its check (R155). -/
def CctBlock.copied (b : CctBlock) : CctBlock :=
  if b.state = .valid ∧ blockCheck b.codes ≠ b.check then { b with state := .bad } else b

/-- The step for block `n` (R155). -/
def copyBlock (p : CopyProgress) (s : State) : State :=
  let source := s.tbs.activeBank.block p.next
  let failed := decide (source.state = .valid) && decide (source.copied.state = .bad)
  let t := s.setBlock s.tbs.standby p.next source.copied
  t.setTbs
    { t.tbs with
      copy := some { next := p.next + 1, badCopies := p.badCopies + (if failed then 1 else 0) } }

/-- The final step: the NBT and the RRT are copied whole and BANK_COPY ends (R155). -/
def copyTables (p : CopyProgress) (s : State) : State :=
  let a := s.tbs.activeBank
  let t := s.setStandby { s.tbs.standbyBank with nbt := a.nbt, rules := a.rules, default := a.default }
  endCommand .ok p.badCopies [] (t.setTbs { t.tbs with copy := none })

/-- One copy step (R155). -/
def copyStep (s : State) : State :=
  match s.tbs.copy with
  | none => s
  | some p => if p.next < 128 then copyBlock p s else copyTables p s

/-! ## Scrubber (R157) -/

/-- The block at the scrub pointer is rechecked; BAD on a mismatch (R157). -/
def scrubBlock (s : State) : State :=
  let n := s.tbs.scrubPointer
  let b := s.tbs.activeBank.block n
  if b.state = .valid ∧ blockCheck b.codes ≠ b.check then
    notice (.tableBlockBad s.tbs.active n b.check (blockCheck b.codes))
      (bump .scrubMismatches (s.setBlock s.tbs.active n { b with state := .bad }))
  else s

/-- A scrub check: the count becomes 0, the block is rechecked, the pointer rises (R157). -/
def scrubCheck (s : State) : State :=
  let t := scrubBlock (s.setTbs { s.tbs with scrubCount := 0 })
  t.setTbs { t.tbs with scrubPointer := (t.tbs.scrubPointer + 1) % 128 }

/-- The scrub check is made when the scrub line count has reached scrub_interval (R157). -/
def scrubIfDue (s : State) : State :=
  if s.cmu.config.scrubInterval ≠ 0 ∧ s.cmu.config.scrubInterval ≤ s.tbs.scrubCount then scrubCheck s
  else s

/-- An assembled line counts toward the scrub interval (R81, R157). -/
def scrubLine (s : State) : State :=
  if s.cmu.config.scrubInterval = 0 then s
  else scrubIfDue (s.setTbs { s.tbs with scrubCount := s.tbs.scrubCount + 1 })

/-! ## BANK_SWAP (R158 ~ R160) -/

/-- An object record with MIXED set. -/
def ObjectRecord.mixed (o : ObjectRecord) : ObjectRecord :=
  { o with flags := { o.flags with mixed := true } }

/-- MIXED set on the object of an OPEN or CLOSING slot (R81). -/
def OotSlot.mixed : OotSlot → OotSlot
  | .free => .free
  | .opened o => .opened o.mixed
  | .closing o => .closing o.mixed

/-- Every object in flight takes MIXED (R81, R95, R160). -/
def markMixed (s : State) : State :=
  (s.setOas { s.oas with oot := s.oas.oot.map OotSlot.mixed }).setVdu
    { vq := s.vdu.vq.map ObjectRecord.mixed
      evaluating := s.vdu.evaluating.map ObjectRecord.mixed }

/-- The exchange of the banks, steps 2 ~ 5 without the response (R160). -/
def exchangeBanks (s : State) : State :=
  bump .swapsCompleted
    (s.setTbs
      { s.tbs with
        active := otherBank s.tbs.active
        generation := s.tbs.generation + 1
        scrubPointer := 0
        scrubCount := 0
        swap := none })

/-- The pending swap completes at a quiet point (R159, R160). -/
def swapQuietly (s : State) : State := endCommand .ok 0 [] (exchangeBanks s)

/-- The pending swap is forced (R159, R160). -/
def swapForced (s : State) : State :=
  endCommand .ok s.inFlight [] (exchangeBanks (bump .swapsForced (markMixed s)))

/-- The swap completes if the boundary finds the quiet point (R159). -/
def swapAtQuietPoint (s : State) : State :=
  if s.tbs.boundary && s.tbs.swap.isSome && s.quiet then
    swapQuietly (s.setTbs { s.tbs with boundary := false })
  else s

/-- The swap is forced if the boundary finds no quiet point and lines counted equal to the deadline
(R159). -/
def swapAtDeadline (s : State) : State :=
  match s.tbs.swap with
  | none => s
  | some p =>
      if s.tbs.boundary && !s.quiet && decide (p.deadline ≤ p.counted) then
        swapForced (s.setTbs { s.tbs with boundary := false })
      else s

/-- The line counts toward the deadline (R159). -/
def swapCount (s : State) : State :=
  match s.tbs.swap with
  | none => s
  | some p =>
      if s.tbs.boundary then
        s.setTbs { s.tbs with swap := some { p with counted := p.counted + 1 } }
      else s

/-- A line boundary is signalled and acted on (R56, R159). -/
def lineBoundary (s : State) : State :=
  let t := swapAtDeadline (swapAtQuietPoint (s.setTbs { s.tbs with boundary := true }))
  let u := swapCount t
  u.setTbs { u.tbs with boundary := false }

end Sys2Proof.Machine
end

