-- ==== Sys2Proof/Machine/Classify.lean ====
section
/-! DEFINITION. The Pixel Classifier: correction, colour lookup, NIR band override, and the class row of
a line (03_pixel_classification_and_flat_field_calibration.md, R40 ~ R45). -/

namespace Sys2Proof.Machine

/-- Correction of one channel (R42). -/
def ChannelCal.correct (c : ChannelCal) (v : Nat) : Nat :=
  if v < c.dark then 0 else min 255 ((v - c.dark) * c.gain / 256)

/-- The dark-corrected value, with no gain (R47). -/
def ChannelCal.darkCorrect (c : ChannelCal) (v : Nat) : Nat := v - c.dark

/-- The CCT index of corrected visible channels (R43). -/
def cctIndex (r g b : Nat) : Nat := (r / 8) * 1024 + (g / 8) * 32 + b / 8

/-- The class of a pixel, with whether it fell in a BAD block and whether the override was taken. -/
structure Classified where
  code : ClassCode
  badBlock : Bool
  override : Bool
  deriving DecidableEq, Repr

/-- The NIR band test (R45). -/
def nirBand (e : NbtEntry) (n : Nat) (v : ClassCode) : Classified :=
  if n < e.low ∨ e.high < n then { code := e.override, badBlock := false, override := true }
  else { code := v, badBlock := false, override := false }

/-- The class of a received sample (R42 ~ R45). A lookup meets no UNWRITTEN block (R43): were it to, the
stored code would be read. -/
def classify (cal : ColumnCal) (bank : ProductBank) (p : Sample) : Classified :=
  let index :=
    cctIndex (cal.r.correct p.r.toNat) (cal.g.correct p.g.toNat) (cal.b.correct p.b.toNat)
  let block := bank.block (index / 256)
  if block.state = .bad then { code := 15, badBlock := true, override := false }
  else
    let v := block.codes.getD (index % 256) 0
    nirBand (bank.nbt.getD v.val { low := 0, high := 255, override := v }) (cal.n.correct p.n.toNat) v

/-- The class of a window column: BACKGROUND where no sample was received (R41). -/
def classifyColumn (cal : ColumnCal) (bank : ProductBank) : Option Sample → Classified
  | none => { code := 0, badBlock := false, override := false }
  | some p => classify cal bank p

/-- The class of every window column, window offset 0 first (R40). -/
def classifyLine (ccal : List ColumnCal) (bank : ProductBank) (samples : List (Option Sample)) :
    List Classified :=
  mapFrom (fun x p => classifyColumn (ccal.getD x ColumnCal.powerOn) bank p) 0 samples

/-- The two counters of the classifier advance (R44, R45). -/
def countClassified (row : List Classified) (s : State) : State :=
  bumpBy .nirOverrides (row.countP (fun c => c.override))
    (bumpBy .badBlockPixels (row.countP (fun c => c.badBlock)) s)

end Sys2Proof.Machine
end

