-- ==== Sys2Proof/Machine/Calibrate.lean ====
section
/-! DEFINITION. The calibration capture and the completion of CALIBRATE
(03_pixel_classification_and_flat_field_calibration.md, R46 ~ R52). -/

namespace Sys2Proof.Machine

/-- An accumulator at acceptance (R46). -/
def Accumulator.start : Accumulator where
  sum := 0
  minimum := 255
  maximum := 0

/-- A value captured (R47). -/
def Accumulator.add (a : Accumulator) (v : Nat) : Accumulator where
  sum := a.sum + v
  minimum := min a.minimum v
  maximum := max a.maximum v

/-- maximum - minimum (R50). -/
def Accumulator.spread (a : Accumulator) : Nat := a.maximum - a.minimum

/-- The capture state at acceptance (R46), over a window of a width. -/
def Capture.start (width : Nat) : Capture :=
  let a := Accumulator.start
  { captured := 0, skipped := 0, columns := List.replicate width { r := a, g := a, b := a, n := a } }

/-- A sample captured at its window offset (R47). -/
def ColumnCapture.add (k : ColumnCapture) (cal : ColumnCal) (p : Sample) : ColumnCapture where
  r := k.r.add (cal.r.darkCorrect p.r.toNat)
  g := k.g.add (cal.g.darkCorrect p.g.toNat)
  b := k.b.add (cal.b.darkCorrect p.b.toNat)
  n := k.n.add (cal.n.darkCorrect p.n.toNat)

/-- A COMPLETE line captured (R47). -/
def captureColumns (ccal : List ColumnCal) (samples : List (Option Sample))
    (columns : List ColumnCapture) : List ColumnCapture :=
  mapFrom
    (fun x k =>
      match samples.getD x none with
      | some p => k.add (ccal.getD x ColumnCal.powerOn) p
      | none => k) 0 columns

/-! ## Completion (R50 ~ R52) -/

/-- Whether a column has a spread above cal_tolerance (R50). -/
def ColumnCapture.unsteady (tolerance : Nat) (k : ColumnCapture) : Bool :=
  decide (tolerance < k.r.spread) || decide (tolerance < k.g.spread)
    || decide (tolerance < k.b.spread) || decide (tolerance < k.n.spread)

/-- round(16,384 x t / s), halves rounded upward; none for a sum of 0 or a gain outside 128 ~ 511
(R51). -/
def gainOf (target sum : Nat) : Option Nat :=
  if sum = 0 then none
  else
    let g := (2 * 16384 * target + sum) / (2 * sum)
    if 128 ≤ g ∧ g ≤ 511 then some g else none

/-- The four gains of a column, none if one is out of range (R51). -/
def gainsOf (c : Configuration) (k : ColumnCapture) : Option (Nat × Nat × Nat × Nat) :=
  match gainOf c.calTargetR k.r.sum, gainOf c.calTargetG k.g.sum, gainOf c.calTargetB k.b.sum,
    gainOf c.calTargetN k.n.sum with
  | some r, some g, some b, some n => some (r, g, b, n)
  | _, _, _, _ => none

/-- A CCal entry with its gains replaced, the dark offsets unchanged (R52). -/
def ColumnCal.setGains (e : ColumnCal) (g : Nat × Nat × Nat × Nat) : ColumnCal where
  r := { e.r with gain := g.1 }
  g := { e.g with gain := g.2.1 }
  b := { e.b with gain := g.2.2.1 }
  n := { e.n with gain := g.2.2.2 }

/-- The CCal with the gains of the window written (R52). -/
def writeGains (c : Configuration) (columns : List ColumnCapture) (ccal : List ColumnCal) :
    List ColumnCal :=
  mapFrom
    (fun x e =>
      match columns[x]? with
      | some k => (gainsOf c k).elim e (fun g => e.setGains g)
      | none => e) 0 ccal

/-- CALIBRATE ends: the capture state is discarded and the response queued (R48 ~ R53). -/
def endCalibrate (status : Status) (detail : Nat) (s : State) : State :=
  endCommand status detail [] (s.setCapture none)

/-- The completion (R50 ~ R52): steadiness, then gains, then the write. -/
def completeCalibrate (k : Capture) (s : State) : State :=
  let c := s.cmu.config
  match k.columns.findIdx? (ColumnCapture.unsteady c.calTolerance) with
  | some x => endCalibrate .calUnsteady (c.windowFirst + x) s
  | none =>
      match k.columns.findIdx? (fun q => (gainsOf c q).isNone) with
      | some x => endCalibrate .calRange (c.windowFirst + x) s
      | none =>
          endCalibrate .ok 0 (s.setTbs { s.tbs with ccal := writeGains c k.columns s.tbs.ccal })

/-- The completion is made once 64 lines are captured (R49, R50). -/
def calibrateIfDone (s : State) : State :=
  match s.capture with
  | none => s
  | some k => if 64 ≤ k.captured then completeCalibrate k s else s

/-! ## Capture of a delivered slot (R47, R48) -/

/-- One skipped line; the rise to 16 ends CALIBRATE with CAL_LINE_LOSS (R48). -/
def skipLine (s : State) : State :=
  match s.capture with
  | none => s
  | some k =>
      let n := k.skipped + 1
      if 16 ≤ n then endCalibrate .calLineLoss 0 s
      else s.setCapture (some { k with skipped := n })

/-- `n` skipped lines in turn (R47, step 1). -/
def skipLines : Nat → State → State
  | 0, s => s
  | n + 1, s => skipLines n (skipLine s)

/-- The slot's own line (R47, steps 2 ~ 4). -/
def captureOwn (slot : RingSlot) (s : State) : State :=
  match s.capture with
  | none => s
  | some k =>
      if slot.nosync then s
      else if slot.state = .complete then
        calibrateIfDone
          (s.setCapture
            (some { k with
                      captured := k.captured + 1
                      columns := captureColumns s.tbs.ccal slot.samples k.columns }))
      else skipLine s

/-- A slot delivered to the calibration capture (R47). At most 16 of its lost lines can be counted, since
the sixteenth ends the command (R48). -/
def captureSlot (slot : RingSlot) (s : State) : State :=
  captureOwn slot (skipLines (min slot.lostBefore 16) s)

end Sys2Proof.Machine
end

