-- ==== Sys2Proof/Machine/Assembly.lean ====
section
/-! DEFINITION. The Object Assembler: runs, linking, merges, closes, lost lines, blind requests, and the
application of a line (04_object_assembly.md). -/

namespace Sys2Proof.Machine

/-! ## Runs (R61, R62) -/

/-- A run of the line: absolute columns and its count of pixels in each class. -/
structure Run where
  first : Nat
  last : Nat
  classes : List Nat
  deriving DecidableEq, Repr

/-- Pixel count of a run (R61). -/
def Run.pixels (r : Run) : Nat := r.last + 1 - r.first

/-- A count raised in the place of a class. -/
def addClass (k : ClassCode) (l : List Nat) : List Nat := l.modify k.val (fun n => n + 1)

/-- A run of one column. -/
def Run.single (column : Nat) (k : ClassCode) : Run where
  first := column
  last := column
  classes := addClass k (List.replicate 16 0)

/-- A run with the next column added. -/
def Run.extend (r : Run) (column : Nat) (k : ClassCode) : Run :=
  { r with last := column, classes := addClass k r.classes }

/-- The runs of a class row from a column on, with the run under way (R61). -/
def scanRuns : Nat → Option Run → List ClassCode → List Run
  | _, cur, [] => cur.toList
  | c, cur, k :: ks =>
      if k = 0 then cur.toList ++ scanRuns (c + 1) none ks
      else
        match cur with
        | none => scanRuns (c + 1) (some (Run.single c k)) ks
        | some r => scanRuns (c + 1) (some (r.extend c k)) ks

/-- The most runs the OAS keeps of one line (R62). -/
def maxRuns : Nat := 128

/-- The pixels of the runs beyond the 128th (R62). -/
def overflowPixels (runs : List Run) : Nat := ((runs.drop maxRuns).map Run.pixels).sum

/-! ## Objects (R64 ~ R68) -/

/-- A sum that stops at 65,535. -/
def satAdd (a b : Nat) : Nat := min 65535 (a + b)

/-- Two histograms added, each count saturating. -/
def addHistogram (a b : List Nat) : List Nat := List.zipWith satAdd a b

/-- The age of a line number at line `n` (04, section 4.2). -/
def ageAt (n s : LineNo) : Nat := (n - s).toNat

/-- The length of an object in lines (04, section 4.2). -/
def ObjectRecord.length (o : ObjectRecord) : Nat := (o.lastLine - o.startLine).toNat + 1

/-- The object of an OPEN slot. -/
def OotSlot.object? : OotSlot → Option ObjectRecord
  | .opened o => some o
  | .closing _ => none
  | .free => none

/-- The object of an OPEN slot by index. -/
def State.openObject (s : State) (i : Nat) : Option ObjectRecord :=
  (s.oas.oot.getD i .free).object?

/-- The state with an OOT slot replaced. -/
def State.setSlot (s : State) (i : Nat) (x : OotSlot) : State :=
  s.setOas { s.oas with oot := s.oas.oot.set i x }

/-- A run touches a PLR run (R64). -/
def Run.touches (r : Run) (p : PlrRun) : Bool :=
  decide (p.first ≤ r.last + 1) && decide (r.first ≤ p.last + 1)

/-- S: the distinct OPEN slots among the labels of the PLR runs a run touches (R64). -/
def linkSet (s : State) (r : Run) : List Nat :=
  ((s.oas.plr.filter r.touches).filterMap (fun p => p.label)).eraseDups.filter
    (fun i => (s.openObject i).isSome)

/-- Some PLR run that the run touches is labelled none (R65). -/
def touchesNone (s : State) (r : Run) : Bool :=
  s.oas.plr.any (fun p => r.touches p && p.label.isNone)

/-- No flag. -/
def ObjectFlags.none : ObjectFlags where
  merged := false
  mixed := false
  truncated := false
  oversize := false
  cont := false
  gap := false
  partialLine := false
  lineLoss := false

/-- The union of two sets of flags (R67). -/
def ObjectFlags.union (a b : ObjectFlags) : ObjectFlags where
  merged := a.merged || b.merged
  mixed := a.mixed || b.mixed
  truncated := a.truncated || b.truncated
  oversize := a.oversize || b.oversize
  cont := a.cont || b.cont
  gap := a.gap || b.gap
  partialLine := a.partialLine || b.partialLine
  lineLoss := a.lineLoss || b.lineLoss

/-- The record of a new object (R65). -/
def newObject (l : LineInAssembly) (r : Run) (number : LineNo) (cont : Bool) : ObjectRecord where
  number := number
  startLine := l.line
  startPos := l.position
  lastLine := l.line
  lastPos := l.position
  colMin := r.first
  colMax := r.last
  area := min 65535 r.pixels
  histogram := r.classes
  generation := l.generation
  flags := { ObjectFlags.none with cont := cont, partialLine := l.isPartial }

/-- A run extends an object (R66). -/
def ObjectRecord.extend (o : ObjectRecord) (l : LineInAssembly) (r : Run) : ObjectRecord :=
  { o with
    histogram := addHistogram o.histogram r.classes
    area := satAdd o.area r.pixels
    colMin := min o.colMin r.first
    colMax := max o.colMax r.last
    lastLine := l.line
    lastPos := l.position
    flags :=
      { o.flags with
        partialLine := o.flags.partialLine || l.isPartial
        mixed := o.flags.mixed || decide (l.generation ≠ o.generation) } }

/-- An object folded into the survivor at line `n` (R67). -/
def ObjectRecord.absorb (n : LineNo) (o a : ObjectRecord) : ObjectRecord :=
  let later := decide (ageAt n a.lastLine < ageAt n o.lastLine)
  let f := o.flags.union a.flags
  { o with
    histogram := addHistogram o.histogram a.histogram
    area := satAdd o.area a.area
    colMin := min o.colMin a.colMin
    colMax := max o.colMax a.colMax
    lastLine := if later then a.lastLine else o.lastLine
    lastPos := if later then a.lastPos else o.lastPos
    flags := { f with mixed := f.mixed || decide (a.generation ≠ o.generation) } }

/-- Whether slot `i` is taken before slot `best` as the survivor: earlier start line, then lower index
(R67). -/
def survives (n : LineNo) (s : State) (i best : Nat) : Bool :=
  match s.openObject i, s.openObject best with
  | some a, some b =>
      decide (ageAt n b.startLine < ageAt n a.startLine)
        || (decide (ageAt n a.startLine = ageAt n b.startLine) && decide (i < best))
  | _, _ => false

/-- The survivor of a set of slots (R67). -/
def survivorOf (n : LineNo) (s : State) (first : Nat) (rest : List Nat) : Nat :=
  rest.foldl (fun best i => if survives n s i best then i else best) first

/-- Every label that names slot `j` names slot `i` instead (R68). -/
def relabel (j i : Nat) (runs : List PlrRun) : List PlrRun :=
  runs.map (fun p => if p.label = some j then { p with label := some i } else p)

/-- Slot `j` is absorbed into slot `i`: objects, slot, PLR labels (R67, R68). -/
def absorbSlot (n : LineNo) (i j : Nat) (s : State) : State :=
  match s.openObject i, s.openObject j with
  | some o, some a =>
      let t := (s.setSlot i (.opened (o.absorb n a))).setSlot j .free
      bump .objectsMerged (t.setOas { t.oas with plr := relabel j i t.oas.plr })
  | _, _ => s

/-- MERGED is set on the survivor (R67). -/
def setMerged (i : Nat) (s : State) : State :=
  match s.openObject i with
  | some o => s.setSlot i (.opened { o with flags := { o.flags with merged := true } })
  | none => s

/-- The run extends the object of slot `i` (R66). -/
def extendSlot (l : LineInAssembly) (r : Run) (i : Nat) (s : State) : State :=
  match s.openObject i with
  | some o => s.setSlot i (.opened (o.extend l r))
  | none => s

/-- The run creates an object in slot `i` (R65). -/
def createObject (l : LineInAssembly) (r : Run) (i : Nat) (s : State) : State :=
  let t := s.setSlot i (.opened (newObject l r s.oas.numberCounter (touchesNone s r)))
  bump .objectsOpened (t.setOas { t.oas with numberCounter := t.oas.numberCounter + 1 })

/-! ## OOT exhaustion (R73 ~ R75) -/

/-- The blind request of a run in the owned range (R74, R75). -/
def blindRequest (l : LineInAssembly) (r : Run) (s : State) : State :=
  match valveRange s.cmu.config s.tbs.vmt r.first r.last with
  | none => bump .noValve s
  | some v =>
      bump .blindRequests
        (handRequest .objectAssembler
          { source := .blind
            valveFirst := v.1
            valveLast := v.2
            openPos := openPosition s.cmu.config s.lead l.position
            closePos := closePosition s.cmu.config s.lead l.position } s)

/-- A run that finds no slot (R73); `full` says that such a run has been met on this line. -/
def findsNoSlot (l : LineInAssembly) (r : Run) (full : Bool) (s : State) : State :=
  let t := bumpBy .unassignedPixels r.pixels s
  let u := if full then t else bump .ootFullEvents t
  if decide (s.cmu.config.ootFullAction = .blind) && s.cmu.config.owns ((r.first + r.last) / 2) then
    blindRequest l r u
  else u

/-! ## Linking a line (R64) -/

/-- The labelled run. -/
def Run.labelled (r : Run) (label : Option Nat) : PlrRun where
  first := r.first
  last := r.last
  label := label

/-- The runs of a line linked in increasing column order (R64): `done` holds the runs already linked,
with their labels, `full` whether a run of the line has found no slot. Answers the linked runs and the
state. -/
def linkRuns (l : LineInAssembly) : List Run → List PlrRun → Bool → State → List PlrRun × State
  | [], done, _, s => (done, s)
  | r :: rest, done, full, s =>
      match linkSet s r with
      | [] =>
          match s.oas.oot.findIdx? OotSlot.isFree with
          | some i => linkRuns l rest (done ++ [r.labelled (some i)]) full (createObject l r i s)
          | none => linkRuns l rest (done ++ [r.labelled none]) true (findsNoSlot l r full s)
      | [i] => linkRuns l rest (done ++ [r.labelled (some i)]) full (extendSlot l r i s)
      | i :: j :: more =>
          let v := survivorOf l.line s i (j :: more)
          let absorbed := (i :: j :: more).filter (fun x => decide (x ≠ v))
          let t := setMerged v (absorbed.foldl (fun u x => absorbSlot l.line v x u) s)
          linkRuns l rest (absorbed.foldl (fun d x => relabel x v d) done ++ [r.labelled (some v)])
            full (extendSlot l r v t)

/-! ## Closing (R60, R69 ~ R71, R76) -/

/-- The object of OPEN slot `i` closes, its flags changed by `mark`: the slot becomes CLOSING, its index
joins the closing order list, and what can move into the VQ moves (R71, R72). -/
def closeObject (mark : ObjectFlags → ObjectFlags) (i : Nat) (s : State) : State :=
  match s.openObject i with
  | none => s
  | some o =>
      let t := s.setSlot i (.closing { o with flags := mark o.flags })
      pump (t.setOas { t.oas with closingOrder := t.oas.closingOrder ++ [i] })

/-- Every OPEN object closes with LINE_LOSS, in ascending slot index (R60, R76). -/
def closeAllObjects (s : State) : State :=
  (List.range 96).foldl (fun t i => closeObject (fun f => { f with lineLoss := true }) i t) s

/-- The PLR is emptied. -/
def emptyPlr (s : State) : State := s.setOas { s.oas with plr := [] }

/-- A close-all request taken (R76). -/
def closeAllRequest (s : State) : State :=
  let t := closeAllObjects s
  t.setOas { t.oas with plr := [], lostRun := 0, closeAllDue := false }

/-- A close-all request that stands is taken when no line is in assembly (R76; log 2). -/
def takeCloseAll (s : State) : State :=
  if s.oas.closeAllDue && s.oas.lineInAssembly.isNone then closeAllRequest s else s

/-- GAP set on the object of an OPEN slot (R59). -/
def OotSlot.gapped : OotSlot → OotSlot
  | .free => .free
  | .opened o => .opened { o with flags := { o.flags with gap := true } }
  | .closing o => .closing o

/-- A lost line is applied (R59, R60). -/
def applyLostLine (s : State) : State :=
  let n := min 3 (s.oas.lostRun + 1)
  let t := s.setOas { s.oas with lostRun := n }
  if n ≤ 2 then
    bump .linesBridged (t.setOas { t.oas with oot := t.oas.oot.map OotSlot.gapped })
  else emptyPlr (closeAllObjects t)

/-- `n` lost lines applied one after another. -/
def applyLostLines : Nat → State → State
  | 0, s => s
  | n + 1, s => applyLostLines n (applyLostLine s)

/-- Some run of the line is labelled with slot `i`: a run of this line joined its object. -/
def joined (runs : List PlrRun) (i : Nat) : Bool := runs.any (fun p => decide (p.label = some i))

/-- TRUNCATED set on every object a run of the line joined, when the line has run overflow (R62). -/
def truncate (overflow : Bool) (runs : List PlrRun) (s : State) : State :=
  if overflow then
    s.setOas
      { s.oas with
        oot :=
          mapFrom
            (fun i x =>
              match x with
              | .opened o =>
                  if joined runs i then .opened { o with flags := { o.flags with truncated := true } }
                  else x
              | .closing _ => x
              | .free => x) 0 s.oas.oot }
  else s

/-- The object of slot `i` closes OVERSIZE at this line's end: a run joined it and its length has reached
max_object_lines (R70). -/
def oversized (runs : List PlrRun) (s : State) (i : Nat) : Bool :=
  match s.openObject i with
  | some o => joined runs i && decide (s.cmu.config.maxObjectLines ≤ o.length)
  | none => false

/-- The close of slot `i` at the end of a line (R69, R70). -/
def closeAtEnd (runs : List PlrRun) (i : Nat) (s : State) : State :=
  if joined runs i then
    if oversized runs s i then closeObject (fun f => { f with oversize := true }) i s else s
  else closeObject id i s

/-- The labels of the runs when the line's closes are done (R63): none for a run of an object closed
OVERSIZE. -/
def newPlr (runs : List PlrRun) (s : State) : List PlrRun :=
  runs.map
    (fun p =>
      match p.label with
      | some i => if oversized runs s i then { p with label := none } else p
      | none => p)

/-- The end of an assembled line (R69): TRUNCATED, the closes in ascending slot index, the new PLR. -/
def endLine (overflow : Bool) (runs : List PlrRun) (s : State) : State :=
  let t := truncate overflow runs s
  let u := (List.range 96).foldl (fun x i => closeAtEnd runs i x) t
  u.setOas { u.oas with plr := newPlr runs t }

/-- The line is assembled (R57, stage 3): runs, links, end of the line; it is counted, also toward the
scrub interval (R81). -/
def assembleLine (l : LineInAssembly) (s : State) : State :=
  let runs := scanRuns s.cmu.config.windowFirst none l.classRow
  let t := s.setOas { s.oas with lostRun := 0 }
  let p := linkRuns l (runs.take maxRuns) [] false t
  let u := endLine (decide (maxRuns < runs.length)) p.1
    (bumpBy .overflowPixels (overflowPixels runs) p.2)
  scrubLine (bump .linesAssembled u)

/-- A line's assembly is applied (R57): its lost lines, then the line; it is no longer in assembly. -/
def applyLine (l : LineInAssembly) (s : State) : State :=
  let t := assembleLine l (applyLostLines (min 3 l.lostBefore) s)
  t.setOas { t.oas with lineInAssembly := none }

/-! ## Abandonment (R78 ~ R80) -/

/-- A slot with its OPEN object given up. -/
def OotSlot.withoutOpen : OotSlot → OotSlot
  | .opened _ => .free
  | .closing o => .closing o
  | .free => .free

/-- Every OPEN object is abandoned and counted, the PLR emptied, the lost run 0 (R78). -/
def abandonOpen (s : State) : State :=
  bumpBy .objectsAbandoned s.oas.openCount
    (s.setOas { s.oas with oot := s.oas.oot.map OotSlot.withoutOpen, plr := [], lostRun := 0 })

/-- A slot with its CLOSING object given up. -/
def OotSlot.withoutClosing : OotSlot → OotSlot
  | .opened o => .opened o
  | .closing _ => .free
  | .free => .free

/-- The closing order list is emptied, each CLOSING object counted (R79). -/
def abandonClosing (s : State) : State :=
  bumpBy .objectsAbandoned s.oas.closingCount
    (s.setOas { s.oas with oot := s.oas.oot.map OotSlot.withoutClosing, closingOrder := [] })

/-- The OAS is emptied at FAULT entry (R80). -/
def emptyAssembler (s : State) : State :=
  bumpBy .objectsAbandoned (s.oas.openCount + s.oas.closingCount)
    (s.setOas
      { s.oas with
        oot := List.replicate 96 .free
        closingOrder := []
        plr := []
        lostRun := 0
        lineInAssembly := none
        closeAllDue := false })

end Sys2Proof.Machine
end

