-- ==== Sys2Proof/Machine/Intake.lean ====
section
/-! DEFINITION. The Line Intake Unit: LINE frames, settlement, synchronisation, allocation and delivery
(02_line_intake_and_synchronisation.md), with the take of a line (04 R56, R58). -/

namespace Sys2Proof.Machine

/-! ## The ring (R21, R30) -/

/-- The ring emptied (R21); the OAS abandons a line in assembly. -/
def emptyRing (s : State) : State :=
  let t := s.setLiu { s.liu with busy := [], freeOrder := Liu.reset.freeOrder, pendingLost := 0 }
  takeCloseAll (t.setOas { t.oas with lineInAssembly := none })

/-- The slot of an index becomes FREE and joins the end of the free order (R30). -/
def freeSlot (index : Nat) (s : State) : State :=
  s.setLiu
    { s.liu with
      busy := s.liu.busy.filter (fun x => decide (x.index ≠ index))
      freeOrder := s.liu.freeOrder ++ [index] }

/-- A slot replaced by its index. -/
def setRingSlot (slot : RingSlot) (s : State) : State :=
  s.setLiu
    { s.liu with busy := s.liu.busy.map (fun x => if x.index = slot.index then slot else x) }

/-! ## Taking a line (R56, R58) -/

/-- The take of a slot with a class row: the row is formed and stamped, the slot becomes ASSEMBLING and
the line in assembly (R40, R56). -/
def takeRow (slot : RingSlot) (s : State) : State :=
  let row := classifyLine s.tbs.ccal s.tbs.activeBank slot.samples
  let t := setRingSlot { slot with state := .assembling } (countClassified row s)
  t.setOas
    { t.oas with
      lineInAssembly :=
        some
          { slot := slot.index
            line := slot.line
            position := slot.position
            isPartial := decide (slot.state = .partialLine)
            lostBefore := slot.lostBefore
            generation := s.tbs.generation
            classRow := row.map (fun c => c.code) } }

/-- The OAS takes a slot in SORTING (R56): the line boundary is signalled; a NOSYNC slot is discarded
(R58), a LOST line is applied at its take (R57), another line goes into assembly. -/
def takeSlot (slot : RingSlot) (s : State) : State :=
  let t := lineBoundary s
  if slot.nosync then freeSlot slot.index t
  else if slot.state = .lost then
    freeSlot slot.index (applyLostLine (applyLostLines (min 3 slot.lostBefore) t))
  else takeRow slot t

/-! ## Delivery (R29) -/

/-- A slot that has settled. -/
def RingSlot.settled (x : RingSlot) : Bool :=
  match x.state with
  | .complete => true
  | .partialLine => true
  | .lost => true
  | .filling => false
  | .assembling => false

/-- The slot that is to be delivered, if there is one (R29). -/
def deliverable (s : State) : Option RingSlot :=
  match s.liu.busy with
  | [] => none
  | x :: _ =>
      if x.settled && s.liu.busy.all (fun y => decide (y.state ≠ .assembling)) then some x else none

/-- A slot handed to its taker (R29). -/
def deliverSlot (slot : RingSlot) (s : State) : State :=
  match s.cmu.engine with
  | .sorting => takeSlot slot s
  | .standby => captureSlot slot (freeSlot slot.index s)
  | .draining => freeSlot slot.index s
  | .offline => s
  | .fault => s

/-- One delivery, if one can be made. -/
def deliverOne (s : State) : State :=
  match deliverable s with
  | some x => deliverSlot x s
  | none => s

/-- Deliveries one at a time, at most `n` (R30). -/
def deliverN : Nat → State → State
  | 0, s => s
  | n + 1, s => deliverN n (deliverOne s)

/-- Every delivery that can be made (R29, R30). -/
def deliver (s : State) : State := deliverN s.liu.busy.length s

/-! ## Synchronisation (R31 ~ R35) -/

/-- Slots that have not been delivered take the NOSYNC mark (R31). -/
def markNosync (x : RingSlot) : RingSlot :=
  if x.state = .assembling then x else { x with nosync := true }

/-- CALIBRATE ends with NOT_LOCKED at a departure from LOCKED (R49). -/
def leaveLocked (before : SyncState) (s : State) : State :=
  if decide (before = .locked) && s.capture.isSome then endCalibrate .notLocked 0 s else s

/-- The LIU hands the OAS a close-all request in SORTING (R31, R76; log 2). -/
def requestCloseAll (s : State) : State :=
  if s.cmu.engine = .sorting then takeCloseAll (s.setOas { s.oas with closeAllDue := true }) else s

/-- Entry to HUNT1 with the line offset given (R31, R36). -/
def enterHunt1 (cause : HuntCause) (offset : LineNo) (s : State) : State :=
  let t := s.setLiu
    { s.liu with
      sync := .hunt1
      consecutiveLoss := 0
      completeRun := 0
      huntCount := 0
      realignPending := false
      offset := offset
      busy := s.liu.busy.map markNosync }
  leaveLocked s.liu.sync
    (notice (.syncHunt .hunt1 cause offset s.bpu.line) (requestCloseAll t))

/-- A loss event in LOCKED (R33). -/
def lossEvent (s : State) : State :=
  if 3 ≤ s.liu.consecutiveLoss + 1 then enterHunt1 .loss s.liu.offset s
  else s.setLiu { s.liu with consecutiveLoss := s.liu.consecutiveLoss + 1 }

/-- A loss event, or the sync effect of a LOST settlement or an EARLY frame while hunting (R24, R27). -/
def syncLoss (s : State) : State :=
  match s.liu.sync with
  | .locked => lossEvent s
  | .hunt1 => s.setLiu { s.liu with completeRun := 0 }
  | .hunt2 => s.setLiu { s.liu with completeRun := 0 }
  | .failed => s

/-- The sync effect of a PARTIAL settlement (R27). -/
def syncPartial (s : State) : State :=
  match s.liu.sync with
  | .locked => s
  | .hunt1 => s.setLiu { s.liu with completeRun := 0 }
  | .hunt2 => s.setLiu { s.liu with completeRun := 0 }
  | .failed => s

/-- The sync state becomes LOCKED (R32). The complete run and the hunt count are no longer kept; the
model holds 0 in their place. -/
def lock (s : State) : State :=
  notice (.syncLocked s.liu.offset s.bpu.line)
    (s.setLiu
      { s.liu with
        sync := .locked
        consecutiveLoss := 0
        completeRun := 0
        huntCount := 0
        realignPending := false })

/-- The complete run rises; at 4 the sync state becomes LOCKED (R32). -/
def huntComplete (s : State) : State :=
  if 4 ≤ s.liu.completeRun + 1 then lock s
  else s.setLiu { s.liu with completeRun := s.liu.completeRun + 1 }

/-- The sync effect of a COMPLETE settlement (R26). -/
def syncComplete (s : State) : State :=
  match s.liu.sync with
  | .locked => s.setLiu { s.liu with consecutiveLoss := 0 }
  | .hunt1 => huntComplete s
  | .hunt2 => huntComplete s
  | .failed => s

/-- HUNT1 ends in HUNT2 (R34). -/
def enterHunt2 (s : State) : State :=
  notice (.syncHunt .hunt2 .timeout s.liu.offset s.bpu.line)
    (s.setLiu
      { s.liu with sync := .hunt2, huntCount := 0, completeRun := 0, realignPending := true })

/-- HUNT2 ends in FAILED (R34); the hunt count, which has no value above 9, becomes 0 (log 17). -/
def enterFailed (s : State) : State :=
  raiseCause .syncFailed
    (notice (.syncFailed s.liu.offset s.bpu.line)
      (emptyRing (s.setLiu { s.liu with sync := .failed, huntCount := 0 })))

/-- The hunt count has reached 10 (R34). -/
def huntTimeout (s : State) : State :=
  if 10 ≤ s.liu.huntCount then
    match s.liu.sync with
    | .hunt1 => enterHunt2 s
    | .hunt2 => enterFailed s
    | .locked => s
    | .failed => s
  else s

/-- The hunt count advances at a trigger (R34). -/
def huntAdvance (s : State) : State :=
  match s.liu.sync with
  | .hunt1 => huntTimeout (s.setLiu { s.liu with huntCount := s.liu.huntCount + 1 })
  | .hunt2 => huntTimeout (s.setLiu { s.liu with huntCount := s.liu.huntCount + 1 })
  | .locked => s
  | .failed => s

/-! ## The deadline (R27) -/

/-- The mark of a FILLING slot that is due at line `n` (R27). -/
def markDue (latency : Nat) (n : LineNo) (x : RingSlot) : RingSlot :=
  if x.state = .filling ∧ latency ≤ (n - x.line).toNat then { x with due := true } else x

/-- A due slot settles PARTIAL or LOST (R27). -/
def settle (x : RingSlot) (s : State) : State :=
  if x.samples.any (fun p => p.isSome) then
    syncPartial
      (bump .linesPartial (setRingSlot { x with state := .partialLine, due := false } s))
  else syncLoss (bump .linesLost (setRingSlot { x with state := .lost, due := false } s))

/-- The oldest due slot settles, and what can be delivered is delivered (R27, R28). -/
def settleOldest (s : State) : State :=
  match s.liu.busy.find? (fun x => x.due && decide (x.state = .filling)) with
  | some x => deliver (settle x s)
  | none => s

/-- The due slots settle in line order, at most `n`. -/
def settleN : Nat → State → State
  | 0, s => s
  | n + 1, s => settleN n (settleOldest s)

/-- Step 1 of a trigger (R28). -/
def settleDue (s : State) : State :=
  settleN s.liu.busy.length
    (s.setLiu
      { s.liu with busy := s.liu.busy.map (markDue s.cmu.config.latencyLines s.bpu.line) })

/-! ## Allocation (R22) -/

/-- The slot allocated to a line (R22). -/
def newSlot (index : Nat) (s : State) : RingSlot where
  index := index
  state := .filling
  line := s.bpu.line
  position := s.bpu.triggerPos
  samples := List.replicate s.cmu.config.width none
  lostBefore := s.liu.pendingLost
  nosync := decide (s.liu.sync = .hunt1) || decide (s.liu.sync = .hunt2)
  due := false

/-- A slot is allocated to the new line, or the line is lost (R22). -/
def allocate (s : State) : State :=
  match s.liu.freeOrder with
  | [] =>
      bump .lineOverruns (s.setLiu { s.liu with pendingLost := min 65535 (s.liu.pendingLost + 1) })
  | i :: rest =>
      s.setLiu
        { s.liu with
          busy := s.liu.busy ++ [newSlot i s]
          freeOrder := rest
          pendingLost := 0 }

/-- What the LIU does at a line trigger (R28). HUNT1 entered in step 1 is an entry from LOCKED. -/
def intakeTrigger (s : State) : State :=
  if s.liuActive then
    let t := settleDue s
    let u := if s.liu.sync = .locked then t else huntAdvance t
    if u.liuActive then allocate u else u
  else s

/-! ## LINE frames (R23 ~ R26, R35, R199) -/

/-- The samples of a LINE payload, in the order R, G, B, N (12.1). -/
def samplesOf : List Byte → List Sample
  | r :: g :: b :: n :: rest => { r := r, g := g, b := b, n := n } :: samplesOf rest
  | _ => []

/-- A LINE payload the LIU acts on: count 1 ~ 1,024, and length 6 + 4 x count (R199). -/
def linePayloadGood (p : List Byte) : Bool :=
  decide (1 ≤ u16 p 4) && decide (u16 p 4 ≤ 1024) && decide (p.length = 6 + 4 * u16 p 4)

/-- The window part of a frame: window offsets with their samples (R23). -/
def windowPart (c : Configuration) (column : Nat) (samples : List Sample) : List (Nat × Sample) :=
  ((mapFrom (fun i p => (column + i, p)) 0 samples).filter
      (fun x => decide (x.1 ≤ 4095) && decide (c.windowFirst ≤ x.1) && decide (x.1 ≤ c.windowLast))).map
    (fun x => (x.1 - c.windowFirst, x.2))

/-- Realignment of the offset (R35). -/
def realign (m : LineNo) (s : State) : State :=
  if decide (s.liu.sync = .hunt2) && s.liu.realignPending then
    s.setLiu
      { s.liu with
        offset := m - s.bpu.line
        realignPending := false
        busy :=
          s.liu.busy.map
            (fun x =>
              if x.state = .filling then { x with samples := x.samples.map (fun _ => none) } else x) }
  else s

/-- The samples of a slot with those of a window part added; a column received first keeps its sample
(R25). -/
def addSamples (part : List (Nat × Sample)) (samples : List (Option Sample)) : List (Option Sample) :=
  mapFrom
    (fun x old =>
      match old with
      | some p => some p
      | none => part.lookup x) 0 samples

/-- The columns of a window part already received (R25). -/
def duplicates (part : List (Nat × Sample)) (samples : List (Option Sample)) : Nat :=
  part.countP (fun x => (samples.getD x.1 none).isSome)

/-- A window part copied into a FILLING slot, which may complete it (R25, R26). -/
def fillSlot (part : List (Nat × Sample)) (x : RingSlot) (s : State) : State :=
  let y := { x with samples := addSamples part x.samples }
  let t := bumpBy .duplicateColumns (duplicates part x.samples) s
  if y.samples.all (fun p => p.isSome) then
    deliver (syncComplete (setRingSlot { y with state := .complete, due := false } t))
  else setRingSlot y t

/-- A frame with a window part matched against the ring (R24, R25). -/
def matchFrame (m : LineNo) (part : List (Nat × Sample)) (s : State) : State :=
  let t := m - s.liu.offset
  if 32768 ≤ (s.bpu.line - t).toNat then syncLoss (bump .framesEarly s)
  else
    match s.liu.busy.find? (fun x => decide (x.line = t) && decide (x.state = .filling)) with
    | some x => fillSlot part x s
    | none => bump .framesStale s

/-- What the LIU does with a LINE frame (R21, R23, R199). -/
def intakeFrame (payload : List Byte) (s : State) : State :=
  let part := windowPart s.cmu.config (u16 payload 2) (samplesOf (payload.drop 6))
  if s.liuActive && linePayloadGood payload && !part.isEmpty then
    let m : LineNo := BitVec.ofNat 16 (u16 payload 0)
    matchFrame m part (realign m s)
  else s

/-! ## Completion of a line's assembly (R57, R76) -/

/-- The line in assembly is applied, a close-all request that stands is taken after it, the slot is freed
and the next is delivered (R57, R76, R30). -/
def assemblyCompletes (s : State) : State :=
  match s.oas.lineInAssembly with
  | none => s
  | some l => deliver (freeSlot l.slot (takeCloseAll (applyLine l s)))

/-- The line in assembly is abandoned and its slot freed (R76, R78). -/
def abandonLine (s : State) : State :=
  match s.oas.lineInAssembly with
  | none => s
  | some l => freeSlot l.slot (s.setOas { s.oas with lineInAssembly := none })

/-- A close-all request taken before the completion of the line in assembly (R76). -/
def closeAllFirst (s : State) : State :=
  if s.oas.closeAllDue then deliver (closeAllRequest (abandonLine s)) else s

end Sys2Proof.Machine
end

