-- ==== Sys2Proof/Machine/Engine.lean ====
section
/-! DEFINITION. The changes of engine state: START, STOP and the drain, ABORT, FAULT entry, CLEAR_FAULT,
the taking of fault causes, and the acceptance of CONFIGURE by the blocks
(09_engine_states_and_commands.md). -/

namespace Sys2Proof.Machine

/-- The state with its engine state replaced. -/
def State.setEngine (s : State) (e : EngineState) : State := s.setCmu { s.cmu with engine := e }

/-! ## Ending the executing command (R53, R133, R156, R161, R165) -/

/-- The executing command ends with ABORTED (R173, R175): CALIBRATE discards its capture, BANK_COPY stops
where it stands and says how many blocks it copied, a pending swap is cancelled, a valve test turns its
valve off. -/
def endAborted (s : State) : State :=
  match s.cmu.executing with
  | none => s
  | some e =>
      match e.command with
      | .calibrate => endCalibrate .aborted 0 s
      | .bankCopy =>
          endCommand .aborted ((s.tbs.copy.map (fun p => p.next)).getD 0) []
            (s.setTbs { s.tbs with copy := none })
      | .bankSwap => endCommand .aborted 0 [] (s.setTbs { s.tbs with swap := none })
      | .valveTest => abortTest s
      | _ => endCommand .aborted 0 [] s

/-! ## FAULT entry (R175, R176) -/

/-- What the blocks do at FAULT entry, without the responses (R175). -/
def faultEffects (c : FaultCause) (s : State) : State :=
  let t := s.setCmu
    { s.cmu with engine := .fault, cause := some c, causes := s.cmu.causes.erase c }
  let u := emptyRing (flush (abandonVerdicts (emptyAssembler t)))
  u.setLiu { u.liu with sync := .failed }

/-- FAULT entry with a cause (R175): the blocks are emptied, the executing command ends with ABORTED, and
FAULT_ENTERED is posted. -/
def enterFault (c : FaultCause) (s : State) : State :=
  notice (.faultEntered c s.cmu.engine (s.cmu.executing.map (fun e => e.command)))
    (endAborted (faultEffects c s))

/-- A cause left over from an entry is a later cause (R175, R176; log 2). -/
def takeLater (c : FaultCause) (s : State) : State :=
  if decide (s.cmu.engine = .fault) && s.cmu.causes.contains c then
    bump .faultsWhileFaulted (s.setCmu { s.cmu with causes := s.cmu.causes.erase c })
  else s

/-- A standing cause is taken in SORTING or DRAINING (R175). -/
def takeCause (c : FaultCause) (s : State) : State :=
  if (decide (s.cmu.engine = .sorting) || decide (s.cmu.engine = .draining))
      && s.cmu.causes.contains c then enterFault c s
  else s

/-! ## The drain (R172) -/

/-- The drain runs out: the engine becomes STANDBY and STOP ends with OK. A cause that comes with it finds
the engine in STANDBY. -/
def runOut (s : State) : State :=
  endCommand .ok 0 [] (s.setCmu { s.cmu with engine := .standby, causes := [] })

/-- The drain runs out if its conditions hold (R172). -/
def drainRunsOut (s : State) : State :=
  if decide (s.cmu.engine = .draining) && s.drained then runOut s else s

/-- What the CMU does at the end of an event: it enters FAULT on a cause raised, and ends a drain that has
run out. Where two causes, or a cause and the running out, come together, neither is taken here: the
commands FAULT_ENTRY and DRAIN_RUN_OUT decide (R172, R175; log 2). -/
def finish (s : State) : State :=
  match s.cmu.engine with
  | .sorting =>
      match s.cmu.causes with
      | [c] => enterFault c s
      | _ => s
  | .draining =>
      match s.cmu.causes with
      | [] => if s.drained then runOut s else s
      | [c] => if s.drained then s else enterFault c s
      | _ => s
  | .offline => s
  | .standby => s
  | .fault => s

/-! ## START, STOP, ABORT, CLEAR_FAULT (R170, R171, R173, R174, R177) -/

/-- The entry to SORTING (R170, R77): the PLR is emptied, the lost run is 0, delivery is tested. -/
def startSorting (s : State) : State :=
  let t := s.setEngine .sorting
  deliver (t.setOas { t.oas with plr := [], lostRun := 0 })

/-- The entry to DRAINING (R171, R78): a line in assembly is abandoned, then every OPEN object. DESIGN
CHOICE (log 2): a STOP taken while a close-all request of an entry to HUNT1 still stands (R76, a line in
assembly) drops that request, so the OPEN objects are abandoned and not closed with LINE_LOSS; no rule gives
the order of the two. Unsafe. -/
def stopSorting (tag : Word16) (s : State) : State :=
  let t := abandonOpen (abandonLine (beginCommand .stop tag (s.setEngine .draining)))
  deliver (t.setOas { t.oas with closeAllDue := false })

/-- The drain is flushed and the engine becomes STANDBY (R174). -/
def flushDrain (s : State) : State :=
  let t := flush (abandonVerdicts (abandonClosing s))
  t.setCmu { t.cmu with engine := .standby, causes := [] }

/-- An ABORT ends the executing command (R173, R174). -/
def abortExecuting (s : State) : State :=
  if s.executes .stop then endAborted (flushDrain s) else endAborted s

/-- CLEAR_FAULT at the blocks (R177, R19, R36); a later cause still standing is counted first (R176). -/
def clearFault (s : State) : State :=
  let t := bumpBy .faultsWhileFaulted s.cmu.causes.length
    (s.setCmu { s.cmu with engine := .standby, cause := none, causes := [] })
  let u := t.setBpu { t.bpu with debt := 0, armed := false, mismatchRun := 0 }
  enterHunt1 .clearFault u.liu.offset (handOver s u)

/-! ## CONFIGURE (R18, R38, R140, R157) -/

/-- CONFIGURE at the BPU (R18): the index check, and what a change of line_pitch clears. -/
def configureBelt (old new : Configuration) (s : State) : State :=
  let t := s.setBpu { s.bpu with armed := false, mismatchRun := 0 }
  if old.linePitch ≠ new.linePitch then
    t.setBpu { t.bpu with pitch := 0, triggerTime := none, period := none }
  else t

/-- A reverse_limit lowered below the present debt (R18). -/
def configureDebt (new : Configuration) (s : State) : State :=
  if new.reverseLimit < s.bpu.debt then
    notice (.beltReverse s.bpu.travel new.reverseLimit)
      (bump .reverseLimitHits (s.setBpu { s.bpu with debt := new.reverseLimit }))
  else s

/-- CONFIGURE at the LIU (R38). -/
def configureIntake (old new : Configuration) (s : State) : State :=
  if old.window = new.window then s else emptyRing s

/-- CONFIGURE at the scrubber (R157). -/
def configureScrub (old new : Configuration) (s : State) : State :=
  if old.scrubInterval = new.scrubInterval then s else s.setTbs { s.tbs with scrubCount := 0 }

/-- An accepted CONFIGURE (R168, R169). -/
def configure (new : Configuration) (s : State) : State :=
  let old := s.cmu.config
  configureScrub old new
    (configureIntake old new
      (configureDebt new (configureBelt old new (s.setCmu { s.cmu with config := new }))))

end Sys2Proof.Machine
end

