-- ==== Sys2Proof/Machine/Belt.lean ====
section
/-! DEFINITION. The Belt Position Unit: accepted edges, travel and debt, the index check, line triggers
(01_belt_travel_and_line_timing.md), and the meanings of its commands. -/

namespace Sys2Proof.Machine

/-! ## Index check (R9 ~ R12) -/

/-- A mismatch, counted advances or a missing-index mark (R10 ~ R12). -/
def mismatch (counted : Option Nat) (s : State) : State :=
  let run := s.bpu.mismatchRun + 1
  let t := notice (.encoderSlip counted run) (bump .encoderSlips s)
  if 3 ≤ run then
    let u := raiseCause .encoderFault (notice (.encoderFault counted run) (bump .encoderFaults t))
    u.setBpu { u.bpu with mismatchRun := 0 }
  else t.setBpu { t.bpu with mismatchRun := run }

/-- The index advance count restarts at 0. -/
def restartIndex (s : State) : State := s.setBpu { s.bpu with indexAdvances := 0 }

/-- The missing-index test (R11). -/
def missingIndexTest (s : State) : State :=
  if s.bpu.armed && decide (s.cmu.config.revCounts ≠ 0)
      && decide (s.cmu.config.revCounts + s.cmu.config.revTolerance + 1 ≤ s.bpu.indexAdvances) then
    restartIndex (mismatch none s)
  else s

/-- The comparison of the index advance count (R10). -/
def indexMatches (c : Configuration) (n : Nat) : Bool :=
  decide (c.revCounts - c.revTolerance ≤ n) && decide (n ≤ c.revCounts + c.revTolerance)

/-- A rising edge of the filtered Z channel (R9, R10). -/
def indexEdge (s : State) : State :=
  if s.bpu.armed then
    restartIndex
      (if indexMatches s.cmu.config s.bpu.indexAdvances then
        s.setBpu { s.bpu with mismatchRun := 0 }
      else mismatch (some s.bpu.indexAdvances) s)
  else if s.bpu.beltState = .moving ∧ s.cmu.config.revCounts ≠ 0 then
    s.setBpu { s.bpu with armed := true, indexAdvances := 0, mismatchRun := 0 }
  else s

/-! ## Line triggers (R13 ~ R15) -/

/-- The line period captured at a trigger (R15). -/
def capturePeriod (now : Nat) : Option Nat → Option Nat
  | none => none
  | some t => some (max 1 (min 16777215 (now - t)))

/-- The BPU's part of a line trigger (R13 ~ R15). -/
def beltTrigger (s : State) : State :=
  bump .lineTriggers
    (s.setBpu
      { s.bpu with
        pitch := 0
        line := s.bpu.line + 1
        triggerPos := s.bpu.travel
        period := capturePeriod s.timeBase s.bpu.triggerTime
        triggerTime := some s.timeBase
        ltrigPulses := s.bpu.ltrigPulses + (if s.cmu.config.ltrigEnable then 1 else 0) })

/-- A line trigger, with what the LIU does at it (R13, R28). -/
def lineTrigger (s : State) : State := intakeTrigger (beltTrigger s)

/-- A line trigger is issued if the pitch counter has reached line_pitch (R13). -/
def lineTriggerTest (s : State) : State :=
  if s.cmu.config.linePitch ≤ s.bpu.pitch then lineTrigger s else s

/-! ## Travel and debt (R5, R6) -/

/-- The counts and timers of an advance (R5, R7). -/
def stepTravel (s : State) : State :=
  s.setBpu
    { s.bpu with
      travel := s.bpu.travel + 1
      indexAdvances := min 16777215 (s.bpu.indexAdvances + 1)
      stallFlag := false
      stallTimer := some (s.cmu.config.stallTimeout * 10000)
      pitch := s.bpu.pitch + 1 }

/-- An advance (R5): counts, the missing-index test, a line trigger, and the EJS's compares. -/
def advance (s : State) : State :=
  ejectionAdvance (lineTriggerTest (missingIndexTest (stepTravel s)))

/-- A forward edge pays back debt, or is an advance (R5). -/
def forwardEdge (s : State) : State :=
  if 0 < s.bpu.debt then s.setBpu { s.bpu with debt := s.bpu.debt - 1 } else advance s

/-- The debt reaches reverse_limit (R6). -/
def reverseLimitHit (s : State) : State :=
  raiseCause .beltReverse
    (notice (.beltReverse s.bpu.travel s.cmu.config.reverseLimit) (bump .reverseLimitHits s))

/-- A reverse edge (R6): entry to REVERSING disarms the index check (R9). -/
def reverseEdge (s : State) : State :=
  if s.bpu.debt < s.cmu.config.reverseLimit then
    let t := s.setBpu
      { s.bpu with
        debt := s.bpu.debt + 1
        armed := if s.bpu.debt = 0 then false else s.bpu.armed }
    if s.bpu.debt + 1 = s.cmu.config.reverseLimit then reverseLimitHit t else t
  else s

/-! ## Accepted levels (R3, R4) -/

/-- The pair that follows a pair (A, B) in forward order (R4): low-low, high-low, high-high, low-high. -/
def nextForward (p : Bool × Bool) : Bool × Bool := (!p.2, p.1)

/-- The decoder's action on a new filtered pair against the reference pair (R4). -/
def decodePair (old new : Bool × Bool) (s : State) : State :=
  if new = old then s
  else if new.1 ≠ old.1 ∧ new.2 ≠ old.2 then bump .encoderGlitches s
  else if new = nextForward old then forwardEdge s
  else reverseEdge s

/-- The filtered level of A takes the level that A's filter is timing (R3): the pin stands at it and the
filtered level does not. A level that is not being timed, because it reverted or was never seen, is not
accepted. The acceptance comes while the filter time runs, whatever time is left (log 3). -/
def acceptA (level : Bool) (s : State) : State :=
  if s.bpu.timA.isSome ∧ s.bpu.inA = level ∧ s.bpu.fltA ≠ level then
    s.setBpu { s.bpu with fltA := level, timA := none }
  else s

/-- The filtered level of B takes the level that B's filter is timing (R3). -/
def acceptB (level : Bool) (s : State) : State :=
  if s.bpu.timB.isSome ∧ s.bpu.inB = level ∧ s.bpu.fltB ≠ level then
    s.setBpu { s.bpu with fltB := level, timB := none }
  else s

/-- The filtered level of Z takes the level that Z's filter is timing (R3). -/
def acceptZ (level : Bool) (s : State) : State :=
  if s.bpu.timZ.isSome ∧ s.bpu.inZ = level ∧ s.bpu.fltZ ≠ level then
    s.setBpu { s.bpu with fltZ := level, timZ := none }
  else s

/-- The filtered pair (A, B). -/
def Bpu.pair (b : Bpu) : Bool × Bool := (b.fltA, b.fltB)

/-- Levels accepted on A, B or both at one moment, and the decoder's one action on the new pair (R3,
R4). -/
def acceptPair (f : State → State) (s : State) : State :=
  decodePair s.bpu.pair (f s).bpu.pair (f s)

/-- Accepted levels, without the hand-over (R3, R4, R10). -/
def acceptLevels : Accepted → State → State
  | .a level, s => acceptPair (acceptA level) s
  | .b level, s => acceptPair (acceptB level) s
  | .ab la lb, s => acceptPair (fun t => acceptB lb (acceptA la t)) s
  | .z level, s =>
      let t := acceptZ level s
      if !s.bpu.fltZ && t.bpu.fltZ then indexEdge t else t

/-- A belt event whole: what it does, the hand-over of belt state and counts to the valves at its end
(R8, R114), and the taking of a cause it raised. -/
def beltEvent (f : State → State) (s : State) : State := finish (handOver s (f s))

/-! ## Input changes (R3) -/

/-- The filter time of a change first seen now, in ns (R3). -/
def filterTime (s : State) : Nat := s.cmu.config.edgeFilter * 40

/-- A change of A is timed from now (R3). -/
def timeA (level : Bool) (s : State) : State :=
  s.setBpu { s.bpu with inA := level, timA := some (filterTime s) }

/-- A change of B is timed from now (R3). -/
def timeB (level : Bool) (s : State) : State :=
  s.setBpu { s.bpu with inB := level, timB := some (filterTime s) }

/-- A change of Z is timed from now (R3). -/
def timeZ (level : Bool) (s : State) : State :=
  s.setBpu { s.bpu with inZ := level, timZ := some (filterTime s) }

/-- What a filter time started now is followed by: with edge_filter 0 the acceptance, at once (R3). -/
def acceptAtOnce (acc : Accepted) (s : State) : State :=
  if filterTime s = 0 then beltEvent (acceptLevels acc) s else s

/-- A change of level seen on A (R3): it is timed, or ends the timing of the change it reverts. -/
def seeA (level : Bool) (s : State) : State :=
  if s.bpu.inA = level then s
  else if s.bpu.fltA = level then s.setBpu { s.bpu with inA := level, timA := none }
  else acceptAtOnce (.a level) (timeA level s)

/-- A change of level seen on B (R3). -/
def seeB (level : Bool) (s : State) : State :=
  if s.bpu.inB = level then s
  else if s.bpu.fltB = level then s.setBpu { s.bpu with inB := level, timB := none }
  else acceptAtOnce (.b level) (timeB level s)

/-- A change of level seen on Z (R3). -/
def seeZ (level : Bool) (s : State) : State :=
  if s.bpu.inZ = level then s
  else if s.bpu.fltZ = level then s.setBpu { s.bpu with inZ := level, timZ := none }
  else acceptAtOnce (.z level) (timeZ level s)

/-! ## Stall (R7) -/

/-- The stall timer expires (R7). -/
def stallExpires (s : State) : State :=
  match s.bpu.stallTimer with
  | none => s
  | some _ => s.setBpu { s.bpu with stallFlag := true, stallTimer := none }

/-! ## Meanings -/

/-- ENCODER_EDGE_ACCEPTED (R3, R4): acts on each channel it names whose filter is timing the level it
names, and changes nothing of the others (log 3, log 9). -/
def execEncoderEdgeAccepted (acc : Accepted) (s : State) : Host.Outcome State Fault Refusal :=
  .next (beltEvent (acceptLevels acc) s)

/-- ENCODER_INPUT_CHANGE (R3): timing starts, or a change being timed reverts; with edge_filter 0 the
change is accepted as soon as it is seen. DESIGN CHOICE (log 9): the command names one channel, so with
edge_filter 0 A and B seen changed at one moment are two commands, the decoder acts between them, and they
make two edges in the sender's order and never an illegal transition; no rule says whether the decoder acts
between the two. Unsafe. -/
def execEncoderInputChange (ch : Channel) (level : Bool) (s : State) :
    Host.Outcome State Fault Refusal :=
  match ch with
  | .a => .next (seeA level s)
  | .b => .next (seeB level s)
  | .z => .next (seeZ level s)

/-- STALL_TIMER_EXPIRY (R7): acts while the stall timer runs (log 3). -/
def execStallTimerExpiry (s : State) : Host.Outcome State Fault Refusal :=
  .next (beltEvent stallExpires s)

/-- MISSING_INDEX (R11): acts if the count has reached its limit (log 1). -/
def execMissingIndex (s : State) : Host.Outcome State Fault Refusal :=
  .next (finish (missingIndexTest s))

/-- LINE_TRIGGER (R13): acts if the pitch counter has reached line_pitch (log 1). -/
def execLineTrigger (s : State) : Host.Outcome State Fault Refusal :=
  .next (finish (lineTriggerTest s))

end Sys2Proof.Machine
end

