-- ==== Sys2Proof/Machine/Status.lean ====
section
/-! DEFINITION. The data READ_STATUS returns (R167, R121, R201), row by row, and the data of the other
reading commands (12.3). -/

namespace Sys2Proof.Machine

/-- A time left carried in a unit, both in 0.1 us. How a time left that is no whole number of its unit is
carried is a free value (log 6). -/
def timeLeft (unit t : Nat) : Nat :=
  if t % unit = 0 then t / unit
  else if Config.timeLeftRoundsUp t then t / unit + 1 else t / unit

/-- The CMU's row. -/
def statusCmu (s : State) : List Byte :=
  le 1 s.cmu.engine.code ++ le 1 ((s.cmu.cause.map FaultCause.code).getD 0)
    ++ optional (le 1) s.cmu.unit ++ le 1 s.cmu.config.group
    ++ optional (fun e => le 1 e.command.code ++ le 2 e.tag.toNat) s.cmu.executing

/-- The BPU's row. -/
def statusBpu (s : State) : List Byte :=
  le 1 s.bpu.beltState.code ++ le 3 s.bpu.travel.toNat ++ le 2 s.bpu.debt ++ le 2 s.bpu.line.toNat
    ++ optional (le 3) s.bpu.period ++ le 2 s.lead ++ bit s.bpu.armed

/-- Number of ring slots in a state other than FREE. -/
def Liu.count (l : Liu) (st : SlotState) : Nat := l.busy.countP (fun x => decide (x.state = st))

/-- The LIU's row. The complete run and the hunt count are carried as 0 while LOCKED (R201). -/
def statusLiu (s : State) : List Byte :=
  let locked := decide (s.liu.sync = .locked)
  le 1 s.liu.sync.code ++ le 2 s.liu.offset.toNat ++ le 1 s.liu.consecutiveLoss
    ++ le 1 (if locked then 0 else s.liu.completeRun)
    ++ le 1 (if locked then 0 else s.liu.huntCount)
    ++ le 2 s.liu.pendingLost
    ++ le 1 (8 - s.liu.busy.length) ++ le 1 (s.liu.count .filling) ++ le 1 (s.liu.count .complete)
    ++ le 1 (s.liu.count .partialLine) ++ le 1 (s.liu.count .lost)
    ++ le 1 (s.liu.count .assembling)

/-- The calibration row. -/
def statusCapture (s : State) : List Byte :=
  optional (fun k => le 1 k.captured ++ le 1 k.skipped) s.capture

/-- The OAS's row. -/
def statusOas (s : State) : List Byte :=
  le 1 s.oas.openCount ++ le 1 s.oas.closingCount ++ le 1 s.oas.closingOrder.length
    ++ le 1 s.oas.plr.length ++ le 1 s.oas.lostRun ++ le 2 s.oas.numberCounter.toNat
    ++ optional (fun l => le 2 l.line.toNat) s.oas.lineInAssembly

/-- The VDU's row. -/
def statusVdu (s : State) : List Byte :=
  le 1 s.vdu.vq.length ++ bit s.vdu.evaluating.isSome
    ++ optional (fun o => le 2 o.number.toNat) s.vdu.evaluating

/-- The EQ head: its record and its open distance. -/
def headBytes (travel : Position) : List EjectionRecord → List Byte
  | [] => [0]
  | r :: _ => 1 :: (r.bytes ++ le 3 (r.openDistance travel))

/-- The EJS's row, in the order of R121. -/
def statusEjs (s : State) : List Byte :=
  le 1 s.ejs.eq.length
    ++ le 1 (s.ejs.eq.countP (fun r => decide (r.openDistance s.bpu.travel = 0)))
    ++ le 1 s.ejs.activeCount ++ headBytes s.bpu.travel s.ejs.eq
    ++ (s.ejs.ael.map (optional EjectionRecord.bytes)).flatten
    ++ (s.vlc.valves.map (fun v => le 1 v.refCount)).flatten

/-- The VLC's row. -/
def statusVlc (s : State) : List Byte :=
  (s.vlc.valves.map (fun v => le 1 v.state.code ++ le 1 v.refCount ++ le 2 v.thermal)).flatten
    ++ optional (fun t => le 1 t.valve ++ le 1 (timeLeft 10000 t.left)) s.vlc.test
    ++ le 1 s.vlc.link.code ++ le 1 s.vlc.missCount

/-- Number of blocks of a bank in a state. -/
def ProductBank.count (p : ProductBank) (st : BlockState) : Nat :=
  p.cct.countP (fun x => decide (x.state = st))

/-- The block counts of a bank, in the order of the block-state codes. -/
def bankCounts (p : ProductBank) : List Byte :=
  le 1 (p.count .unwritten) ++ le 1 (p.count .valid) ++ le 1 (p.count .bad)

/-- The TBS's row. -/
def statusTbs (s : State) : List Byte :=
  le 1 s.tbs.active.code ++ [s.tbs.generation] ++ bankCounts s.tbs.bankA ++ bankCounts s.tbs.bankB
    ++ optional (fun p => le 1 p.deadline ++ le 1 p.counted) s.tbs.swap
    ++ optional (fun p => le 1 p.next) s.tbs.copy
    ++ le 1 s.tbs.scrubPointer ++ le 1 s.tbs.scrubCount

/-- The LKI's row, in the order of 10 section 10.1. -/
def statusLki (s : State) : List Byte :=
  le 1 s.lki.link.code ++ le 1 s.lki.forwardQueue.length ++ le 1 s.lki.passBuffer.length
    ++ optional (fun t => le 1 (timeLeft 10 t)) s.lki.pauseTimer ++ le 1 s.lki.preference.code

/-- The data of READ_STATUS (R167, R201). -/
def statusBytes (s : State) : List Byte :=
  statusCmu s ++ statusBpu s ++ statusLiu s ++ statusCapture s ++ statusOas s ++ statusVdu s
    ++ statusEjs s ++ statusVlc s ++ statusTbs s ++ statusLki s

/-- The data of READ_COUNTERS: the 54 counters in index order (R196, R197). -/
def counterBytes (s : State) : List Byte := (s.rpu.counters.map (fun c => le 4 c.toNat)).flatten

/-- The data of READ_CONFIG (R169): the configuration record, then the unit number. -/
def configBytes (s : State) : List Byte := s.cmu.config.bytes ++ le 1 s.unitNumber

/-- The data of BLOCK_READ (R153): codes, check word, block state, bank-is-active. -/
def blockBytes (b : Bank) (n : Nat) (s : State) : List Byte :=
  let x := (s.tbs.bank b).block n
  x.codes.map (fun c => BitVec.ofNat 8 c.val) ++ le 2 x.check.toNat ++ le 1 x.state.code
    ++ bit (decide (b = s.tbs.active))

/-- Every counter set to 0, except objects_opened, set to the objects in flight (R197). -/
def clearCounters (s : State) : State :=
  s.setRpu
    { s.rpu with
      counters :=
        (List.replicate 54 0).set Counter.objectsOpened.index (BitVec.ofNat 32 s.inFlight) }

end Sys2Proof.Machine
end

