-- ==== Sys2Proof/Machine/Reset.lean ====
section
/-! DEFINITION. The power-on reset and the link reset, block by block (R20, R39, R54, R82, R99, R120,
R141, R162, R178, R191, R198). -/

namespace Sys2Proof.Machine

/-- The table store after a link reset (R162): tables, banks and generation kept. -/
def Tbs.linkReset (t : Tbs) : Tbs :=
  { t with scrubPointer := 0, scrubCount := 0, swap := none, copy := none, boundary := false }

/-- The link interface after a link reset (R191): the forward queue and the frame in transmission on DO
are kept; the frame in transmission on RO is cut off. The mark diOpen is clear: the LRST has just ended on
DI (R184), so no other frame is being received there. -/
def Lki.linkReset (l : Lki) : Lki where
  link := .up
  silence := 0
  diOpen := false
  forwardQueue := l.forwardQueue
  doFrame := l.doFrame
  pauseDue := false
  passBuffer := []
  repeatTimer := none
  pauseTimer := none
  preference := .pass
  roFrame := none

/-- What both resets do alike, with the tables, the configuration and the link interface given. The
engine time base, the queue of commands and the levels at the encoder inputs are no block's state that a
reset sets (log 5). -/
def resetBlocks (tbs : Tbs) (config : Configuration) (lki : Lki) (s : State) : State where
  timeBase := s.timeBase
  bpu := Bpu.reset s.bpu.inA s.bpu.inB s.bpu.inZ
  liu := Liu.reset
  capture := none
  oas := Oas.reset
  vdu := { vq := [], evaluating := none }
  ejs := Ejs.reset
  vlc := Vlc.reset
  tbs := tbs
  cmu := Cmu.reset config
  lki := lki
  rpu := Rpu.reset
  pending := s.pending

/-- The power-on reset. -/
def powerOnReset (s : State) : State :=
  resetBlocks Tbs.powerOn Configuration.powerOn Lki.powerOn s

/-- The link reset (R184). -/
def linkReset (s : State) : State :=
  resetBlocks s.tbs.linkReset s.cmu.config s.lki.linkReset s

/-- POWER_ON_RESET (R178). -/
def execPowerOnReset (s : State) : Host.Outcome State Fault Refusal := .next (powerOnReset s)

end Sys2Proof.Machine
end

