-- ==== Sys2Proof/Machine/Commands.lean ====
section
/-! DEFINITION. The Command Unit: the tests of a received command in their order (R164, R200), and what
each of the 23 commands does once it is accepted. -/

namespace Sys2Proof.Machine

/-! ## Kinds, states, lengths (09 section 9.4, R200) -/

/-- Whether a command is sequenced (09, section 9.4). -/
def Command.sequenced : Command → Bool
  | .nop => false
  | .readStatus => false
  | .readCounters => false
  | .readConfig => false
  | .blockRead => false
  | .abort => false
  | .resync => false
  | _ => true

/-- Whether a command is taken in an engine state (09, section 9.4). -/
def Command.takenIn (c : Command) (e : EngineState) : Bool :=
  match c with
  | .nop => decide (e ≠ .offline)
  | .readStatus => decide (e ≠ .offline)
  | .readCounters => decide (e ≠ .offline)
  | .readConfig => decide (e ≠ .offline)
  | .blockRead => decide (e ≠ .offline)
  | .abort => decide (e ≠ .offline)
  | .resync => decide (e = .standby)
  | .configure => decide (e = .standby)
  | .cctWrite => e.takesLines
  | .cctFill => e.takesLines
  | .nbtWrite => e.takesLines
  | .rrtWrite => e.takesLines
  | .vmtWrite => decide (e = .standby)
  | .ccalWrite => decide (e = .standby)
  | .blockMark => e.takesLines
  | .bankCopy => e.takesLines
  | .bankSwap => e.takesLines
  | .calibrate => decide (e = .standby)
  | .start => decide (e = .standby)
  | .stop => decide (e = .sorting)
  | .clearFault => decide (e = .fault)
  | .valveControl => decide (e ≠ .offline)
  | .valveTest => decide (e = .standby)

/-- A payload length of the form `base + unit x count` with a count of at least 1 (R200). -/
def listLength (base unit n : Nat) : Bool :=
  decide (base + unit ≤ n) && decide ((n - base) % unit = 0) && decide (n ≤ maxPayload)

/-- Whether a command allows a payload length, the command code included (R200; 12.2). -/
def Command.lengthOk (c : Command) (n : Nat) : Bool :=
  match c with
  | .nop => decide (n = 1)
  | .readStatus => decide (n = 1)
  | .readCounters => decide (n = 2)
  | .readConfig => decide (n = 1)
  | .blockRead => decide (n = 3)
  | .abort => decide (n = 1)
  | .resync => decide (n = 1)
  | .configure => decide (n = 48)
  | .cctWrite => decide (n = 260)
  | .cctFill => decide (n = 4)
  | .nbtWrite => listLength 3 3 n
  | .rrtWrite => decide (n = 19)
  | .vmtWrite => listLength 5 1 n
  | .ccalWrite => listLength 5 12 n
  | .blockMark => decide (n = 4)
  | .bankCopy => decide (n = 1)
  | .bankSwap => decide (n = 2)
  | .calibrate => decide (n = 1)
  | .start => decide (n = 1)
  | .stop => decide (n = 1)
  | .clearFault => decide (n = 1)
  | .valveControl => decide (n = 3)
  | .valveTest => decide (n = 3)

/-! ## Entries of a list (12.2) -/

/-- The NBT entries a payload carries. -/
def nbtEntries : List Byte → List NbtEntry
  | a :: b :: c :: rest =>
      { low := a.toNat, high := b.toNat, override := Fin.ofNat 16 c.toNat } :: nbtEntries rest
  | _ => []

/-- Every override class the entries carry is a class code (R200). -/
def nbtClassesOk : List Byte → Bool
  | _ :: _ :: c :: rest => decide (c.toNat ≤ 15) && nbtClassesOk rest
  | _ => true

/-- The VMT entry a byte codes: a valve 00h ~ 3Fh, or FFh for NONE. -/
def vmtEntry (b : Byte) : Option Nat := if b.toNat ≤ 63 then some b.toNat else none

/-- Whether a byte codes a VMT entry (R200). -/
def vmtEntryOk (b : Byte) : Bool := decide (b.toNat ≤ 63) || decide (b.toNat = 255)

/-- One CCal entry of 12 bytes: the dark offsets of R, G, B and N, then their gains. -/
def ccalEntry (p : List Byte) : ColumnCal where
  r := { dark := u8 p 0, gain := u16 p 4 }
  g := { dark := u8 p 1, gain := u16 p 6 }
  b := { dark := u8 p 2, gain := u16 p 8 }
  n := { dark := u8 p 3, gain := u16 p 10 }

/-- The CCal entries a payload carries, `n` of them. -/
def ccalEntries : Nat → List Byte → List ColumnCal
  | 0, _ => []
  | n + 1, p => ccalEntry p :: ccalEntries n (p.drop 12)

/-- A gain in its range (R152). -/
def gainOk (c : ChannelCal) : Bool := decide (128 ≤ c.gain) && decide (c.gain ≤ 511)

/-- The four gains of an entry in their range (R152). -/
def ColumnCal.gainsOk (e : ColumnCal) : Bool := gainOk e.r && gainOk e.g && gainOk e.b && gainOk e.n

/-- The rule an RRT_WRITE carries after its selector (12.2). -/
def ruleOf (p : List Byte) : Rule where
  enabled := decide (u8 p 1 = 1)
  mask := BitVec.ofNat 16 (u16 p 2)
  measure := .ofCode (u8 p 4)
  threshold := u16 p 5
  coincidence :=
    if u8 p 7 = 1 then
      some
        { mask := BitVec.ofNat 16 (u16 p 8), measure := .ofCode (u8 p 10), threshold := u16 p 11 }
    else none
  areaMin := u16 p 13
  areaMax := u16 p 15
  action := .ofCode (u8 p 17)

/-- The tests of an RRT_WRITE's parameters (R151, R200): with selector DEFAULT only the action is tested;
with the coincidence term absent its bytes are not tested. -/
def rrtTests (p : List Byte) : List (Nat × Bool) :=
  let named := decide (u8 p 0 ≤ 15)
  [ (1, decide (u8 p 0 ≤ 16)),
    (2, !named || decide (u8 p 1 ≤ 1)),
    (4, !named || decide (u8 p 4 ≤ 1)),
    (6, !named || decide (u8 p 7 ≤ 1)),
    (8, !named || decide (u8 p 7 ≠ 1) || decide (u8 p 10 ≤ 1)),
    (12, decide (u8 p 17 ≤ 1)) ]

/-- The parameter tests of a command, in position order, over the bytes after the command code (R164 test
5, R147, R200). -/
def Command.paramTests (c : Command) (p : List Byte) : List (Nat × Bool) :=
  match c with
  | .readCounters => [(1, decide (u8 p 0 ≤ 1))]
  | .blockRead => [(1, decide (u8 p 0 ≤ 1)), (2, decide (u8 p 1 ≤ 127))]
  | .configure => configurationTests p
  | .cctWrite =>
      [(1, decide (u8 p 0 ≤ 127)),
        (2, ((p.drop 1).take 256).all (fun x => decide (x.toNat ≤ 15)))]
  | .cctFill =>
      [(1, decide (u8 p 0 ≤ 127)), (2, decide (u8 p 1 ≤ 127) && decide (u8 p 0 ≤ u8 p 1)),
        (3, decide (u8 p 2 ≤ 15))]
  | .nbtWrite =>
      [(1, decide (u8 p 0 ≤ 15)),
        (2, decide (1 ≤ u8 p 1) && decide (u8 p 1 ≤ 16) && decide (u8 p 0 + u8 p 1 ≤ 16)
              && decide (p.length = 2 + 3 * u8 p 1)),
        (3, nbtClassesOk (p.drop 2))]
  | .rrtWrite => rrtTests p
  | .vmtWrite =>
      [(1, decide (u16 p 0 ≤ 575)),
        (2, decide (1 ≤ u16 p 2) && decide (u16 p 0 + u16 p 2 ≤ 576)
              && decide (p.length = 4 + u16 p 2)),
        (3, (p.drop 4).all vmtEntryOk)]
  | .ccalWrite =>
      [(1, decide (u16 p 0 ≤ 575)),
        (2, decide (1 ≤ u16 p 2) && decide (u16 p 0 + u16 p 2 ≤ 576)
              && decide (p.length = 4 + 12 * u16 p 2)),
        (3, (ccalEntries (u16 p 2) (p.drop 4)).all ColumnCal.gainsOk)]
  | .blockMark =>
      [(1, decide (u8 p 0 ≤ 1)), (2, decide (u8 p 1 ≤ 127)), (3, decide (u8 p 2 ≤ 1))]
  | .valveControl => [(1, decide (u8 p 0 ≤ 63)), (2, decide (u8 p 1 ≤ 1))]
  | .valveTest => [(1, decide (u8 p 0 ≤ 63)), (2, decide (1 ≤ u8 p 1))]
  | .nop => []
  | .readStatus => []
  | .readConfig => []
  | .abort => []
  | .resync => []
  | .bankCopy => []
  | .bankSwap => []
  | .calibrate => []
  | .start => []
  | .stop => []
  | .clearFault => []

/-! ## Answers -/

/-- The response of a command with its tag. -/
def answer (c : Command) (tag : Word16) (status : Status) (detail : Nat) (data : List Byte)
    (s : State) : State :=
  respond (BitVec.ofNat 8 c.code) tag status detail data s

/-! ## Immediate commands (R153, R166, R167, R169, R173, R197) -/

/-- NOP (R166). -/
def doNop (tag : Word16) (s : State) : State := answer .nop tag .ok s.cmu.engine.code [] s

/-- READ_STATUS (R167). -/
def doReadStatus (tag : Word16) (s : State) : State := answer .readStatus tag .ok 0 (statusBytes s) s

/-- READ_COUNTERS (R197): read, then cleared if clear is YES, then answered. -/
def doReadCounters (tag : Word16) (p : List Byte) (s : State) : State :=
  answer .readCounters tag .ok 0 (counterBytes s) (if u8 p 0 = 1 then clearCounters s else s)

/-- READ_CONFIG (R169). -/
def doReadConfig (tag : Word16) (s : State) : State := answer .readConfig tag .ok 0 (configBytes s) s

/-- The bank a byte codes. -/
def bankOf (n : Nat) : Bank := if n = 0 then .a else .b

/-- BLOCK_READ (R153). -/
def doBlockRead (tag : Word16) (p : List Byte) (s : State) : State :=
  answer .blockRead tag .ok 0 (blockBytes (bankOf (u8 p 0)) (u8 p 1) s) s

/-- ABORT (R173): the ended command's response first, then its own. -/
def doAbort (tag : Word16) (s : State) : State :=
  match s.cmu.executing with
  | none => answer .abort tag .nothingToAbort 0 [] s
  | some e => answer .abort tag .ok e.command.code [] (abortExecuting s)

/-- RESYNC (R166, R36). -/
def doResync (tag : Word16) (s : State) : State :=
  answer .resync tag .ok s.liu.sync.code [] (enterHunt1 .resync s.liu.offset s)

/-! ## CONFIGURE and the tables (R149 ~ R155, R158, R168) -/

/-- CONFIGURE (R168). -/
def doConfigure (tag : Word16) (p : List Byte) (s : State) : State :=
  answer .configure tag .ok 0 [] (configure (Configuration.ofBytes p) s)

/-- The codes a CCT_WRITE carries. -/
def cctCodes (p : List Byte) : List ClassCode :=
  ((p.drop 1).take 256).map (fun x => Fin.ofNat 16 x.toNat)

/-- CCT_WRITE (R149). -/
def doCctWrite (tag : Word16) (p : List Byte) (s : State) : State :=
  let codes := cctCodes p
  let n := u8 p 0
  let computed := blockCheck codes
  if computed.toNat = u16 p 257 then
    answer .cctWrite tag .ok (s.tbs.standbyBank.block n).state.code []
      (s.setBlock s.tbs.standby n { codes := codes, check := computed, state := .valid })
  else answer .cctWrite tag .badCheck computed.toNat [] s

/-- CCT_FILL (R150). -/
def doCctFill (tag : Word16) (p : List Byte) (s : State) : State :=
  let first := u8 p 0
  let last := u8 p 1
  let block := CctBlock.filled (Fin.ofNat 16 (u8 p 2))
  let bank := s.tbs.standbyBank
  answer .cctFill tag .ok (last + 1 - first) []
    (s.setStandby
      { bank with
        cct := mapFrom (fun i b => if first ≤ i ∧ i ≤ last then block else b) 0 bank.cct })

/-- NBT_WRITE (R151). -/
def doNbtWrite (tag : Word16) (p : List Byte) (s : State) : State :=
  let bank := s.tbs.standbyBank
  answer .nbtWrite tag .ok 0 []
    (s.setStandby { bank with nbt := writeFrom (u8 p 0) (nbtEntries (p.drop 2)) bank.nbt })

/-- RRT_WRITE (R151). -/
def doRrtWrite (tag : Word16) (p : List Byte) (s : State) : State :=
  let bank := s.tbs.standbyBank
  answer .rrtWrite tag .ok 0 []
    (s.setStandby
      (if u8 p 0 ≤ 15 then { bank with rules := bank.rules.set (u8 p 0) (ruleOf p) }
      else { bank with default := .ofCode (u8 p 17) }))

/-- VMT_WRITE (R152). -/
def doVmtWrite (tag : Word16) (p : List Byte) (s : State) : State :=
  answer .vmtWrite tag .ok 0 []
    (s.setTbs { s.tbs with vmt := writeFrom (u16 p 0) ((p.drop 4).map vmtEntry) s.tbs.vmt })

/-- CCAL_WRITE (R152). -/
def doCcalWrite (tag : Word16) (p : List Byte) (s : State) : State :=
  answer .ccalWrite tag .ok 0 []
    (s.setTbs
      { s.tbs with ccal := writeFrom (u16 p 0) (ccalEntries (u16 p 2) (p.drop 4)) s.tbs.ccal })

/-- BLOCK_MARK BAD on a written block (R154). -/
def markBad (tag : Word16) (b : Bank) (n : Nat) (s : State) : State :=
  let x := (s.tbs.bank b).block n
  answer .blockMark tag .ok x.state.code [] (s.setBlock b n { x with state := .bad })

/-- BLOCK_MARK RECHECK on a written block (R154). -/
def recheck (tag : Word16) (b : Bank) (n : Nat) (s : State) : State :=
  let x := (s.tbs.bank b).block n
  let computed := blockCheck x.codes
  if computed = x.check then
    answer .blockMark tag .ok 0 [] (s.setBlock b n { x with state := .valid })
  else
    answer .blockMark tag .badCheck computed.toNat [] (s.setBlock b n { x with state := .bad })

/-- BLOCK_MARK (R154). -/
def doBlockMark (tag : Word16) (p : List Byte) (s : State) : State :=
  let b := bankOf (u8 p 0)
  let n := u8 p 1
  if ((s.tbs.bank b).block n).state = .unwritten then answer .blockMark tag .badState 0 [] s
  else if u8 p 2 = 1 then recheck tag b n s
  else markBad tag b n s

/-- BANK_COPY (R155). -/
def doBankCopy (tag : Word16) (s : State) : State :=
  beginCommand .bankCopy tag
    (s.setTbs { s.tbs with copy := some { next := 0, badCopies := 0 } })

/-- An accepted BANK_SWAP (R158): pending in SORTING, else complete at the acceptance. -/
def acceptSwap (tag : Word16) (deadline : Nat) (s : State) : State :=
  if s.cmu.engine = .sorting then
    beginCommand .bankSwap tag
      (s.setTbs
        { s.tbs with
          swap :=
            some
              { deadline := if deadline = 0 then s.cmu.config.swapDeadline else deadline
                counted := 0 } })
  else answer .bankSwap tag .ok 0 [] (exchangeBanks s)

/-- BANK_SWAP (R158). -/
def doBankSwap (tag : Word16) (p : List Byte) (s : State) : State :=
  match s.tbs.standbyBank.firstIn .unwritten with
  | some n => answer .bankSwap tag .bankIncomplete n [] s
  | none =>
      match s.tbs.standbyBank.firstIn .bad with
      | some n => answer .bankSwap tag .bankHasBad n [] s
      | none => acceptSwap tag (u8 p 0) s

/-! ## CALIBRATE, START, STOP, CLEAR_FAULT (R46, R170, R171, R177) -/

/-- CALIBRATE (R46). -/
def doCalibrate (tag : Word16) (s : State) : State :=
  if s.cmu.config.windowed then
    if s.liu.sync = .locked then
      beginCommand .calibrate tag (s.setCapture (some (Capture.start s.cmu.config.width)))
    else answer .calibrate tag .notLocked 0 [] s
  else answer .calibrate tag .badParam 2 [] s

/-- START (R170). -/
def doStart (tag : Word16) (s : State) : State :=
  match s.tbs.activeBank.firstIn .unwritten with
  | some n => answer .start tag .bankIncomplete n [] s
  | none =>
      if s.cmu.config.windowed then
        if s.liu.sync = .locked then
          if s.vlc.link = .up then answer .start tag .ok 0 [] (startSorting s)
          else answer .start tag .valveLink 0 [] s
        else answer .start tag .notLocked s.liu.sync.code [] s
      else answer .start tag .badParam 2 [] s

/-- STOP (R171); the running out of the drain is tested at the end of the event (R172). -/
def doStop (tag : Word16) (s : State) : State := stopSorting tag s

/-- CLEAR_FAULT (R177). -/
def doClearFault (tag : Word16) (s : State) : State :=
  answer .clearFault tag .ok ((s.cmu.cause.map FaultCause.code).getD 0) [] (clearFault s)

/-! ## Valves (R129 ~ R131) -/

/-- VALVE_CONTROL DISABLE (R129). -/
def doDisable (tag : Word16) (i : Nat) (s : State) : State :=
  answer .valveControl tag .ok (s.valve i).state.code [] (disableValve i s)

/-- The valve is IDLE after an accepted ENABLE and the ON test is applied; the response carries its state
after the command (R130). -/
def enableAccepted (tag : Word16) (i : Nat) (s : State) : State :=
  let t := enableValve i s
  answer .valveControl tag .ok (t.valve i).state.code [] t

/-- ENABLE of a valve whose thermal count is to be at or below rearm_level (R130). -/
def enableIfCool (tag : Word16) (i : Nat) (s : State) : State :=
  if (s.valve i).thermal ≤ s.cmu.config.rearmLevel then enableAccepted tag i s
  else answer .valveControl tag .valveHot (s.valve i).thermal [] s

/-- VALVE_CONTROL ENABLE (R130). -/
def doEnable (tag : Word16) (i : Nat) (s : State) : State :=
  match (s.valve i).state with
  | .idle => answer .valveControl tag .ok (s.valve i).state.code [] s
  | .on => answer .valveControl tag .ok (s.valve i).state.code [] s
  | .holdoff => answer .valveControl tag .ok (s.valve i).state.code [] s
  | .tripped => enableIfCool tag i s
  | .disabled .soft => enableIfCool tag i s
  | .disabled .coil =>
      if (s.valve i).coilFault then
        answer .valveControl tag .valveState (s.valve i).thermal [] s
      else enableIfCool tag i s

/-- VALVE_CONTROL (R129, R130). -/
def doValveControl (tag : Word16) (p : List Byte) (s : State) : State :=
  if u8 p 1 = 1 then doEnable tag (u8 p 0) s else doDisable tag (u8 p 0) s

/-- The start of a valve test (R131). -/
def startTest (tag : Word16) (i ms : Nat) (s : State) : State :=
  onTest i
    (beginCommand .valveTest tag
      (s.setVlc { s.vlc with test := some { valve := i, left := ms * 10000 } }))

/-- VALVE_TEST (R131). -/
def doValveTest (tag : Word16) (p : List Byte) (s : State) : State :=
  if s.vlc.link = .up then
    if (s.valve (u8 p 0)).state = .idle then startTest tag (u8 p 0) (u8 p 1) s
    else answer .valveTest tag .valveState (s.valve (u8 p 0)).state.code [] s
  else answer .valveTest tag .valveLink 0 [] s

/-! ## Acceptance (R164) -/

/-- A command that has passed tests 1 ~ 5: its own tests, and its effect. -/
def acceptCommand (c : Command) (tag : Word16) (p : List Byte) (s : State) : State :=
  match c with
  | .nop => doNop tag s
  | .readStatus => doReadStatus tag s
  | .readCounters => doReadCounters tag p s
  | .readConfig => doReadConfig tag s
  | .blockRead => doBlockRead tag p s
  | .abort => doAbort tag s
  | .resync => doResync tag s
  | .configure => doConfigure tag p s
  | .cctWrite => doCctWrite tag p s
  | .cctFill => doCctFill tag p s
  | .nbtWrite => doNbtWrite tag p s
  | .rrtWrite => doRrtWrite tag p s
  | .vmtWrite => doVmtWrite tag p s
  | .ccalWrite => doCcalWrite tag p s
  | .blockMark => doBlockMark tag p s
  | .bankCopy => doBankCopy tag s
  | .bankSwap => doBankSwap tag p s
  | .calibrate => doCalibrate tag s
  | .start => doStart tag s
  | .stop => doStop tag s
  | .clearFault => doClearFault tag s
  | .valveControl => doValveControl tag p s
  | .valveTest => doValveTest tag p s

/-- Tests 2 ~ 5 of a known command (R164), over its parameter bytes `p`; the payload holds the command
code too. -/
def testCommand (c : Command) (tag : Word16) (p : List Byte) (s : State) : State :=
  if !c.lengthOk (p.length + 1) then answer c tag .badLength (p.length + 1) [] s
  else if !c.takenIn s.cmu.engine then answer c tag .badState s.cmu.engine.code [] s
  else
    match c.sequenced, s.cmu.executing with
    | true, some e => answer c tag .busy e.command.code [] s
    | _, _ =>
        match firstFailing (c.paramTests p) with
        | some position => answer c tag .badParam position [] s
        | none => acceptCommand c tag p s

/-- A command is received by the CMU (R164, R199). -/
def receiveCommand (tag : Word16) (payload : List Byte) (s : State) : State :=
  match payload with
  | [] => respond 0 tag .badLength 0 [] s
  | code :: p =>
      match Command.ofCode code.toNat with
      | none => respond code tag .badOpcode code.toNat [] s
      | some c => testCommand c tag p s

end Sys2Proof.Machine
end

