-- ==== Sys2Proof/Machine/Link.lean ====
section
/-! DEFINITION. The Link Interface: reception on DI and RI, forwarding, the destination filter and the
command gate, numbering, the link reset, pause and silence (10_the_scan_link_and_the_chain.md, R194,
R199), and the meanings of its commands. -/

namespace Sys2Proof.Machine

/-! ## Forwarding (R180, R199) -/

/-- The frame forwarded for a good DI frame; none for a PAUSE of payload length 0 (R180). -/
def forwardOf (f : Frame) : Option Frame :=
  if f.ftype = 0x05 ∧ f.payload.length = 0 then none
  else if f.ftype = 0x03 ∧ f.payload.length = 1 then
    some { f with payload := le 1 (min 255 (u8 f.payload 0 + 1)) }
  else some f

/-- A frame to be forwarded joins the forward queue, or is dropped as forward_drops (R180). -/
def joinForward (f : Frame) (s : State) : State :=
  if s.lki.forwardQueue.length < 2 then
    doKick (s.setLki { s.lki with forwardQueue := s.lki.forwardQueue ++ [f] })
  else bump .forwardDrops s

/-- A good DI frame is handed to DO (R180). -/
def forward (f : Frame) (s : State) : State :=
  match forwardOf f with
  | none => s
  | some g => joinForward g s

/-! ## Arrival (R179, R185) -/

/-- A good DI frame has arrived: the silence timer restarts, and a link that is DOWN comes UP, DO resuming
with a waiting PAUSE first (R185). -/
def arrive (s : State) : State :=
  doKick (s.setLki { s.lki with silence := 0, diOpen := false, link := .up })

/-- A frame on DI that is not good is dropped and counted; its symbols restart the silence timer (R179,
R185). -/
def dropDi (s : State) : State :=
  bump .crcErrors (s.setLki { s.lki with silence := 0, diOpen := false })

/-! ## Destination filter and command gate (R182, R194) -/

/-- A CMD frame passes the destination filter (R182). -/
def passesFilter (h : Header) (s : State) : Bool :=
  match s.cmu.unit with
  | none => false
  | some u =>
      if h.destKind = 0x01 then decide (h.destValue.toNat = u)
      else if h.destKind = 0x02 then h.destValue.getLsbD s.cmu.config.group
      else decide (h.destKind = 0x03)

/-- The command gate is closed: the RQ holds 26 or more responses (R194). -/
def gateClosed (s : State) : Bool := decide (26 ≤ s.rpu.responses)

/-- The local action on a CMD frame (R181, R182, R194). -/
def commandFrame (h : Header) (payload : List Byte) (s : State) : State :=
  if passesFilter h s then
    if gateClosed s then bump .commandsDropped s else receiveCommand h.tag payload s
  else s

/-! ## Numbering (R183) -/

/-- The unit number becomes `n` in a numbered state: CHAIN_CHANGED (R183, R186). -/
def renumber (old n : Nat) (s : State) : State :=
  raiseCause .chainChanged
    (notice (.chainChanged old n) (s.setCmu { s.cmu with unit := some n }))

/-- An OFFLINE engine is numbered: it becomes STANDBY and its LIU enters HUNT1 by ENUM with line offset 0
(R183, R163, R36). -/
def number (n : Nat) (s : State) : State :=
  enterHunt1 .enumNumbering 0 (s.setCmu { s.cmu with unit := some n, engine := .standby })

/-- The effect of an ENUM with hop count `n` (R183). -/
def enumerate (n : Nat) (s : State) : State :=
  match s.cmu.unit with
  | none => if n ≤ 7 then number n s else s
  | some u =>
      if n ≤ 7 then if n = u then s else renumber u n s
      else notice (.enumOverflow n) s

/-! ## Local action by type (R181, R199) -/

/-- A PAUSE sets the pause timer to 50 us (R189). -/
def honourPause (s : State) : State :=
  bump .pausesReceived (s.setLki { s.lki with pauseTimer := some 500 })

/-- The local action on a good DI frame (R181, R199). -/
def localAction (f : Frame) (s : State) : State :=
  if f.ftype = 0x01 then intakeFrame f.payload s
  else if f.ftype = 0x02 then commandFrame f.hdr f.payload s
  else if f.ftype = 0x03 then
    if f.payload.length = 1 then enumerate (u8 f.payload 0) s else s
  else if f.ftype = 0x04 then
    if f.payload.length = 0 then linkReset s else s
  else if f.ftype = 0x05 then
    if f.payload.length = 0 then honourPause s else s
  else s

/-- A good frame received on DI: the link comes up, the frame is forwarded, then acted on; a cause it
raised is taken at its end (R179 ~ R181, R185). A payload above 4,104 bytes makes no good frame. -/
def receiveDi (f : Frame) (s : State) : State :=
  if f.payload.length ≤ maxPayload then finish (localAction f (forward f (arrive s))) else dropDi s

/-! ## Return in (R187, R188) -/

/-- PAUSE due is set and the pause repeat timer starts at 40 us (R188). -/
def setPauseDue (s : State) : State :=
  doKick (s.setLki { s.lki with pauseDue := true, repeatTimer := some 400 })

/-- A good RI frame joins the Pass Buffer, or is dropped as return_overflow (R187, R188, R190). -/
def enterPass (f : Frame) (s : State) : State :=
  if s.lki.passBuffer.length < 4 then
    let t := s.setLki { s.lki with passBuffer := s.lki.passBuffer ++ [f] }
    roKick (if s.lki.passBuffer.length = 2 then setPauseDue t else t)
  else bump .returnOverflow s

/-- A frame received on RI; a payload above 4,104 bytes makes no good frame (R179). -/
def receiveRi (f : Frame) (s : State) : State :=
  if f.payload.length ≤ maxPayload then enterPass f s else bump .crcErrors s

/-! ## Silence and symbols (R179, R185) -/

/-- A frame being received on DI is cut off and counted once (R179). -/
def cutOff (s : State) : State :=
  if s.lki.diOpen then bump .crcErrors (s.setLki { s.lki with diOpen := false }) else s

/-- The link goes DOWN (R185, R186). -/
def linkGoesDown (s : State) : State :=
  raiseCause .linkDown
    (notice (.linkDown s.cmu.engine) (bump .linkDowns (s.setLki { s.lki with link := .down })))

/-- 1 ms of silence on DI (R185). -/
def silenceExpires (s : State) : State :=
  let t := cutOff (s.setLki { s.lki with silence := 10000 })
  if t.lki.link = .up then linkGoesDown t else t

/-- Symbols on DI that make no good frame (R179, R185). -/
def receiveSymbols (sym : Symbols) (s : State) : State :=
  let t := s.setLki { s.lki with silence := 0 }
  match sym with
  | .idle => t
  | .frameGoesOn => t
  | .frameBegins =>
      let u := cutOff t
      u.setLki { u.lki with diOpen := true }

/-! ## Timers and boundaries (R180, R188 ~ R190) -/

/-- The pause timer expires and the RO arbiter acts (R189). -/
def pauseExpires (s : State) : State :=
  match s.lki.pauseTimer with
  | none => s
  | some _ => roKick (s.setLki { s.lki with pauseTimer := none })

/-- The pause repeat timer expires (R188). -/
def repeatExpires (s : State) : State :=
  match s.lki.repeatTimer with
  | none => s
  | some _ =>
      if 3 ≤ s.lki.passBuffer.length then setPauseDue s
      else s.setLki { s.lki with repeatTimer := none }

/-- A frame boundary on DO (R180). -/
def doBoundary (s : State) : State := doKick (s.setLki { s.lki with doFrame := none })

/-- The end of an RO transmission (R190). -/
def roEnds (s : State) : State := roKick (s.setLki { s.lki with roFrame := none })

/-- Received bytes that make no good frame, or a frame cut off, on a lane; bytes that do make a good
frame, not cut off, are received as that frame (R179). -/
def receiveNotGood (lane : Lane) (bytes : List Byte) (cut : Bool) (s : State) : State :=
  match lane, cut, receiveBytes bytes with
  | .di, false, some f => receiveDi f s
  | .ri, false, some f => receiveRi f s
  | .di, _, _ => dropDi s
  | .ri, _, _ => bump .crcErrors s

/-! ## Meanings -/

/-- LINE_FRAME (R23). -/
def execLineFrame (h : Header) (payload : List Byte) (s : State) :
    Host.Outcome State Fault Refusal :=
  .next (receiveDi { ftype := 0x01, hdr := h, payload := payload } s)

/-- ENUM (R183). -/
def execEnum (h : Header) (payload : List Byte) (s : State) : Host.Outcome State Fault Refusal :=
  .next (receiveDi { ftype := 0x03, hdr := h, payload := payload } s)

/-- LINK_RESET (R184). -/
def execLinkReset (h : Header) (payload : List Byte) (s : State) :
    Host.Outcome State Fault Refusal :=
  .next (receiveDi { ftype := 0x04, hdr := h, payload := payload } s)

/-- PAUSE (R189). -/
def execPause (h : Header) (payload : List Byte) (s : State) : Host.Outcome State Fault Refusal :=
  .next (receiveDi { ftype := 0x05, hdr := h, payload := payload } s)

/-- FORWARDED_FRAME (R180). -/
def execForwardedFrame (f : Frame) (s : State) : Host.Outcome State Fault Refusal :=
  .next (receiveDi f s)

/-- FRAME_NOT_GOOD (R179). -/
def execFrameNotGood (lane : Lane) (bytes : List Byte) (cut : Bool) (s : State) :
    Host.Outcome State Fault Refusal :=
  .next (receiveNotGood lane bytes cut s)

/-- PASS_BUFFER_ENTRY (R187). -/
def execPassBufferEntry (f : Frame) (s : State) : Host.Outcome State Fault Refusal :=
  .next (receiveRi f s)

/-- PAUSE_TIMER_EXPIRY (R189): acts while the pause timer runs (log 3). -/
def execPauseTimerExpiry (s : State) : Host.Outcome State Fault Refusal := .next (pauseExpires s)

/-- PAUSE_REPEAT_EXPIRY (R188): acts while the pause repeat timer runs (log 3). -/
def execPauseRepeatExpiry (s : State) : Host.Outcome State Fault Refusal := .next (repeatExpires s)

/-- DO_FRAME_BOUNDARY (R180). -/
def execDoFrameBoundary (s : State) : Host.Outcome State Fault Refusal := .next (doBoundary s)

/-- RO_TRANSMISSION_END (R190). -/
def execRoTransmissionEnd (s : State) : Host.Outcome State Fault Refusal := .next (roEnds s)

/-- SILENCE_TIMER_EXPIRY (R185). -/
def execSilenceTimerExpiry (s : State) : Host.Outcome State Fault Refusal :=
  .next (finish (silenceExpires s))

/-- DI_SYMBOL_RECEIVED (R185). -/
def execDiSymbolReceived (sym : Symbols) (s : State) : Host.Outcome State Fault Refusal :=
  .next (receiveSymbols sym s)

end Sys2Proof.Machine
end

