-- ==== Sys2Proof/Machine/CommandFrames.lean ====
section
/-! DEFINITION. The meanings of the rows that are command frames: each is the reception of a CMD frame
on DI (R181, R182, R194, R164) whose payload is the command code and the bytes after it. What an accepted
command does is in Commands.lean. -/

namespace Sys2Proof.Machine

/-- The CMD frame of a payload. -/
def cmdFrame (h : Header) (payload : List Byte) : Frame where
  ftype := 0x02
  hdr := h
  payload := payload

/-- The CMD frame of a command. -/
def commandOf (c : Command) (h : Header) (params : List Byte) : Frame :=
  cmdFrame h (BitVec.ofNat 8 c.code :: params)

/-- NOP (R166). -/
def execNop (h : Header) (params : List Byte) (s : State) : Host.Outcome State Fault Refusal :=
  .next (receiveDi (commandOf .nop h params) s)

/-- READ_STATUS (R167). -/
def execReadStatus (h : Header) (params : List Byte) (s : State) : Host.Outcome State Fault Refusal :=
  .next (receiveDi (commandOf .readStatus h params) s)

/-- READ_COUNTERS (R197). -/
def execReadCounters (h : Header) (params : List Byte) (s : State) : Host.Outcome State Fault Refusal :=
  .next (receiveDi (commandOf .readCounters h params) s)

/-- READ_CONFIG (R169). -/
def execReadConfig (h : Header) (params : List Byte) (s : State) : Host.Outcome State Fault Refusal :=
  .next (receiveDi (commandOf .readConfig h params) s)

/-- BLOCK_READ (R153). -/
def execBlockRead (h : Header) (params : List Byte) (s : State) : Host.Outcome State Fault Refusal :=
  .next (receiveDi (commandOf .blockRead h params) s)

/-- ABORT (R173). -/
def execAbort (h : Header) (params : List Byte) (s : State) : Host.Outcome State Fault Refusal :=
  .next (receiveDi (commandOf .abort h params) s)

/-- RESYNC (R166). -/
def execResync (h : Header) (params : List Byte) (s : State) : Host.Outcome State Fault Refusal :=
  .next (receiveDi (commandOf .resync h params) s)

/-- CONFIGURE (R168). -/
def execConfigure (h : Header) (params : List Byte) (s : State) : Host.Outcome State Fault Refusal :=
  .next (receiveDi (commandOf .configure h params) s)

/-- CCT_WRITE (R149). -/
def execCctWrite (h : Header) (params : List Byte) (s : State) : Host.Outcome State Fault Refusal :=
  .next (receiveDi (commandOf .cctWrite h params) s)

/-- CCT_FILL (R150). -/
def execCctFill (h : Header) (params : List Byte) (s : State) : Host.Outcome State Fault Refusal :=
  .next (receiveDi (commandOf .cctFill h params) s)

/-- NBT_WRITE (R151). -/
def execNbtWrite (h : Header) (params : List Byte) (s : State) : Host.Outcome State Fault Refusal :=
  .next (receiveDi (commandOf .nbtWrite h params) s)

/-- RRT_WRITE (R151). -/
def execRrtWrite (h : Header) (params : List Byte) (s : State) : Host.Outcome State Fault Refusal :=
  .next (receiveDi (commandOf .rrtWrite h params) s)

/-- VMT_WRITE (R152). -/
def execVmtWrite (h : Header) (params : List Byte) (s : State) : Host.Outcome State Fault Refusal :=
  .next (receiveDi (commandOf .vmtWrite h params) s)

/-- CCAL_WRITE (R152). -/
def execCcalWrite (h : Header) (params : List Byte) (s : State) : Host.Outcome State Fault Refusal :=
  .next (receiveDi (commandOf .ccalWrite h params) s)

/-- BLOCK_MARK BAD (R154). -/
def execBlockMarkBad (h : Header) (params : List Byte) (s : State) : Host.Outcome State Fault Refusal :=
  .next (receiveDi (commandOf .blockMark h params) s)

/-- BLOCK_MARK RECHECK (R154). -/
def execBlockMarkRecheck (h : Header) (params : List Byte) (s : State) : Host.Outcome State Fault Refusal :=
  .next (receiveDi (commandOf .blockMark h params) s)

/-- BANK_COPY (R155). -/
def execBankCopy (h : Header) (params : List Byte) (s : State) : Host.Outcome State Fault Refusal :=
  .next (receiveDi (commandOf .bankCopy h params) s)

/-- BANK_SWAP (R158). -/
def execBankSwap (h : Header) (params : List Byte) (s : State) : Host.Outcome State Fault Refusal :=
  .next (receiveDi (commandOf .bankSwap h params) s)

/-- CALIBRATE (R46). -/
def execCalibrate (h : Header) (params : List Byte) (s : State) : Host.Outcome State Fault Refusal :=
  .next (receiveDi (commandOf .calibrate h params) s)

/-- START (R170). -/
def execStart (h : Header) (params : List Byte) (s : State) : Host.Outcome State Fault Refusal :=
  .next (receiveDi (commandOf .start h params) s)

/-- STOP (R171). -/
def execStop (h : Header) (params : List Byte) (s : State) : Host.Outcome State Fault Refusal :=
  .next (receiveDi (commandOf .stop h params) s)

/-- CLEAR_FAULT (R177). -/
def execClearFault (h : Header) (params : List Byte) (s : State) : Host.Outcome State Fault Refusal :=
  .next (receiveDi (commandOf .clearFault h params) s)

/-- VALVE_CONTROL DISABLE (R129). -/
def execValveControlDisable (h : Header) (params : List Byte) (s : State) : Host.Outcome State Fault Refusal :=
  .next (receiveDi (commandOf .valveControl h params) s)

/-- VALVE_CONTROL ENABLE (R130). -/
def execValveControlEnable (h : Header) (params : List Byte) (s : State) : Host.Outcome State Fault Refusal :=
  .next (receiveDi (commandOf .valveControl h params) s)

/-- VALVE_TEST (R131). -/
def execValveTest (h : Header) (params : List Byte) (s : State) : Host.Outcome State Fault Refusal :=
  .next (receiveDi (commandOf .valveTest h params) s)

/-- BAD_OPCODE (R164, R199): an unknown command code, or an empty payload. -/
def execBadOpcode (h : Header) (payload : List Byte) (s : State) :
    Host.Outcome State Fault Refusal :=
  .next (receiveDi (cmdFrame h payload) s)

/-- COMMANDS_DROPPED (R194): a CMD frame that meets the command gate. -/
def execCommandsDropped (h : Header) (payload : List Byte) (s : State) :
    Host.Outcome State Fault Refusal :=
  .next (receiveDi (cmdFrame h payload) s)

end Sys2Proof.Machine
end

