-- ==== Sys2Proof/Machine/LinePath.lean ====
section
/-! DEFINITION. The meanings of the rows of the line path: intake, calibration, assembly, verdict,
ejection and tables. A row that the spec takes at once inside another takes its step here if it still
stands due (log 1). -/

namespace Sys2Proof.Machine

/-- SLOT_DUE (R27): the oldest slot that has become due settles. -/
def execSlotDue (s : State) : Host.Outcome State Fault Refusal := .next (finish (settleOldest s))

/-- HUNT_TIMEOUT (R34): the hunt count has reached 10. -/
def execHuntTimeout (s : State) : Host.Outcome State Fault Refusal := .next (finish (huntTimeout s))

/-- SLOT_DELIVERY (R29): the oldest settled slot is delivered, and what that lets be delivered after it
(R30). -/
def execSlotDelivery (s : State) : Host.Outcome State Fault Refusal := .next (finish (deliver s))

/-- CALIBRATE_COMPLETION (R50): 64 lines are captured. -/
def execCalibrateCompletion (s : State) : Host.Outcome State Fault Refusal :=
  .next (calibrateIfDone s)

/-- LINE_ASSEMBLY_COMPLETION (R57). -/
def execLineAssemblyCompletion (s : State) : Host.Outcome State Fault Refusal :=
  .next (finish (assemblyCompletes s))

/-- CLOSE_ALL (R76): a close-all request taken before the completion of the line in assembly. -/
def execCloseAll (s : State) : Host.Outcome State Fault Refusal := .next (finish (closeAllFirst s))

/-- CLOSING_TO_VQ (R72): the head of the closing order list moves into the VQ, and an IDLE VDU
takes it (R84). -/
def execClosingToVq (s : State) : Host.Outcome State Fault Refusal :=
  .next (finish (vduTake (closingMove s)))

/-- VQ_TAKE (R84): the IDLE VDU takes the VQ head; what it makes room for moves in (R72). -/
def execVqTake (s : State) : Host.Outcome State Fault Refusal := .next (finish (pump (vduTake s)))

/-- EVALUATION_COMPLETION (R85). -/
def execEvaluationCompletion (s : State) : Host.Outcome State Fault Refusal :=
  .next (finish (evaluationCompletes s))

/-- EJECTION_REQUEST (R105): the EJS takes the first standing request of a block (log 2). -/
def execEjectionRequest (src : Requester) (s : State) : Host.Outcome State Fault Refusal :=
  .next (finish (takeFrom src s))

/-- BANK_COPY_STEP (R155): acts while a copy is in progress. -/
def execBankCopyStep (s : State) : Host.Outcome State Fault Refusal := .next (copyStep s)

/-- SWAP_AT_QUIET_POINT (R159). -/
def execSwapAtQuietPoint (s : State) : Host.Outcome State Fault Refusal :=
  .next (swapAtQuietPoint s)

/-- SWAP_FORCED (R160). -/
def execSwapForced (s : State) : Host.Outcome State Fault Refusal := .next (swapAtDeadline s)

/-- SCRUB_CHECK (R157). -/
def execScrubCheck (s : State) : Host.Outcome State Fault Refusal := .next (scrubIfDue s)

/-- CCT_ENTRY_CHANGE (R157): a stored entry changes of itself. -/
def execCctEntryChange (b : Bank) (index : Nat) (code : ClassCode) (s : State) :
    Host.Outcome State Fault Refusal :=
  if index < 32768 then .next (changeEntry b index code s) else .fault (.noSuchEntry index)

/-- DRAIN_RUN_OUT (R172). -/
def execDrainRunOut (s : State) : Host.Outcome State Fault Refusal := .next (drainRunsOut s)

/-- FAULT_ENTRY (R175): a standing cause is taken (log 2). -/
def execFaultEntry (c : FaultCause) (s : State) : Host.Outcome State Fault Refusal :=
  .next (takeCause c s)

/-- LATER_CAUSE (R176): a cause left standing by a FAULT entry is counted (log 2). -/
def execLaterCause (c : FaultCause) (s : State) : Host.Outcome State Fault Refusal :=
  .next (takeLater c s)

end Sys2Proof.Machine
end

