-- ==== Sys2Proof/Machine/ValvePort.lean ====
section
/-! DEFINITION. The meanings of the rows of the valves and the Valve Port, and the passing of time on the
empty queue (07_valves_and_the_valve_port.md; log 3). -/

namespace Sys2Proof.Machine

/-- HOLDOFF_EXPIRY (R125): acts while the valve's holdoff timer is present (log 3). -/
def execHoldoffExpiry (i : Nat) (s : State) : Host.Outcome State Fault Refusal :=
  if i < 64 then .next (holdoffExpires i s) else .fault (.noSuchValve i)

/-- THERMAL_TICK (R127), with the trips it brings (R128). -/
def execThermalTick (s : State) : Host.Outcome State Fault Refusal := .next (thermalTick s)

/-- VALVE_TRIP (R128): acts if the tick has left the valve hot and ON (log 1). -/
def execValveTrip (i : Nat) (s : State) : Host.Outcome State Fault Refusal :=
  if i < 64 then .next (trip i s) else .fault (.noSuchValve i)

/-- VALVE_TEST_EXPIRY (R132): acts while a test runs (log 3). -/
def execValveTestExpiry (s : State) : Host.Outcome State Fault Refusal := .next (testExpires s)

/-- An image starts now (R134): the port phase is FREE, and image due is set or the refresh timer has
reached 1 ms. -/
def Vlc.imageStarts (v : Vlc) : Bool :=
  decide (v.phase = .free) && (v.imageDue || decide (10000 ≤ v.refresh))

/-- IMAGE_START (R134): acts while an image is to start (log 25). -/
def execImageStart (s : State) : Host.Outcome State Fault Refusal :=
  .next (if s.vlc.imageStarts then startImage s else s)

/-- IMAGE_TRANSMISSION_END (R134): acts while an image is in transmission. -/
def execImageTransmissionEnd (s : State) : Host.Outcome State Fault Refusal :=
  .next (if s.vlc.phase = .sending then openWindow s else s)

/-- STATUS_FRAME (R135). -/
def execStatusFrame (bytes : List Byte) (s : State) : Host.Outcome State Fault Refusal :=
  .next (statusArrives bytes s)

/-- ANSWER_WINDOW_CLOSE (R137): acts while an answer window is open. -/
def execAnswerWindowClose (s : State) : Host.Outcome State Fault Refusal :=
  .next (if s.vlc.phase = .awaiting then finish (windowCloses s) else s)

/-! ## Time (log 3) -/

/-- A time left, 0.1 us later; it stops at 0 and waits for its expiry. -/
def countDown (t : Option Nat) : Option Nat := t.map (fun n => n - 1)

/-- A filter time left, 100 ns later. -/
def countDownNs (t : Option Nat) : Option Nat := t.map (fun n => n - 100)

/-- The times the BPU holds, 0.1 us later. -/
def Bpu.tick (b : Bpu) : Bpu :=
  { b with
    timA := countDownNs b.timA
    timB := countDownNs b.timB
    timZ := countDownNs b.timZ
    stallTimer := countDown b.stallTimer }

/-- The times the VLC holds, 0.1 us later. -/
def Vlc.tick (v : Vlc) : Vlc :=
  { v with
    valves := v.valves.map (fun x => { x with holdoff := countDown x.holdoff })
    test := v.test.map (fun t => { t with left := t.left - 1 })
    answerLeft := countDown v.answerLeft
    refresh := min 10000 (v.refresh + 1) }

/-- The times the LKI holds, 0.1 us later. -/
def Lki.tick (l : Lki) : Lki :=
  { l with
    silence := min 10000 (l.silence + 1)
    repeatTimer := countDown l.repeatTimer
    pauseTimer := countDown l.pauseTimer }

/-- One unit of the engine time base, 0.1 us, passes. -/
def tick (s : State) : State :=
  { s with
    timeBase := s.timeBase + 1
    bpu := s.bpu.tick
    vlc := s.vlc.tick
    lki := s.lki.tick }

end Sys2Proof.Machine
end

