-- ==== Sys2Proof/Machine/Dispatch.lean ====
section
/-! DEFINITION. The meaning of every command: one arm per constructor, each a direct call. -/

namespace Sys2Proof.Machine

def exec (i : Instr) (s : State) : Host.Outcome State Fault Refusal :=
  match i with
  | .encoderEdgeAccepted acc => Sys2Proof.Machine.execEncoderEdgeAccepted acc s
  | .stallTimerExpiry => Sys2Proof.Machine.execStallTimerExpiry s
  | .missingIndex => Sys2Proof.Machine.execMissingIndex s
  | .lineTrigger => Sys2Proof.Machine.execLineTrigger s
  | .lineFrame h payload => Sys2Proof.Machine.execLineFrame h payload s
  | .slotDue => Sys2Proof.Machine.execSlotDue s
  | .huntTimeout => Sys2Proof.Machine.execHuntTimeout s
  | .slotDelivery => Sys2Proof.Machine.execSlotDelivery s
  | .calibrateCompletion => Sys2Proof.Machine.execCalibrateCompletion s
  | .lineAssemblyCompletion => Sys2Proof.Machine.execLineAssemblyCompletion s
  | .closeAll => Sys2Proof.Machine.execCloseAll s
  | .closingToVq => Sys2Proof.Machine.execClosingToVq s
  | .vqTake => Sys2Proof.Machine.execVqTake s
  | .evaluationCompletion => Sys2Proof.Machine.execEvaluationCompletion s
  | .ejectionRequest src => Sys2Proof.Machine.execEjectionRequest src s
  | .holdoffExpiry valve => Sys2Proof.Machine.execHoldoffExpiry valve s
  | .thermalTick => Sys2Proof.Machine.execThermalTick s
  | .valveTrip valve => Sys2Proof.Machine.execValveTrip valve s
  | .valveControlDisable h params => Sys2Proof.Machine.execValveControlDisable h params s
  | .valveControlEnable h params => Sys2Proof.Machine.execValveControlEnable h params s
  | .valveTest h params => Sys2Proof.Machine.execValveTest h params s
  | .valveTestExpiry => Sys2Proof.Machine.execValveTestExpiry s
  | .imageStart => Sys2Proof.Machine.execImageStart s
  | .imageTransmissionEnd => Sys2Proof.Machine.execImageTransmissionEnd s
  | .statusFrame bytes => Sys2Proof.Machine.execStatusFrame bytes s
  | .answerWindowClose => Sys2Proof.Machine.execAnswerWindowClose s
  | .nop h params => Sys2Proof.Machine.execNop h params s
  | .badOpcode h payload => Sys2Proof.Machine.execBadOpcode h payload s
  | .commandsDropped h payload => Sys2Proof.Machine.execCommandsDropped h payload s
  | .readStatus h params => Sys2Proof.Machine.execReadStatus h params s
  | .readCounters h params => Sys2Proof.Machine.execReadCounters h params s
  | .readConfig h params => Sys2Proof.Machine.execReadConfig h params s
  | .blockRead h params => Sys2Proof.Machine.execBlockRead h params s
  | .abort h params => Sys2Proof.Machine.execAbort h params s
  | .resync h params => Sys2Proof.Machine.execResync h params s
  | .configure h params => Sys2Proof.Machine.execConfigure h params s
  | .cctWrite h params => Sys2Proof.Machine.execCctWrite h params s
  | .cctFill h params => Sys2Proof.Machine.execCctFill h params s
  | .nbtWrite h params => Sys2Proof.Machine.execNbtWrite h params s
  | .rrtWrite h params => Sys2Proof.Machine.execRrtWrite h params s
  | .vmtWrite h params => Sys2Proof.Machine.execVmtWrite h params s
  | .ccalWrite h params => Sys2Proof.Machine.execCcalWrite h params s
  | .blockMarkBad h params => Sys2Proof.Machine.execBlockMarkBad h params s
  | .blockMarkRecheck h params => Sys2Proof.Machine.execBlockMarkRecheck h params s
  | .bankCopy h params => Sys2Proof.Machine.execBankCopy h params s
  | .bankCopyStep => Sys2Proof.Machine.execBankCopyStep s
  | .bankSwap h params => Sys2Proof.Machine.execBankSwap h params s
  | .swapAtQuietPoint => Sys2Proof.Machine.execSwapAtQuietPoint s
  | .swapForced => Sys2Proof.Machine.execSwapForced s
  | .scrubCheck => Sys2Proof.Machine.execScrubCheck s
  | .calibrate h params => Sys2Proof.Machine.execCalibrate h params s
  | .start h params => Sys2Proof.Machine.execStart h params s
  | .stop h params => Sys2Proof.Machine.execStop h params s
  | .drainRunOut => Sys2Proof.Machine.execDrainRunOut s
  | .clearFault h params => Sys2Proof.Machine.execClearFault h params s
  | .faultEntry cause => Sys2Proof.Machine.execFaultEntry cause s
  | .laterCause cause => Sys2Proof.Machine.execLaterCause cause s
  | .frameNotGood lane bytes cutOff => Sys2Proof.Machine.execFrameNotGood lane bytes cutOff s
  | .forwardedFrame f => Sys2Proof.Machine.execForwardedFrame f s
  | .enum h payload => Sys2Proof.Machine.execEnum h payload s
  | .linkReset h payload => Sys2Proof.Machine.execLinkReset h payload s
  | .pause h payload => Sys2Proof.Machine.execPause h payload s
  | .pauseTimerExpiry => Sys2Proof.Machine.execPauseTimerExpiry s
  | .passBufferEntry f => Sys2Proof.Machine.execPassBufferEntry f s
  | .pauseRepeatExpiry => Sys2Proof.Machine.execPauseRepeatExpiry s
  | .doFrameBoundary => Sys2Proof.Machine.execDoFrameBoundary s
  | .roTransmissionEnd => Sys2Proof.Machine.execRoTransmissionEnd s
  | .silenceTimerExpiry => Sys2Proof.Machine.execSilenceTimerExpiry s
  | .powerOnReset => Sys2Proof.Machine.execPowerOnReset s
  | .encoderInputChange ch level => Sys2Proof.Machine.execEncoderInputChange ch level s
  | .diSymbolReceived sym => Sys2Proof.Machine.execDiSymbolReceived sym s
  | .cctEntryChange bank index code => Sys2Proof.Machine.execCctEntryChange bank index code s

end Sys2Proof.Machine
end

