-- ==== Sys2Proof/WellFormed.lean ====
section
/-! DEFINITION. Well-formed commands: the operands name things the engine has, a frame fits the envelope,
and each frame is spelled by the row it belongs to. `exec` does not test this; it is what a sender of
commands keeps to. -/

namespace Sys2Proof

/-- A payload that fits the envelope (R179). -/
def payloadFits (payload : List Byte) : Bool := decide (payload.length ≤ Machine.maxPayload)

/-- Parameter bytes that fit the envelope behind the command code. -/
def paramsFit (params : List Byte) : Bool := decide (params.length + 1 ≤ Machine.maxPayload)

/-- A payload that carries no known command code (R164, R199). -/
def noCommand : List Byte → Bool
  | [] => true
  | code :: _ => (Machine.Command.ofCode code.toNat).isNone

/-- The byte `n` of the parameters is 01h: RECHECK of BLOCK_MARK, ENABLE of VALVE_CONTROL (12.2). -/
def actionOne (params : List Byte) (n : Nat) : Bool := decide (params.getD n 0 = 1)

/-- Bytes that make no good frame, or a frame cut off (R179). -/
def notGood (bytes : List Byte) (cutOff : Bool) : Bool :=
  cutOff || (Machine.receiveBytes bytes).isNone

/-- A command is well-formed. -/
def Instr.wellFormed : Instr → Bool
  | .lineFrame _ payload => payloadFits payload
  | .enum _ payload => payloadFits payload
  | .linkReset _ payload => payloadFits payload
  | .pause _ payload => payloadFits payload
  | .forwardedFrame f => payloadFits f.payload
  | .passBufferEntry f => payloadFits f.payload
  | .badOpcode _ payload => payloadFits payload && noCommand payload
  | .commandsDropped _ payload => payloadFits payload
  | .frameNotGood _ bytes cutOff => notGood bytes cutOff
  | .holdoffExpiry valve => decide (valve < 64)
  | .valveTrip valve => decide (valve < 64)
  | .cctEntryChange _ index _ => decide (index < 32768)
  | .blockMarkBad _ params => paramsFit params && !actionOne params 2
  | .blockMarkRecheck _ params => paramsFit params && actionOne params 2
  | .valveControlDisable _ params => paramsFit params && !actionOne params 1
  | .valveControlEnable _ params => paramsFit params && actionOne params 1
  | .nop _ params => paramsFit params
  | .readStatus _ params => paramsFit params
  | .readCounters _ params => paramsFit params
  | .readConfig _ params => paramsFit params
  | .blockRead _ params => paramsFit params
  | .abort _ params => paramsFit params
  | .resync _ params => paramsFit params
  | .configure _ params => paramsFit params
  | .cctWrite _ params => paramsFit params
  | .cctFill _ params => paramsFit params
  | .nbtWrite _ params => paramsFit params
  | .rrtWrite _ params => paramsFit params
  | .vmtWrite _ params => paramsFit params
  | .ccalWrite _ params => paramsFit params
  | .bankCopy _ params => paramsFit params
  | .bankSwap _ params => paramsFit params
  | .calibrate _ params => paramsFit params
  | .start _ params => paramsFit params
  | .stop _ params => paramsFit params
  | .clearFault _ params => paramsFit params
  | .valveTest _ params => paramsFit params
  | .encoderEdgeAccepted _ => true
  | .stallTimerExpiry => true
  | .missingIndex => true
  | .lineTrigger => true
  | .slotDue => true
  | .huntTimeout => true
  | .slotDelivery => true
  | .calibrateCompletion => true
  | .lineAssemblyCompletion => true
  | .closeAll => true
  | .closingToVq => true
  | .vqTake => true
  | .evaluationCompletion => true
  | .ejectionRequest _ => true
  | .thermalTick => true
  | .valveTestExpiry => true
  | .imageStart => true
  | .imageTransmissionEnd => true
  | .statusFrame _ => true
  | .answerWindowClose => true
  | .bankCopyStep => true
  | .swapAtQuietPoint => true
  | .swapForced => true
  | .scrubCheck => true
  | .drainRunOut => true
  | .faultEntry _ => true
  | .laterCause _ => true
  | .pauseTimerExpiry => true
  | .pauseRepeatExpiry => true
  | .doFrameBoundary => true
  | .roTransmissionEnd => true
  | .silenceTimerExpiry => true
  | .powerOnReset => true
  | .encoderInputChange _ _ => true
  | .diSymbolReceived _ => true

end Sys2Proof
end

