-- ==== Sys2Proof/Safety.lean ====
section
/-! DEFINITION. What the statements about the engine speak of: a state in which nothing is left for the
Command Unit to take, the conditions under which a command is received and accepted, what an accepted
level change means to the decoder, and the laws the engine keeps. -/

namespace Sys2Proof

/-- The pair (A, B) that stands after an acceptance (R3, R4). -/
def Accepted.pairAfter (b : Machine.Bpu) : Accepted → Bool × Bool
  | .a level => (level, b.fltB)
  | .b level => (b.fltA, level)
  | .ab levelA levelB => (levelA, levelB)
  | .z _ => (b.fltA, b.fltB)

end Sys2Proof

namespace Sys2Proof.Machine

/-! ## Conditions -/

/-- Nothing is left for the Command Unit to take at the end of an event: no fault cause stands, and a
drain has not run out (R172, R175). -/
def State.atRest (s : State) : Prop :=
  s.cmu.causes = [] ∧ (s.cmu.engine = .draining → s.drained = false)

/-- A CMD frame of this header is received by the Command Unit: it passes the destination filter and the
command gate is open (R182, R194). -/
def State.receives (h : Header) (s : State) : Prop :=
  passesFilter h s = true ∧ gateClosed s = false

/-- A command with these parameter bytes passes tests 1 ~ 5 of R164: its length is one it allows, the
engine state is one in which it is taken, a sequenced command finds none executing, and every parameter
lies in its range. -/
def State.admits (c : Command) (p : List Byte) (s : State) : Prop :=
  c.lengthOk (p.length + 1) = true
    ∧ c.takenIn s.cmu.engine = true
    ∧ (c.sequenced = true → s.cmu.executing = none)
    ∧ firstFailing (c.paramTests p) = none

/-- A command is received and passes tests 1 ~ 5 of R164. -/
def State.accepts (c : Command) (h : Header) (p : List Byte) (s : State) : Prop :=
  s.receives h ∧ s.admits c p

/-- The state in which a good DI frame is acted on: it has arrived and has been handed to DO (R180,
R181, R185). -/
def State.heard (f : Frame) (s : State) : State := forward f (arrive s)

/-- The state in which the Command Unit acts on a command. -/
def State.heardCommand (c : Command) (h : Header) (p : List Byte) (s : State) : State :=
  s.heard (commandOf c h p)

/-- The row of the table whose command frame carries a command with these parameter bytes: BLOCK_MARK and
VALVE_CONTROL have a row for each action (12.2). -/
def Command.row (c : Command) (h : Header) (p : List Byte) : Instr :=
  match c with
  | .nop => .nop h p
  | .readStatus => .readStatus h p
  | .readCounters => .readCounters h p
  | .readConfig => .readConfig h p
  | .blockRead => .blockRead h p
  | .abort => .abort h p
  | .resync => .resync h p
  | .configure => .configure h p
  | .cctWrite => .cctWrite h p
  | .cctFill => .cctFill h p
  | .nbtWrite => .nbtWrite h p
  | .rrtWrite => .rrtWrite h p
  | .vmtWrite => .vmtWrite h p
  | .ccalWrite => .ccalWrite h p
  | .blockMark => if actionOne p 2 then .blockMarkRecheck h p else .blockMarkBad h p
  | .bankCopy => .bankCopy h p
  | .bankSwap => .bankSwap h p
  | .calibrate => .calibrate h p
  | .start => .start h p
  | .stop => .stop h p
  | .clearFault => .clearFault h p
  | .valveControl => if actionOne p 1 then .valveControlEnable h p else .valveControlDisable h p
  | .valveTest => .valveTest h p

/-- Every channel the operand names has the level it names on its pin, not accepted yet, with its filter
time running (R3): the change is being timed. -/
def Bpu.timed (b : Bpu) : Accepted → Prop
  | .a level => b.timA.isSome = true ∧ b.inA = level ∧ b.fltA ≠ level
  | .b level => b.timB.isSome = true ∧ b.inB = level ∧ b.fltB ≠ level
  | .ab levelA levelB =>
      (b.timA.isSome = true ∧ b.inA = levelA ∧ b.fltA ≠ levelA)
        ∧ (b.timB.isSome = true ∧ b.inB = levelB ∧ b.fltB ≠ levelB)
  | .z level => b.timZ.isSome = true ∧ b.inZ = level ∧ b.fltZ ≠ level

/-- The Belt Position Unit with accepted levels taken, and nothing else (R3). -/
def Bpu.withLevels (b : Bpu) : Accepted → Bpu
  | .a level => { b with fltA := level, timA := none }
  | .b level => { b with fltB := level, timB := none }
  | .ab levelA levelB => { b with fltA := levelA, timA := none, fltB := levelB, timB := none }
  | .z level => { b with fltZ := level, timZ := none }

/-- Everything but the link and the reports is as before. -/
def State.sameButLink (s t : State) : Prop :=
  t.timeBase = s.timeBase ∧ t.bpu = s.bpu ∧ t.liu = s.liu ∧ t.capture = s.capture ∧ t.oas = s.oas
    ∧ t.vdu = s.vdu ∧ t.ejs = s.ejs ∧ t.vlc = s.vlc ∧ t.tbs = s.tbs ∧ t.cmu = s.cmu
    ∧ t.pending = s.pending

/-- Everything but the link, the reports and the Table Store is as before. -/
def State.sameButTables (s t : State) : Prop :=
  t.timeBase = s.timeBase ∧ t.bpu = s.bpu ∧ t.liu = s.liu ∧ t.capture = s.capture ∧ t.oas = s.oas
    ∧ t.vdu = s.vdu ∧ t.ejs = s.ejs ∧ t.vlc = s.vlc ∧ t.cmu = s.cmu ∧ t.pending = s.pending

/-- Everything but the link, the reports and the Valve Controller is as before. -/
def State.sameButValves (s t : State) : Prop :=
  t.timeBase = s.timeBase ∧ t.bpu = s.bpu ∧ t.liu = s.liu ∧ t.capture = s.capture ∧ t.oas = s.oas
    ∧ t.vdu = s.vdu ∧ t.ejs = s.ejs ∧ t.tbs = s.tbs ∧ t.cmu = s.cmu ∧ t.pending = s.pending

/-! ## Objects on their way -/

/-- The object of a CLOSING slot. -/
def OotSlot.closed? : OotSlot → Option ObjectRecord
  | .free => none
  | .opened _ => none
  | .closing o => some o

/-- The objects of the OPEN slots, in ascending slot index. -/
def Oas.openObjects (o : Oas) : List ObjectRecord := o.oot.filterMap OotSlot.object?

/-- The closed objects in the order in which they are judged: the one under evaluation, the Verdict Queue,
the closing order list (R71, R72, R83, R84). -/
def State.toJudge (s : State) : List ObjectRecord :=
  s.vdu.evaluating.toList ++ s.vdu.vq
    ++ s.oas.closingOrder.filterMap (fun i => (s.oas.oot.getD i .free).closed?)

/-- An object closed by a lost line or a close-all request (R60, R76). -/
def ObjectRecord.lineLost (o : ObjectRecord) : ObjectRecord :=
  { o with flags := { o.flags with lineLoss := true } }

/-! ## Laws -/

/-- The engine is numbered in every engine state other than OFFLINE, and in no other (09, section 9.1). -/
def State.numberedLaw (s : State) : Prop := s.numbered = true ↔ s.cmu.engine ≠ .offline

/-- The reverse debt lies between 0 and reverse_limit (R6, note 1). -/
def State.debtLaw (s : State) : Prop := s.bpu.debt ≤ s.cmu.config.reverseLimit

/-- objects_opened equals, modulo 2^32, the sum of objects_rejected, objects_accepted,
objects_discarded, objects_abandoned, objects_merged and the objects in flight (R196); the Report Unit
holds 54 counters. -/
def State.objectLaw (s : State) : Prop :=
  s.rpu.counters.length = 54
    ∧ s.counter .objectsOpened
        = s.counter .objectsRejected + s.counter .objectsAccepted + s.counter .objectsDiscarded
          + s.counter .objectsAbandoned + s.counter .objectsMerged + BitVec.ofNat 32 s.inFlight

/-- The Report Queue's law (R192, R194): the general places in use are at most 26, and the responses
queued with the one an executing command is still to give are at most 27. -/
def State.queueLaw (s : State) : Prop :=
  s.rpu.generalUsed ≤ 26
    ∧ s.rpu.responses + (if s.cmu.executing.isSome then 1 else 0) ≤ 27

/-- The executing command and the state it works on go together (R165, R171): a running valve test, a
copy in progress, a pending swap and a capture each belong to the executing command of that kind, and in
DRAINING the executing command is STOP. -/
def State.executingLaw (s : State) : Prop :=
  (s.vlc.test.isSome = true → s.executes .valveTest = true)
    ∧ (s.tbs.copy.isSome = true → s.executes .bankCopy = true)
    ∧ (s.tbs.swap.isSome = true → s.executes .bankSwap = true)
    ∧ (s.capture.isSome = true → s.executes .calibrate = true)
    ∧ (s.cmu.engine = .draining → s.executes .stop = true)

/-- A valve is in ON only while its reference count is above 0 and the belt is MOVING, or while a valve
test of it is running (R122). -/
def State.valveLaw (s : State) : Prop :=
  ∀ i < 64, (s.valve i).state = .on →
    (0 < (s.valve i).refCount ∧ s.bpu.beltState = .moving) ∨ s.vlc.tests i = true

/-- Whether a record's valve range includes a valve (R126). -/
def EjectionRecord.covers (r : EjectionRecord) (valve : Nat) : Bool :=
  decide (r.valveFirst ≤ valve) && decide (valve ≤ r.valveLast)

/-- Number of AEL records whose valve range includes a valve (R126). -/
def Ejs.covering (e : Ejs) (valve : Nat) : Nat :=
  e.ael.countP (fun x =>
    match x with
    | some r => r.covers valve
    | none => false)

/-- Each valve's reference count equals the number of AEL records whose valve range includes it (R126);
every valve range held or requested runs from its least valve to its greatest (R75, R92). -/
def State.coverLaw (s : State) : Prop :=
  s.vlc.valves.length = 64
    ∧ (∀ i < 64, (s.valve i).refCount = s.ejs.covering i)
    ∧ (∀ r, some r ∈ s.ejs.ael → r.valveFirst ≤ r.valveLast)
    ∧ (∀ r ∈ s.ejs.eq, r.valveFirst ≤ r.valveLast)
    ∧ (∀ q ∈ s.ejs.vduRequests, q.valveFirst ≤ q.valveLast)
    ∧ (∀ q ∈ s.ejs.oasRequests, q.valveFirst ≤ q.valveLast)

/-- The Ejection Queue stands in ascending open distance, a reached position counted 0 (R101). -/
def State.orderLaw (s : State) : Prop :=
  s.ejs.eq.Pairwise (fun a b => a.openDistance s.bpu.travel ≤ b.openDistance s.bpu.travel)

/-- The PLR holds at most 128 runs, in increasing column order, no two overlapping, each labelled with an
OPEN slot or none (R63). -/
def State.plrLaw (s : State) : Prop :=
  s.oas.plr.length ≤ 128
    ∧ s.oas.plr.Pairwise (fun a b => a.last < b.first)
    ∧ (∀ p ∈ s.oas.plr, p.first ≤ p.last)
    ∧ ∀ p ∈ s.oas.plr, ∀ i ∈ p.label, (s.oas.oot.getD i .free).isOpen = true

/-- The closing order list holds every CLOSING slot once, and no other slot (R71). -/
def State.closingLaw (s : State) : Prop :=
  s.oas.closingOrder.Nodup
    ∧ ∀ i, i ∈ s.oas.closingOrder ↔ (s.oas.oot.getD i .free).isClosing = true

/-- Every object in flight holds at least one pixel and 16 class counts, that of class 0 being 0
(R61, R65, R88). -/
def State.recordLaw (s : State) : Prop :=
  ∀ o ∈ s.oas.openObjects ++ s.oas.oot.filterMap OotSlot.closed? ++ s.vdu.vq
      ++ s.vdu.evaluating.toList,
    1 ≤ o.area ∧ o.histogram.length = 16 ∧ o.histogram.getD 0 0 = 0

/-- The active bank holds no UNWRITTEN block while the engine is SORTING or DRAINING, nor does the
standby bank while a swap is pending (03 section 3.3; R158, R170). -/
def State.bankLaw (s : State) : Prop :=
  (s.cmu.engine = .sorting ∨ s.cmu.engine = .draining → s.tbs.activeBank.firstIn .unwritten = none)
    ∧ (s.tbs.swap.isSome = true → s.tbs.standbyBank.firstIn .unwritten = none)

/-- The eight ring slots are conserved (R21, R22, R30): every index 0 ~ 7 is either FREE or held by one
slot that is not FREE, and a line in assembly stands in a slot that is ASSEMBLING. -/
def State.ringLaw (s : State) : Prop :=
  (s.liu.busy.map (fun x => x.index) ++ s.liu.freeOrder).Perm [0, 1, 2, 3, 4, 5, 6, 7]
    ∧ ∀ l ∈ s.oas.lineInAssembly, ∃ x ∈ s.liu.busy, x.index = l.slot ∧ x.state = .assembling

/-- The queues hold no more than their places: EQ 64, VQ 16, forward queue 2, Pass Buffer 4
(R83, R101, 10 section 10.1). -/
def State.queueBounds (s : State) : Prop :=
  s.ejs.eq.length ≤ 64 ∧ s.vdu.vq.length ≤ 16 ∧ s.lki.forwardQueue.length ≤ 2
    ∧ s.lki.passBuffer.length ≤ 4

/-- A product bank has its lengths: 128 blocks of 256 codes, 16 NBT entries, 16 rules (R142, R145,
R146; 08 section 8.2.1). -/
def ProductBank.shaped (p : ProductBank) : Prop :=
  p.cct.length = 128 ∧ (∀ b ∈ p.cct, b.codes.length = 256) ∧ p.nbt.length = 16
    ∧ p.rules.length = 16

/-- The tables and lists of fixed length have it (R55, R102, R122, R142, R152, R196). -/
def State.shaped (s : State) : Prop :=
  s.oas.oot.length = 96 ∧ s.ejs.ael.length = 16 ∧ s.vlc.valves.length = 64
    ∧ s.tbs.vmt.length = 576 ∧ s.tbs.ccal.length = 576 ∧ s.tbs.bankA.shaped ∧ s.tbs.bankB.shaped
    ∧ s.rpu.counters.length = 54

end Sys2Proof.Machine
end

