-- ==== Sys2Proof/Certificates/Slice0/Obligations.lean ====
section
/-! DEFINITION. The statements about the engine. Where a clause rests on a choice of the model, its
docstring says so and names the log entry. -/

open Sys2Proof Sys2Proof.Machine

/-! ## The queue of commands and time -/

/-- A step takes the command at the front of the queue and runs it on the state with the queue's rest. -/
def Obligations.StepRunsTheFrontCommand : Prop :=
  ∀ (c : Instr) (rest : List Instr) (s : State), s.pending = c :: rest →
    step s = exec c (s.setPending rest)

/-- The model's choice (log 3): a step on the empty queue is 0.1 us of the engine time base. The times
left fall by it and stop at 0, the times passed rise to their limit, and nothing else changes. -/
def Obligations.IdleStepPassesOneTimeUnit : Prop :=
  ∀ s : State, s.pending = [] →
    let less (n : Option Nat) : Option Nat := n.map (fun k => k - 1)
    let lessNs (n : Option Nat) : Option Nat := n.map (fun k => k - 100)
    step s = .next
      { s with
        timeBase := s.timeBase + 1
        bpu :=
          { s.bpu with
            timA := lessNs s.bpu.timA
            timB := lessNs s.bpu.timB
            timZ := lessNs s.bpu.timZ
            stallTimer := less s.bpu.stallTimer }
        vlc :=
          { s.vlc with
            valves := s.vlc.valves.map (fun v => { v with holdoff := less v.holdoff })
            test := s.vlc.test.map (fun k => { k with left := k.left - 1 })
            answerLeft := less s.vlc.answerLeft
            refresh := min 10000 (s.vlc.refresh + 1) }
        lki :=
          { s.lki with
            silence := min 10000 (s.lki.silence + 1)
            repeatTimer := less s.lki.repeatTimer
            pauseTimer := less s.lki.pauseTimer } }

/-! ## Resets -/

/-- POWER_ON_RESET completes in every state and leaves every block as its chapter's reset table says. That
a frame being received on DI is no longer marked as begun (diOpen in Lki.powerOn) is the model's choice (log 11). -/
def Obligations.PowerOnResetSetsEveryBlock : Prop :=
  ∀ s : State, ∃ t : State, exec .powerOnReset s = .next t
    ∧ t.bpu = Bpu.reset s.bpu.inA s.bpu.inB s.bpu.inZ
    ∧ t.liu = Liu.reset ∧ t.capture = none ∧ t.oas = Oas.reset
    ∧ t.vdu.vq = [] ∧ t.vdu.evaluating = none
    ∧ t.ejs.eq = [] ∧ t.ejs.ael = List.replicate 16 none
    ∧ t.vlc = Vlc.reset ∧ t.tbs = Tbs.powerOn
    ∧ t.cmu.engine = .offline ∧ t.cmu.unit = none ∧ t.cmu.cause = none ∧ t.cmu.executing = none
    ∧ t.cmu.config = Configuration.powerOn
    ∧ t.lki = Lki.powerOn ∧ t.rpu.rq = [] ∧ (∀ c : Counter, t.counter c = 0)

/-- A good LRST frame of payload length 0 resets every block and keeps the configuration, the tables, the
banks with their generation, and the frames on their way to DO, the LRST itself among them if the forward
queue has room for it. An LRST of another payload length is heard, and nothing else comes of it. -/
def Obligations.LinkResetByPayloadLength : Prop :=
  (∀ (h : Header) (s : State), ∃ t : State, exec (.linkReset h []) s = .next t
      ∧ t.bpu = Bpu.reset s.bpu.inA s.bpu.inB s.bpu.inZ
      ∧ t.liu = Liu.reset ∧ t.capture = none ∧ t.oas = Oas.reset
      ∧ t.vdu.vq = [] ∧ t.vdu.evaluating = none
      ∧ t.ejs.eq = [] ∧ t.ejs.ael = List.replicate 16 none ∧ t.vlc = Vlc.reset
      ∧ t.tbs.bankA = s.tbs.bankA ∧ t.tbs.bankB = s.tbs.bankB ∧ t.tbs.active = s.tbs.active
      ∧ t.tbs.generation = s.tbs.generation ∧ t.tbs.vmt = s.tbs.vmt ∧ t.tbs.ccal = s.tbs.ccal
      ∧ t.tbs.scrubPointer = 0 ∧ t.tbs.scrubCount = 0 ∧ t.tbs.swap = none ∧ t.tbs.copy = none
      ∧ t.cmu.engine = .offline ∧ t.cmu.unit = none ∧ t.cmu.cause = none ∧ t.cmu.executing = none
      ∧ t.cmu.config = s.cmu.config
      ∧ t.lki.link = .up ∧ t.lki.silence = 0 ∧ t.lki.pauseDue = false ∧ t.lki.passBuffer = []
      ∧ t.lki.repeatTimer = none ∧ t.lki.pauseTimer = none ∧ t.lki.preference = .pass
      ∧ t.lki.roFrame = none
      ∧ t.lki.doFrame.toList ++ t.lki.forwardQueue
          = (s.heard { ftype := 0x04, hdr := h, payload := [] }).lki.doFrame.toList
            ++ (s.heard { ftype := 0x04, hdr := h, payload := [] }).lki.forwardQueue
      ∧ t.rpu.rq = [] ∧ (∀ c : Counter, t.counter c = 0))
  ∧ (∀ (h : Header) (payload : List Byte) (s : State), payload.length ≠ 0 →
      payload.length ≤ maxPayload →
      exec (.linkReset h payload) s
        = .next (finish (s.heard { ftype := 0x04, hdr := h, payload := payload })))

/-! ## Belt -/

/-- When a position is reached and how far ahead it lies (R1), and the lead (R16): from the configuration and
the line period in force, 0 while the period is absent and with valve_latency 0. -/
def Obligations.PositionsAndLead : Prop :=
  (∀ p travel : Position,
      (reached p travel = true ↔ (travel.toNat + (2 ^ 24 - p.toNat)) % 2 ^ 24 < 2 ^ 23)
        ∧ distanceAhead p travel = (p.toNat + (2 ^ 24 - travel.toNat)) % 2 ^ 24)
  ∧ (∀ s : State,
      (s.bpu.period = none → s.lead = 0)
        ∧ (s.cmu.config.valveLatency = 0 → s.lead = 0)
        ∧ ∀ p, s.bpu.period = some p →
            s.lead = min 65535 (s.cmu.config.valveLatency * 100 * s.cmu.config.linePitch / p))

/-- An edge that leaves the travel counter, accepted of changes that are being timed. A forward edge with
debt held pays one count back: the travel counter, the pitch counter, the index advance count and the
stall timer stand. Both channels accepted as changed, without the decoder having acted between, is an
illegal transition: encoder_glitches advances by 1, and nothing moves but the levels. The acceptance comes
while the filter time runs, whatever time is left (the model's choice, log 3). -/
def Obligations.EdgesThatKeepTravel : Prop :=
  (∀ (acc : Accepted) (s : State), s.bpu.timed acc →
      acc.pairAfter s.bpu = nextForward s.bpu.pair → 0 < s.bpu.debt →
      ∃ t : State, exec (.encoderEdgeAccepted acc) s = .next t
        ∧ t.bpu = { s.bpu.withLevels acc with debt := s.bpu.debt - 1 }
        ∧ t.liu.offset = s.liu.offset ∧ t.tbs.bankA = s.tbs.bankA ∧ t.tbs.bankB = s.tbs.bankB
        ∧ t.cmu.config = s.cmu.config ∧ t.lki.forwardQueue = s.lki.forwardQueue)
  ∧ (∀ (a b : Bool) (s : State), s.bpu.timed (.ab a b) →
      exec (.encoderEdgeAccepted (.ab a b)) s
        = .next (finish (bump .encoderGlitches
            (s.setBpu { s.bpu with fltA := a, timA := none, fltB := b, timB := none }))))

/-- A forward edge with no debt held, accepted of a change being timed (whatever time is left: the model's
choice, log 3), is an advance: travel rises by 1 modulo 2^24, the stall flag clears and the stall timer
restarts, the pitch counter rises by 1, and on reaching line_pitch a line trigger is issued with the next
line number at the new travel value. -/
def Obligations.ForwardEdgeAdvancesTravel : Prop :=
  ∀ (acc : Accepted) (s : State), s.bpu.timed acc →
    acc.pairAfter s.bpu = nextForward s.bpu.pair → s.bpu.debt = 0 →
    ∃ t : State, exec (.encoderEdgeAccepted acc) s = .next t
      ∧ t.bpu.travel = s.bpu.travel + 1
      ∧ t.bpu.debt = 0 ∧ t.bpu.stallFlag = false ∧ t.bpu.beltState = .moving
      ∧ t.bpu.stallTimer = some (s.cmu.config.stallTimeout * 10000)
      ∧ (if s.cmu.config.linePitch ≤ s.bpu.pitch + 1 then
          t.bpu.pitch = 0 ∧ t.bpu.line = s.bpu.line + 1 ∧ t.bpu.triggerPos = s.bpu.travel + 1
            ∧ t.bpu.triggerTime = some s.timeBase
            ∧ t.bpu.period
                = s.bpu.triggerTime.map (fun t₀ => max 1 (min 16777215 (s.timeBase - t₀)))
            ∧ t.bpu.ltrigPulses
                = s.bpu.ltrigPulses + (if s.cmu.config.ltrigEnable then 1 else 0)
        else
          t.bpu.pitch = s.bpu.pitch + 1 ∧ t.bpu.line = s.bpu.line
            ∧ t.bpu.triggerPos = s.bpu.triggerPos ∧ t.bpu.triggerTime = s.bpu.triggerTime
            ∧ t.bpu.period = s.bpu.period ∧ t.bpu.ltrigPulses = s.bpu.ltrigPulses)
      ∧ (if s.bpu.armed = true ∧ s.cmu.config.revCounts ≠ 0
            ∧ s.cmu.config.revCounts + s.cmu.config.revTolerance + 1
                ≤ min 16777215 (s.bpu.indexAdvances + 1) then
          t.bpu.indexAdvances = 0
            ∧ t.bpu.mismatchRun = (if 3 ≤ s.bpu.mismatchRun + 1 then 0 else s.bpu.mismatchRun + 1)
        else
          t.bpu.indexAdvances = min 16777215 (s.bpu.indexAdvances + 1)
            ∧ t.bpu.mismatchRun = s.bpu.mismatchRun)

/-- A reverse edge, accepted of a change being timed (whatever time is left: the model's choice, log 3), raises
the debt by 1 below reverse_limit, and the entry to REVERSING disarms the index check; at the limit the
debt is held. Reaching the limit in SORTING or DRAINING, with nothing left to the Command Unit before,
puts the engine in FAULT with cause BELT_REVERSE. -/
def Obligations.ReverseEdgeRaisesDebt : Prop :=
  ∀ (acc : Accepted) (s : State), s.bpu.timed acc → nextForward (acc.pairAfter s.bpu) = s.bpu.pair →
    ∃ t : State, exec (.encoderEdgeAccepted acc) s = .next t
      ∧ t.bpu =
          (if s.bpu.debt < s.cmu.config.reverseLimit then
            { s.bpu.withLevels acc with
              debt := s.bpu.debt + 1
              armed := if s.bpu.debt = 0 then false else s.bpu.armed }
          else s.bpu.withLevels acc)
      ∧ (s.atRest → s.bpu.debt + 1 = s.cmu.config.reverseLimit →
          (s.cmu.engine = .sorting ∨ s.cmu.engine = .draining) →
          t.cmu.engine = .fault ∧ t.cmu.cause = some .beltReverse)
      ∧ (s.bpu.debt + 1 ≠ s.cmu.config.reverseLimit → s.atRest → t.cmu = s.cmu)

/-- The index edge, accepted of a change being timed (whatever time is left: the model's choice, log 3). A
rising Z edge while ARMED restarts the index advance count and ends a comparison: a match sets the
mismatch run to 0, a mismatch raises it, and the third sets it back to 0. While DISARMED it arms the check
if the belt is MOVING and rev_counts is not 0, and otherwise changes nothing. The falling edge is not
used. -/
def Obligations.IndexEdgeComparesOrArms : Prop :=
  ∀ s : State,
    (s.bpu.timed (.z true) →
      ∃ t : State, exec (.encoderEdgeAccepted (.z true)) s = .next t
        ∧ t.bpu =
            (if s.bpu.armed then
              { s.bpu.withLevels (.z true) with
                indexAdvances := 0
                mismatchRun :=
                  if s.cmu.config.revCounts ≤ s.bpu.indexAdvances + s.cmu.config.revTolerance
                      ∧ s.bpu.indexAdvances ≤ s.cmu.config.revCounts + s.cmu.config.revTolerance
                  then 0
                  else if 3 ≤ s.bpu.mismatchRun + 1 then 0 else s.bpu.mismatchRun + 1 }
            else if s.bpu.beltState = .moving ∧ s.cmu.config.revCounts ≠ 0 then
              { s.bpu.withLevels (.z true) with armed := true, indexAdvances := 0, mismatchRun := 0 }
            else s.bpu.withLevels (.z true)))
      ∧ (s.bpu.timed (.z false) →
          exec (.encoderEdgeAccepted (.z false)) s
            = .next (finish (s.setBpu { s.bpu with fltZ := false, timZ := none })))

/-- The edge filter. A change first seen is timed for edge_filter x 40 ns; one that reverts to the
filtered level before that is not accepted; with edge_filter 0 a change is accepted as soon as it is
seen, and with it one channel at a time: A and B seen changed at one moment are two commands, and the decoder
acts between them (the model's choice, log 9). An acceptance that names a level no filter is timing changes
nothing of that channel (the model's reading of such a command, log 9). -/
def Obligations.InputChangesAreFiltered : Prop :=
  ∀ (level : Bool) (s : State),
    ((s.bpu.inA = level → exec (.encoderInputChange .a level) s = .next s)
      ∧ (s.bpu.inA ≠ level → s.bpu.fltA = level →
        exec (.encoderInputChange .a level) s
          = .next (s.setBpu { s.bpu with inA := level, timA := none }))
      ∧ (s.bpu.inA ≠ level → s.bpu.fltA ≠ level →
        let seen := s.setBpu
          { s.bpu with inA := level, timA := some (s.cmu.config.edgeFilter * 40) }
        exec (.encoderInputChange .a level) s
          = (if s.cmu.config.edgeFilter = 0 then exec (.encoderEdgeAccepted (.a level)) seen
            else .next seen)))
    ∧ ((s.bpu.inB = level → exec (.encoderInputChange .b level) s = .next s)
      ∧ (s.bpu.inB ≠ level → s.bpu.fltB = level →
        exec (.encoderInputChange .b level) s
          = .next (s.setBpu { s.bpu with inB := level, timB := none }))
      ∧ (s.bpu.inB ≠ level → s.bpu.fltB ≠ level →
        let seen := s.setBpu
          { s.bpu with inB := level, timB := some (s.cmu.config.edgeFilter * 40) }
        exec (.encoderInputChange .b level) s
          = (if s.cmu.config.edgeFilter = 0 then exec (.encoderEdgeAccepted (.b level)) seen
            else .next seen)))
    ∧ ((s.bpu.inZ = level → exec (.encoderInputChange .z level) s = .next s)
      ∧ (s.bpu.inZ ≠ level → s.bpu.fltZ = level →
        exec (.encoderInputChange .z level) s
          = .next (s.setBpu { s.bpu with inZ := level, timZ := none }))
      ∧ (s.bpu.inZ ≠ level → s.bpu.fltZ ≠ level →
        let seen := s.setBpu
          { s.bpu with inZ := level, timZ := some (s.cmu.config.edgeFilter * 40) }
        exec (.encoderInputChange .z level) s
          = (if s.cmu.config.edgeFilter = 0 then exec (.encoderEdgeAccepted (.z level)) seen
            else .next seen)))
    ∧ ((¬ s.bpu.timed (.a level) →
        exec (.encoderEdgeAccepted (.a level)) s = .next (finish s)
          ∧ ∀ other, exec (.encoderEdgeAccepted (.ab level other)) s
              = exec (.encoderEdgeAccepted (.b other)) s)
      ∧ (¬ s.bpu.timed (.b level) →
        exec (.encoderEdgeAccepted (.b level)) s = .next (finish s)
          ∧ ∀ other, exec (.encoderEdgeAccepted (.ab other level)) s
              = exec (.encoderEdgeAccepted (.a other)) s)
      ∧ (¬ s.bpu.timed (.z level) →
        exec (.encoderEdgeAccepted (.z level)) s = .next (finish s)))

/-- The stall timer's expiry, taken while the timer runs, whatever time is left (the model's choice, log 3),
sets the stall flag; a MOVING belt becomes STOPPED, and every valve that no test holds is off after it. -/
def Obligations.StallExpiryStopsTheBelt : Prop :=
  ∀ (n : Nat) (s : State), s.bpu.stallTimer = some n →
    ∃ t : State, exec .stallTimerExpiry s = .next t
      ∧ t.bpu = { s.bpu with stallFlag := true, stallTimer := none }
      ∧ (s.bpu.beltState = .moving → t.bpu.beltState = .stopped
          ∧ ∀ i < 64, s.vlc.tests i = false → (t.valve i).state ≠ .on)
      ∧ (∀ i < 64, s.atRest → (t.valve i).refCount = (s.valve i).refCount)

/-- MISSING_INDEX: once the count has reached rev_counts + rev_tolerance + 1 while ARMED, the count
restarts at 0 and the mismatch run rises, the third mismatch setting it back to 0 and, in SORTING or
DRAINING, putting the engine in FAULT with cause ENCODER_FAULT. Before that the command changes nothing
(log 1). -/
def Obligations.MissingIndexIsAMismatch : Prop :=
  ∀ s : State, s.atRest →
    (s.bpu.armed = true → s.cmu.config.revCounts ≠ 0 →
      s.cmu.config.revCounts + s.cmu.config.revTolerance + 1 ≤ s.bpu.indexAdvances →
      ∃ t : State, exec .missingIndex s = .next t
        ∧ t.bpu =
            { s.bpu with
              indexAdvances := 0
              mismatchRun := if 3 ≤ s.bpu.mismatchRun + 1 then 0 else s.bpu.mismatchRun + 1 }
        ∧ (3 ≤ s.bpu.mismatchRun + 1 → (s.cmu.engine = .sorting ∨ s.cmu.engine = .draining) →
            t.cmu.engine = .fault ∧ t.cmu.cause = some .encoderFault)
        ∧ (s.bpu.mismatchRun + 1 < 3 → t.cmu = s.cmu))
    ∧ (s.bpu.armed = false ∨ s.cmu.config.revCounts = 0
        ∨ s.bpu.indexAdvances < s.cmu.config.revCounts + s.cmu.config.revTolerance + 1 →
        exec .missingIndex s = .next s)

/-- LINE_TRIGGER: once the pitch counter has reached line_pitch, it returns to 0 and a trigger is issued:
the line number rises by 1, the trigger position takes travel, the period is captured and line_triggers
advances. Before that the command changes nothing (log 1). -/
def Obligations.LineTriggerAtLinePitch : Prop :=
  ∀ s : State,
    (s.cmu.config.linePitch ≤ s.bpu.pitch →
      ∃ t : State, exec .lineTrigger s = .next t
        ∧ t.bpu =
            { s.bpu with
              pitch := 0
              line := s.bpu.line + 1
              triggerPos := s.bpu.travel
              triggerTime := some s.timeBase
              period := s.bpu.triggerTime.map (fun t₀ => max 1 (min 16777215 (s.timeBase - t₀)))
              ltrigPulses := s.bpu.ltrigPulses + (if s.cmu.config.ltrigEnable then 1 else 0) }
        ∧ (s.rpu.counters.length = 54 →
            t.counter .lineTriggers = s.counter .lineTriggers + 1))
    ∧ (s.bpu.pitch < s.cmu.config.linePitch → s.atRest → exec .lineTrigger s = .next s)

/-! ## The Scan Link -/

/-- A good DI frame of a type with no local action is forwarded, and nothing else comes of it. Every good
DI frame restarts the silence timer and finds the link UP; with a frame in transmission on DO the frame
to be forwarded joins the forward queue, or is dropped and counted if two wait there; with DO at a
boundary and nothing before it, it is sent at once. At a boundary a due PAUSE goes first, and while the
link is DOWN it stays due. -/
def Obligations.FramesAreForwarded : Prop :=
  (∀ (f : Frame) (s : State), f.payload.length ≤ maxPayload →
    f.ftype ∉ [0x01, 0x02, 0x03, 0x04, 0x05] →
    exec (.forwardedFrame f) s = .next (finish (s.heard f)))
  ∧ (∀ (f : Frame) (s : State),
      s.sameButLink (s.heard f) ∧ (s.heard f).rpu.rq = s.rpu.rq
        ∧ (s.heard f).lki.link = .up ∧ (s.heard f).lki.silence = 0 ∧ (s.heard f).lki.diOpen = false
        ∧ ∀ g, forwardOf f = some g →
            (s.lki.doFrame.isSome → s.lki.forwardQueue.length < 2 →
              (s.heard f).lki.forwardQueue = s.lki.forwardQueue ++ [g]
                ∧ (s.heard f).lki.doFrame = s.lki.doFrame
                ∧ (s.heard f).rpu.counters = s.rpu.counters)
            ∧ (s.lki.doFrame.isSome → 2 ≤ s.lki.forwardQueue.length →
                (s.heard f).lki.forwardQueue = s.lki.forwardQueue
                  ∧ (s.heard f).lki.doFrame = s.lki.doFrame
                  ∧ (s.heard f).rpu.counters = (bump .forwardDrops s).rpu.counters)
            ∧ (s.lki.doFrame = none → s.lki.forwardQueue = [] → s.lki.pauseDue = false →
                (s.heard f).lki.forwardQueue = [] ∧ (s.heard f).lki.doFrame = some g))
  ∧ (∀ f : Frame,
      forwardOf f =
        (if f.ftype = 0x05 ∧ f.payload.length = 0 then none
        else if f.ftype = 0x03 ∧ f.payload.length = 1 then
          some { f with payload := [BitVec.ofNat 8 (min 255 ((f.payload.getD 0 0).toNat + 1))] }
        else some f))
  ∧ (∀ s : State,
      (s.lki.pauseDue = true → s.lki.link = .up →
        exec .doFrameBoundary s
          = .next (bump .pausesSent
              (s.setLki { s.lki with doFrame := some pauseFrame, pauseDue := false })))
      ∧ (∀ f rest, s.lki.pauseDue = false ∨ s.lki.link = .down → s.lki.forwardQueue = f :: rest →
        exec .doFrameBoundary s
          = .next (s.setLki { s.lki with doFrame := some f, forwardQueue := rest }))
      ∧ (s.lki.pauseDue = false ∨ s.lki.link = .down → s.lki.forwardQueue = [] →
        exec .doFrameBoundary s = .next (s.setLki { s.lki with doFrame := none })))

/-- A frame that is not good has no effect but its count, and on DI the restart of the silence timer and the
end of the frame (the mark diOpen, log 11). Bytes that make a good frame and are not cut off are received
as that frame (the model's choice, log 22). -/
def Obligations.FramesThatAreNotGoodAreDropped : Prop :=
  ∀ (bytes : List Byte) (cut : Bool) (s : State),
    (cut = true ∨ receiveBytes bytes = none →
      exec (.frameNotGood .di bytes cut) s
          = .next (bump .crcErrors (s.setLki { s.lki with silence := 0, diOpen := false }))
        ∧ exec (.frameNotGood .ri bytes cut) s = .next (bump .crcErrors s))
    ∧ (∀ f, receiveBytes bytes = some f →
        exec (.frameNotGood .di bytes false) s = exec (.forwardedFrame f) s
          ∧ exec (.frameNotGood .ri bytes false) s = exec (.passBufferEntry f) s)

/-- The table of R183: what a good ENUM does by its hop count and the engine state. -/
def Obligations.EnumNumbersTheEngine : Prop :=
  ∀ (hd : Header) (hop : Byte) (s : State),
    let f : Frame := { ftype := 0x03, hdr := hd, payload := [hop] }
    let u := s.heard f
    (s.cmu.unit = none → hop.toNat ≤ 7 →
      ∃ t : State, exec (.enum hd [hop]) s = .next t
        ∧ t.cmu.unit = some hop.toNat ∧ t.cmu.engine = .standby
        ∧ t.liu.sync = .hunt1 ∧ t.liu.offset = 0
        ∧ t.bpu = s.bpu ∧ t.oas = s.oas ∧ t.vdu = s.vdu ∧ t.ejs = s.ejs ∧ t.vlc = s.vlc
        ∧ t.tbs = s.tbs)
    ∧ (s.cmu.unit = some hop.toNat → hop.toNat ≤ 7 →
        exec (.enum hd [hop]) s = .next (finish u))
    ∧ (∀ old, s.cmu.unit = some old → hop.toNat ≤ 7 → hop.toNat ≠ old →
        exec (.enum hd [hop]) s
          = .next (finish (raiseCause .chainChanged
              (notice (.chainChanged old hop.toNat)
                (u.setCmu { s.cmu with unit := some hop.toNat }))))
        ∧ (s.atRest → ∃ t : State, exec (.enum hd [hop]) s = .next t
            ∧ t.cmu.unit = some hop.toNat
            ∧ (s.cmu.engine = .sorting ∨ s.cmu.engine = .draining →
                t.cmu.engine = .fault ∧ t.cmu.cause = some .chainChanged)
            ∧ (s.cmu.engine = .standby ∨ s.cmu.engine = .fault →
                t.cmu = { s.cmu with unit := some hop.toNat })))
    ∧ (s.cmu.unit = none → 8 ≤ hop.toNat → exec (.enum hd [hop]) s = .next (finish u))
    ∧ (∀ n, s.cmu.unit = some n → 8 ≤ hop.toNat →
        exec (.enum hd [hop]) s = .next (finish (notice (.enumOverflow hop.toNat) u)))
    ∧ (∀ payload : List Byte, payload.length ≠ 1 → payload.length ≤ maxPayload →
        exec (.enum hd payload) s
          = .next (finish (s.heard { ftype := 0x03, hdr := hd, payload := payload })))

/-- A good PAUSE sets the pause timer to 50 us and is counted; while the timer runs RO starts no frame; at its
expiry, taken while the timer runs, whatever time is left, the timer becomes absent and the arbiter acts;
with no timer the expiry changes nothing (the model's choice, log 3). -/
def Obligations.PauseHoldsReturnOut : Prop :=
  (∀ (hd : Header) (s : State),
    let u := s.heard { ftype := 0x05, hdr := hd, payload := [] }
    exec (.pause hd []) s
        = .next (finish (bump .pausesReceived (u.setLki { u.lki with pauseTimer := some 500 })))
      ∧ u.lki.forwardQueue = (arrive s).lki.forwardQueue ∧ u.lki.doFrame = (arrive s).lki.doFrame)
  ∧ (∀ (hd : Header) (payload : List Byte) (s : State), payload.length ≠ 0 →
      payload.length ≤ maxPayload →
      exec (.pause hd payload) s
        = .next (finish (s.heard { ftype := 0x05, hdr := hd, payload := payload })))
  ∧ (∀ s : State, s.lki.pauseTimer.isSome → roKick s = s)
  ∧ (∀ s : State,
      (s.lki.pauseTimer.isSome →
        exec .pauseTimerExpiry s = .next (roKick (s.setLki { s.lki with pauseTimer := none })))
      ∧ (s.lki.pauseTimer = none → exec .pauseTimerExpiry s = .next s))

/-- The return lane. A good RI frame joins the Pass Buffer if it holds fewer than 4, else it is dropped and
counted; a level that rises from 2 to 3 sets PAUSE due and starts the repeat timer at 40 us, and each
expiry with 3 or more waiting does so again, while one with fewer makes the timer absent. The expiry is
taken while the timer runs, whatever time is left, and changes nothing without it (the model's choice,
log 3). At a frame boundary with no pause running RO sends the head of the only source that holds a frame,
or of the one its preference names, which then names the other. -/
def Obligations.ReturnLaneAlternates : Prop :=
  (∀ (f : Frame) (s : State), f.payload.length ≤ maxPayload →
    (4 ≤ s.lki.passBuffer.length →
      exec (.passBufferEntry f) s = .next (bump .returnOverflow s))
    ∧ (s.lki.passBuffer.length < 4 → s.lki.passBuffer.length ≠ 2 →
        exec (.passBufferEntry f) s
          = .next (roKick (s.setLki { s.lki with passBuffer := s.lki.passBuffer ++ [f] })))
    ∧ (s.lki.passBuffer.length = 2 →
        exec (.passBufferEntry f) s
          = .next (roKick (doKick
              (s.setLki
                { s.lki with
                  passBuffer := s.lki.passBuffer ++ [f]
                  pauseDue := true
                  repeatTimer := some 400 })))))
  ∧ (∀ s : State,
      (s.lki.repeatTimer.isSome → 3 ≤ s.lki.passBuffer.length →
        exec .pauseRepeatExpiry s
          = .next (doKick (s.setLki { s.lki with pauseDue := true, repeatTimer := some 400 })))
      ∧ (s.lki.repeatTimer.isSome → s.lki.passBuffer.length < 3 →
          exec .pauseRepeatExpiry s = .next (s.setLki { s.lki with repeatTimer := none }))
      ∧ (s.lki.repeatTimer = none → exec .pauseRepeatExpiry s = .next s))
  ∧ (∀ s : State, s.lki.pauseTimer = none →
      (s.lki.passBuffer = [] → s.rpu.rq = [] →
        exec .roTransmissionEnd s = .next (s.setLki { s.lki with roFrame := none }))
      ∧ (∀ f rest, s.lki.passBuffer = f :: rest → s.rpu.rq = [] ∨ s.lki.preference = .pass →
          exec .roTransmissionEnd s
            = .next (s.setLki
                { s.lki with roFrame := some f, passBuffer := rest, preference := .report }))
      ∧ (∀ r rest, s.rpu.rq = r :: rest → s.lki.passBuffer = [] ∨ s.lki.preference = .report →
          exec .roTransmissionEnd s
            = .next ((s.setLki
                { s.lki with roFrame := some r.frame, preference := .pass }).setRpu
                { s.rpu with rq := rest })))
  ∧ (∀ s : State, s.lki.pauseTimer.isSome →
      exec .roTransmissionEnd s = .next (s.setLki { s.lki with roFrame := none }))

/-- Silence. The silence timer's expiry, whatever time it shows (the model's choice, log 3), takes an UP link
DOWN: link_downs advances, the notice is posted, and in SORTING or DRAINING the engine enters FAULT with
cause LINK_DOWN; a frame being received (the mark diOpen, log 11) is dropped and counted, on a DOWN link
too. A symbol on DI restarts the silence timer and does not bring the link UP; a start symbol drops the
frame it cuts off. -/
def Obligations.SilenceTakesTheLinkDown : Prop :=
  (∀ s : State,
    (s.lki.link = .up → s.lki.diOpen = false →
      exec .silenceTimerExpiry s
        = .next (finish (raiseCause .linkDown
            (notice (.linkDown s.cmu.engine)
              (bump .linkDowns (s.setLki { s.lki with silence := 10000, link := .down }))))))
    ∧ (s.lki.link = .up → s.lki.diOpen = true →
        exec .silenceTimerExpiry s
          = .next (finish (raiseCause .linkDown
              (notice (.linkDown s.cmu.engine)
                (bump .linkDowns (bump .crcErrors
                  (s.setLki
                    { s.lki with silence := 10000, link := .down, diOpen := false })))))))
    ∧ (s.lki.link = .down → s.lki.diOpen = false →
        exec .silenceTimerExpiry s = .next (finish (s.setLki { s.lki with silence := 10000 })))
    ∧ (s.lki.link = .down → s.lki.diOpen = true →
        exec .silenceTimerExpiry s
          = .next (finish (bump .crcErrors
              (s.setLki { s.lki with silence := 10000, diOpen := false }))))
    ∧ (s.lki.link = .up → s.atRest →
        ∃ t : State, exec .silenceTimerExpiry s = .next t
          ∧ (s.cmu.engine = .sorting ∨ s.cmu.engine = .draining →
              t.cmu.engine = .fault ∧ t.cmu.cause = some .linkDown)
          ∧ (s.cmu.engine ≠ .sorting → s.cmu.engine ≠ .draining → t.cmu = s.cmu)))
  ∧ (∀ (sym : Symbols) (s : State),
      ∃ t : State, exec (.diSymbolReceived sym) s = .next t
        ∧ s.sameButLink t ∧ t.rpu.rq = s.rpu.rq
        ∧ t.lki =
            { s.lki with
              silence := 0
              diOpen := match sym with
                | .frameBegins => true
                | _ => s.lki.diOpen }
        ∧ (t.rpu.counters =
            if sym = .frameBegins ∧ s.lki.diOpen = true then (bump .crcErrors s).rpu.counters
            else s.rpu.counters))

/-! ## The Report Queue -/

/-- What joins the Report Queue: the places in use; the admission of a response in every case, of a notice and
of an object report; the response of a command at its end, with the tag it was accepted with; and the
answer of a command. -/
def Obligations.ReportQueueAdmission : Prop :=
  ((∀ r : Rpu,
      r.generalUsed = (r.responses - 2) + (r.notices - 4) + r.objectReports
        ∧ r.rq.length = min r.responses 2 + min r.notices 4 + r.generalUsed)
    ∧ (∀ (x : Response) (s : State),
        (s.rpu.responses < 2 ∨ s.rpu.generalUsed < 26 →
          admitResponse x s = joinRq (.response x) s)
        ∧ (2 ≤ s.rpu.responses → 26 ≤ s.rpu.generalUsed →
            ∀ before after d,
              s.rpu.rq = before ++ d :: after → d.isObjectReport = true →
              (∀ y ∈ after, y.isObjectReport = false) →
              admitResponse x s
                = joinRq (.response x)
                    (bump .reportsDropped (s.setRpu { s.rpu with rq := before ++ after })))
        ∧ (2 ≤ s.rpu.responses → 26 ≤ s.rpu.generalUsed → s.rpu.objectReports = 0 →
            4 < s.rpu.notices →
            ∀ before after d,
              s.rpu.rq = before ++ d :: after → d.isNotice = true →
              (∀ y ∈ after, y.isNotice = false) →
              admitResponse x s
                = joinRq (.response x)
                    (bump .noticesDropped (s.setRpu { s.rpu with rq := before ++ after }))))
    ∧ (∀ (n : Notice) (s : State),
        (s.cmu.unit = none → notice n s = s)
        ∧ (∀ u, s.cmu.unit = some u → s.rpu.notices < 4 ∨ s.rpu.generalUsed < 26 →
            notice n s = joinRq (.notice u n) s)
        ∧ (∀ u, s.cmu.unit = some u → 4 ≤ s.rpu.notices → 26 ≤ s.rpu.generalUsed →
            notice n s = bump .noticesDropped s))
    ∧ (∀ (r : ObjectReport) (u : Nat) (s : State), s.cmu.unit = some u →
        (s.rpu.generalUsed < 26 → postReport r s = joinRq (.objectReport u r) s)
        ∧ (26 ≤ s.rpu.generalUsed → postReport r s = bump .reportsDropped s))
    ∧ (∀ (x : Report) (s : State), s.lki.roFrame.isSome →
        joinRq x s = s.setRpu { s.rpu with rq := s.rpu.rq ++ [x] }))
  ∧ ((∀ (status : Status) (detail : Nat) (data : List Byte) (e : Executing) (s : State),
      s.cmu.executing = some e →
      endCommand status detail data s
        = admitResponse
            { unit := s.cmu.unit.getD 0
              tag := e.tag
              code := BitVec.ofNat 8 e.command.code
              status := status
              detail := BitVec.ofNat 32 detail
              data := data }
            (s.setCmu { s.cmu with executing := none }))
    ∧ (∀ (c : Command) (tag : Word16) (status : Status) (detail : Nat) (data : List Byte) (s : State),
        answer c tag status detail data s
          = admitResponse
              { unit := s.cmu.unit.getD 0
                tag := tag
                code := BitVec.ofNat 8 c.code
                status := status
                detail := BitVec.ofNat 32 detail
                data := data } s))

/-! ## Commands -/

/-- The tests of a received command, in their order: length, engine state, BUSY, parameters. The first
that fails refuses it with its status and detail, and a refused command changes nothing but the link and
the reports. An unknown code, an empty payload, and a command that meets the closed gate or does not pass
the destination filter are dealt with as R164, R199, R194 and R182 say. -/
def Obligations.CommandsAreTestedInOrder : Prop :=
  (∀ (c : Command) (h : Header) (p : List Byte) (s : State), s.receives h →
    p.length + 1 ≤ maxPayload →
    let refusedWith (status : Status) (detail : Nat) : Prop :=
      exec (c.row h p) s = .next (finish (answer c h.tag status detail [] (s.heardCommand c h p)))
        ∧ (s.atRest → s.sameButLink (finish (answer c h.tag status detail [] (s.heardCommand c h p))))
    (c.lengthOk (p.length + 1) = false → refusedWith .badLength (p.length + 1))
    ∧ (c.lengthOk (p.length + 1) = true → c.takenIn s.cmu.engine = false →
        refusedWith .badState s.cmu.engine.code)
    ∧ (∀ e, c.lengthOk (p.length + 1) = true → c.takenIn s.cmu.engine = true →
        c.sequenced = true → s.cmu.executing = some e → refusedWith .busy e.command.code)
    ∧ (∀ n, c.lengthOk (p.length + 1) = true → c.takenIn s.cmu.engine = true →
        (c.sequenced = true → s.cmu.executing = none) → firstFailing (c.paramTests p) = some n →
        refusedWith .badParam n))
  ∧ (∀ (h : Header) (s : State), s.receives h →
      exec (.badOpcode h []) s
          = .next (finish (respond 0 h.tag .badLength 0 [] (s.heard (cmdFrame h []))))
      ∧ ∀ (code : Byte) (p : List Byte), p.length + 1 ≤ maxPayload →
          Command.ofCode code.toNat = none →
          exec (.badOpcode h (code :: p)) s
            = .next (finish
                (respond code h.tag .badOpcode code.toNat [] (s.heard (cmdFrame h (code :: p))))))
  ∧ (∀ (h : Header) (payload : List Byte) (s : State), payload.length ≤ maxPayload →
      (passesFilter h s = true → 26 ≤ s.rpu.responses →
        exec (.commandsDropped h payload) s
          = .next (finish (bump .commandsDropped (s.heard (cmdFrame h payload)))))
      ∧ (passesFilter h s = false →
          exec (.commandsDropped h payload) s = .next (finish (s.heard (cmdFrame h payload)))))
  ∧ (∀ (h : Header) (s : State),
      passesFilter h s = true ↔
        ∃ u, s.cmu.unit = some u
          ∧ ((h.destKind = 0x01 ∧ h.destValue.toNat = u)
            ∨ (h.destKind = 0x02 ∧ h.destValue.getLsbD s.cmu.config.group = true)
            ∨ h.destKind = 0x03))

/-- The reading commands answer OK with what they read, and change nothing but the link and the reports;
READ_COUNTERS with clear YES sets every counter to 0, and objects_opened to the objects in flight, before
its response is admitted. The bytes of READ_STATUS are the rows of R167 in their order, each value as R201
carries it; a time left that is no whole number of its unit is a free value (log 6). -/
def Obligations.ReadingCommandsAnswer : Prop :=
  ∀ (h : Header) (p : List Byte) (s : State),
    (s.accepts .nop h p →
      exec (.nop h p) s
        = .next (finish (answer .nop h.tag .ok s.cmu.engine.code [] (s.heardCommand .nop h p))))
    ∧ (s.accepts .readStatus h p →
        exec (.readStatus h p) s
          = .next (finish
              (answer .readStatus h.tag .ok 0 (statusBytes (s.heardCommand .readStatus h p))
                (s.heardCommand .readStatus h p))))
    ∧ (s.accepts .readConfig h p →
        exec (.readConfig h p) s
          = .next (finish
              (answer .readConfig h.tag .ok 0 (s.cmu.config.bytes ++ le 1 (s.cmu.unit.getD 0))
                (s.heardCommand .readConfig h p))))
    ∧ (s.accepts .blockRead h p →
        let b := bankOf (u8 p 0)
        let x := (s.tbs.bank b).block (u8 p 1)
        exec (.blockRead h p) s
          = .next (finish
              (answer .blockRead h.tag .ok 0
                (x.codes.map (fun k => BitVec.ofNat 8 k.val) ++ le 2 x.check.toNat
                  ++ le 1 x.state.code ++ bit (decide (b = s.tbs.active)))
                (s.heardCommand .blockRead h p))))
    ∧ (s.accepts .readCounters h p →
        let u := s.heardCommand .readCounters h p
        ∃ v : State,
          exec (.readCounters h p) s
              = .next (finish
                  (answer .readCounters h.tag .ok 0
                    (u.rpu.counters.map (fun c => le 4 c.toNat)).flatten v))
            ∧ v.rpu.rq = u.rpu.rq
            ∧ (u8 p 0 = 0 → v = u)
            ∧ (u8 p 0 = 1 → v = u.setRpu v.rpu ∧ v.rpu.counters.length = 54
                ∧ ∀ c : Counter,
                    v.counter c = if c = .objectsOpened then BitVec.ofNat 32 s.inFlight else 0))
    ∧ (let row (states : List SlotState) : List Byte :=
        (states.map (fun x => le 1 (s.liu.busy.countP (fun y => decide (y.state = x))))).flatten
      let blocks (p : ProductBank) (x : BlockState) : List Byte :=
        le 1 (p.cct.countP (fun y => decide (y.state = x)))
      let locked := s.liu.sync = .locked
      statusBytes s =
        (le 1 s.cmu.engine.code ++ le 1 ((s.cmu.cause.map FaultCause.code).getD 0)
            ++ optional (le 1) s.cmu.unit ++ le 1 s.cmu.config.group
            ++ optional (fun e => le 1 e.command.code ++ le 2 e.tag.toNat) s.cmu.executing)
          ++ (le 1 s.bpu.beltState.code ++ le 3 s.bpu.travel.toNat ++ le 2 s.bpu.debt
            ++ le 2 s.bpu.line.toNat ++ optional (le 3) s.bpu.period ++ le 2 s.lead
            ++ bit s.bpu.armed)
          ++ (le 1 s.liu.sync.code ++ le 2 s.liu.offset.toNat ++ le 1 s.liu.consecutiveLoss
            ++ le 1 (if locked then 0 else s.liu.completeRun)
            ++ le 1 (if locked then 0 else s.liu.huntCount) ++ le 2 s.liu.pendingLost
            ++ le 1 (8 - s.liu.busy.length)
            ++ row [.filling, .complete, .partialLine, .lost, .assembling])
          ++ optional (fun k => le 1 k.captured ++ le 1 k.skipped) s.capture
          ++ (le 1 s.oas.openCount ++ le 1 s.oas.closingCount ++ le 1 s.oas.closingOrder.length
            ++ le 1 s.oas.plr.length ++ le 1 s.oas.lostRun ++ le 2 s.oas.numberCounter.toNat
            ++ optional (fun l => le 2 l.line.toNat) s.oas.lineInAssembly)
          ++ (le 1 s.vdu.vq.length ++ bit s.vdu.evaluating.isSome
            ++ optional (fun o => le 2 o.number.toNat) s.vdu.evaluating)
          ++ (le 1 s.ejs.eq.length
            ++ le 1 (s.ejs.eq.countP (fun r => decide (r.openDistance s.bpu.travel = 0)))
            ++ le 1 (s.ejs.ael.countP (fun x => x.isSome))
            ++ optional (fun r => r.bytes ++ le 3 (r.openDistance s.bpu.travel)) s.ejs.eq.head?
            ++ (s.ejs.ael.map (optional EjectionRecord.bytes)).flatten
            ++ (s.vlc.valves.map (fun v => le 1 v.refCount)).flatten)
          ++ ((s.vlc.valves.map
                (fun v => le 1 v.state.code ++ le 1 v.refCount ++ le 2 v.thermal)).flatten
            ++ optional (fun k => le 1 k.valve ++ le 1 (timeLeft 10000 k.left)) s.vlc.test
            ++ le 1 s.vlc.link.code ++ le 1 s.vlc.missCount)
          ++ (le 1 s.tbs.active.code ++ [s.tbs.generation]
            ++ (blocks s.tbs.bankA .unwritten ++ blocks s.tbs.bankA .valid
              ++ blocks s.tbs.bankA .bad)
            ++ (blocks s.tbs.bankB .unwritten ++ blocks s.tbs.bankB .valid
              ++ blocks s.tbs.bankB .bad)
            ++ optional (fun k => le 1 k.deadline ++ le 1 k.counted) s.tbs.swap
            ++ optional (fun k => le 1 k.next) s.tbs.copy
            ++ le 1 s.tbs.scrubPointer ++ le 1 s.tbs.scrubCount)
          ++ (le 1 s.lki.link.code ++ le 1 s.lki.forwardQueue.length
            ++ le 1 s.lki.passBuffer.length
            ++ optional (fun k => le 1 (timeLeft 10 k)) s.lki.pauseTimer
            ++ le 1 s.lki.preference.code))

/-- ABORT. With nothing executing it answers NOTHING_TO_ABORT; else the executing command ends, its
response ABORTED with its own tag comes first, and ABORT's OK carries its code. An ABORT of a drain empties
what the drain was still working off: what was closed and not judged is abandoned and counted, every
ejection record is dropped, and the engine is STANDBY. Standing fault causes are dropped with it (the
model's choice, log 2), and standing ejection requests are taken before the flush (the model's choice,
log 12). -/
def Obligations.AbortEndsTheExecutingCommand : Prop :=
  ∀ (h : Header) (p : List Byte) (s : State), s.accepts .abort h p →
    let u := s.heardCommand .abort h p
    (s.cmu.executing = none →
      exec (.abort h p) s = .next (finish (answer .abort h.tag .nothingToAbort 0 [] u)))
    ∧ (∀ e, s.cmu.executing = some e →
        let after (detail : Nat) (t : State) : State :=
          answer .abort h.tag .ok e.command.code []
            (answer e.command e.tag .aborted detail [] (t.setCmu { t.cmu with executing := none }))
        (e.command = .calibrate →
          exec (.abort h p) s = .next (finish (after 0 (u.setCapture none))))
        ∧ (∀ k, e.command = .bankCopy → s.tbs.copy = some k →
            exec (.abort h p) s
              = .next (finish (after k.next (u.setTbs { s.tbs with copy := none }))))
        ∧ (e.command = .bankSwap →
            exec (.abort h p) s = .next (finish (after 0 (u.setTbs { s.tbs with swap := none }))))
        ∧ (∀ k, e.command = .valveTest → s.vlc.test = some k →
            exec (.abort h p) s
              = .next (finish (after 0 (onTest k.valve (u.setVlc { s.vlc with test := none })))))
        ∧ (e.command = .stop →
            ∃ t v : State,
              exec (.abort h p) s = .next t
                ∧ t = answer .abort h.tag .ok Command.stop.code []
                    (answer .stop e.tag .aborted 0 [] v)
                ∧ v.cmu = { s.cmu with engine := .standby, executing := none, causes := [] }
                ∧ v.oas.closingCount = 0 ∧ v.oas.closingOrder = [] ∧ v.oas.openCount = s.oas.openCount
                ∧ v.vdu.vq = [] ∧ v.vdu.evaluating = none
                ∧ (s.rpu.counters.length = 54 →
                    v.counter .objectsAbandoned
                      = u.counter .objectsAbandoned
                        + BitVec.ofNat 32 (s.oas.closingCount + s.vdu.held))
                ∧ v.ejs.eq = [] ∧ v.ejs.ael = List.replicate 16 none
                ∧ v.ejs.vduRequests = [] ∧ v.ejs.oasRequests = []
                ∧ (∀ i < 64, (v.valve i).refCount = 0)
                ∧ v.bpu = s.bpu ∧ v.tbs = s.tbs))

/-- RESYNC enters HUNT1 with the offset kept; a capture under way in LOCKED ends with it. Its OK carries the
sync state before it, and joins the Report Queue after the SYNC_HUNT notice (the model's choice, log 8). -/
def Obligations.ResyncEntersHunt1 : Prop :=
  ∀ (h : Header) (p : List Byte) (s : State), s.accepts .resync h p →
    ∃ t v : State, exec (.resync h p) s = .next t
      ∧ t = answer .resync h.tag .ok s.liu.sync.code [] v
      ∧ t.liu =
          { s.liu with
            sync := .hunt1
            consecutiveLoss := 0
            completeRun := 0
            huntCount := 0
            realignPending := false
            busy := s.liu.busy.map
              (fun x => if x.state = .assembling then x else { x with nosync := true }) }
      ∧ t.capture = (if s.liu.sync = .locked then none else s.capture)
      ∧ t.cmu.executing =
          (if s.liu.sync = .locked ∧ s.capture.isSome then none else s.cmu.executing)
      ∧ t.cmu.engine = .standby ∧ t.cmu.config = s.cmu.config
      ∧ t.bpu = s.bpu ∧ t.oas = s.oas ∧ t.vdu = s.vdu ∧ t.ejs = s.ejs ∧ t.vlc = s.vlc
      ∧ t.tbs = s.tbs

/-- An accepted CONFIGURE replaces the whole record, and each block takes it as its chapter says: the belt
unit's index check, pitch and debt, the ring if the observed window changes, and the scrub count if the
scrub interval changes. The response OK joins after the notice the same CONFIGURE posts (the model's
choice, log 8). -/
def Obligations.ConfigureReplacesTheRecord : Prop :=
  ∀ (h : Header) (p : List Byte) (s : State), s.accepts .configure h p →
    let new := Configuration.ofBytes p
    ∃ t v : State, exec (.configure h p) s = .next t
      ∧ t = answer .configure h.tag .ok 0 [] v
      ∧ t.cmu = { s.cmu with config := new }
      ∧ t.bpu =
          { s.bpu with
            armed := false
            mismatchRun := 0
            debt := min s.bpu.debt new.reverseLimit
            pitch := if s.cmu.config.linePitch = new.linePitch then s.bpu.pitch else 0
            triggerTime := if s.cmu.config.linePitch = new.linePitch then s.bpu.triggerTime else none
            period := if s.cmu.config.linePitch = new.linePitch then s.bpu.period else none }
      ∧ t.liu =
          (if s.cmu.config.window = new.window then s.liu
          else { s.liu with busy := [], freeOrder := [0, 1, 2, 3, 4, 5, 6, 7], pendingLost := 0 })
      ∧ t.tbs =
          { s.tbs with
            scrubCount :=
              if s.cmu.config.scrubInterval = new.scrubInterval then s.tbs.scrubCount else 0 }
      ∧ t.capture = s.capture ∧ t.ejs = s.ejs ∧ t.vlc = s.vlc
      ∧ (s.cmu.config.window = new.window → t.oas = s.oas ∧ t.vdu = s.vdu)
      ∧ (s.rpu.counters.length = 54 →
          v.counter .reverseLimitHits
            = (s.heardCommand .configure h p).counter .reverseLimitHits
              + (if new.reverseLimit < s.bpu.debt then 1 else 0))

/-! ## Tables -/

/-- CCT_WRITE and BLOCK_MARK. A write whose check word agrees replaces the standby block and makes it
VALID; one whose check word differs changes nothing and answers the computed word. A mark on an UNWRITTEN
block is refused with BAD_STATE, whose detail is 0 (the model's reading, log 19); BAD makes the block BAD;
RECHECK compares the stored codes with the stored check word. -/
def Obligations.BlocksAreWrittenAndMarked : Prop :=
  (∀ (h : Header) (p : List Byte) (s : State), s.accepts .cctWrite h p →
    let u := s.heardCommand .cctWrite h p
    let codes := ((p.drop 1).take 256).map (fun x => (Fin.ofNat 16 x.toNat : ClassCode))
    ((blockCheck codes).toNat = u16 p 257 →
      exec (.cctWrite h p) s
        = .next (finish
            (answer .cctWrite h.tag .ok (s.tbs.standbyBank.block (u8 p 0)).state.code []
              (u.setBlock (otherBank s.tbs.active) (u8 p 0)
                { codes := codes, check := blockCheck codes, state := .valid }))))
    ∧ ((blockCheck codes).toNat ≠ u16 p 257 →
        exec (.cctWrite h p) s
          = .next (finish (answer .cctWrite h.tag .badCheck (blockCheck codes).toNat [] u))))
  ∧ (∀ (h : Header) (p : List Byte) (s : State), s.accepts .blockMark h p →
      let u := s.heardCommand .blockMark h p
      let b := bankOf (u8 p 0)
      let n := u8 p 1
      let x := (s.tbs.bank b).block n
      (x.state = .unwritten →
        exec (.blockMarkBad h p) s = .next (finish (answer .blockMark h.tag .badState 0 [] u))
        ∧ exec (.blockMarkRecheck h p) s
            = .next (finish (answer .blockMark h.tag .badState 0 [] u)))
      ∧ (x.state ≠ .unwritten → u8 p 2 = 0 →
          exec (.blockMarkBad h p) s
            = .next (finish
                (answer .blockMark h.tag .ok x.state.code []
                  (u.setBlock b n { x with state := .bad }))))
      ∧ (x.state ≠ .unwritten → u8 p 2 = 1 → blockCheck x.codes = x.check →
          exec (.blockMarkRecheck h p) s
            = .next (finish
                (answer .blockMark h.tag .ok 0 [] (u.setBlock b n { x with state := .valid }))))
      ∧ (x.state ≠ .unwritten → u8 p 2 = 1 → blockCheck x.codes ≠ x.check →
          exec (.blockMarkRecheck h p) s
            = .next (finish
                (answer .blockMark h.tag .badCheck (blockCheck x.codes).toNat []
                  (u.setBlock b n { x with state := .bad })))))

/-- The other table writes. Each names the entries it writes: those from its first entry on, as many as
it carries, take the carried entries in order, and every other entry stands. CCT_FILL, NBT_WRITE and
RRT_WRITE write the standby bank; VMT_WRITE and CCAL_WRITE the tables of the window. The bytes of a rule
(mask, measure, threshold, coincidence term, area limits, action) and of a column's calibration (four dark
offsets, then four gains) are read where the payload layouts of section 12.2 put them. -/
def Obligations.TableWritesReachTheirEntries : Prop :=
  (∀ (h : Header) (p : List Byte) (s : State), s.accepts .cctFill h p →
    ∃ t v : State, exec (.cctFill h p) s = .next (finish t)
      ∧ t = answer .cctFill h.tag .ok (u8 p 1 + 1 - u8 p 0) [] v
      ∧ v = (s.heardCommand .cctFill h p).setStandby { s.tbs.standbyBank with cct := v.tbs.standbyBank.cct }
      ∧ v.tbs.activeBank = s.tbs.activeBank
      ∧ ∀ i, v.tbs.standbyBank.cct[i]? =
          s.tbs.standbyBank.cct[i]?.map (fun b =>
            if u8 p 0 ≤ i ∧ i ≤ u8 p 1 then
              { codes := List.replicate 256 (Fin.ofNat 16 (u8 p 2))
                check := blockCheck (List.replicate 256 (Fin.ofNat 16 (u8 p 2)))
                state := .valid }
            else b))
  ∧ (∀ (h : Header) (p : List Byte) (s : State), s.accepts .nbtWrite h p →
      ∃ t v : State, exec (.nbtWrite h p) s = .next (finish t)
        ∧ t = answer .nbtWrite h.tag .ok 0 [] v
        ∧ v = (s.heardCommand .nbtWrite h p).setStandby
            { s.tbs.standbyBank with nbt := v.tbs.standbyBank.nbt }
        ∧ v.tbs.activeBank = s.tbs.activeBank
        ∧ ∀ i, v.tbs.standbyBank.nbt[i]? =
            s.tbs.standbyBank.nbt[i]?.map (fun e =>
              if u8 p 0 ≤ i ∧ i < u8 p 0 + u8 p 1 then
                { low := u8 p (2 + 3 * (i - u8 p 0))
                  high := u8 p (3 + 3 * (i - u8 p 0))
                  override := Fin.ofNat 16 (u8 p (4 + 3 * (i - u8 p 0))) }
              else e))
  ∧ (∀ (h : Header) (p : List Byte) (s : State), s.accepts .rrtWrite h p →
      (u8 p 0 ≤ 15 →
        exec (.rrtWrite h p) s
          = .next (finish
              (answer .rrtWrite h.tag .ok 0 []
                ((s.heardCommand .rrtWrite h p).setStandby
                  { s.tbs.standbyBank with
                    rules := s.tbs.standbyBank.rules.set (u8 p 0)
                      { enabled := decide (u8 p 1 = 1)
                        mask := BitVec.ofNat 16 (u16 p 2)
                        measure := if u8 p 4 = 0 then .count else .share
                        threshold := u16 p 5
                        coincidence :=
                          if u8 p 7 = 1 then
                            some
                              { mask := BitVec.ofNat 16 (u16 p 8)
                                measure := if u8 p 10 = 0 then .count else .share
                                threshold := u16 p 11 }
                          else none
                        areaMin := u16 p 13
                        areaMax := u16 p 15
                        action := if u8 p 17 = 0 then .accept else .reject } }))))
      ∧ (u8 p 0 = 16 →
          exec (.rrtWrite h p) s
            = .next (finish
                (answer .rrtWrite h.tag .ok 0 []
                  ((s.heardCommand .rrtWrite h p).setStandby
                    { s.tbs.standbyBank with
                      default := if u8 p 17 = 0 then .accept else .reject })))))
  ∧ (∀ (h : Header) (p : List Byte) (s : State), s.accepts .vmtWrite h p →
      ∃ t v : State, exec (.vmtWrite h p) s = .next (finish t)
        ∧ t = answer .vmtWrite h.tag .ok 0 [] v
        ∧ v = (s.heardCommand .vmtWrite h p).setTbs { s.tbs with vmt := v.tbs.vmt }
        ∧ ∀ i, v.tbs.vmt[i]? =
            s.tbs.vmt[i]?.map (fun e =>
              if u16 p 0 ≤ i ∧ i < u16 p 0 + u16 p 2 then
                (if u8 p (4 + (i - u16 p 0)) ≤ 63 then some (u8 p (4 + (i - u16 p 0))) else none)
              else e))
  ∧ (∀ (h : Header) (p : List Byte) (s : State), s.accepts .ccalWrite h p →
      ∃ t v : State, exec (.ccalWrite h p) s = .next (finish t)
        ∧ t = answer .ccalWrite h.tag .ok 0 [] v
        ∧ v = (s.heardCommand .ccalWrite h p).setTbs { s.tbs with ccal := v.tbs.ccal }
        ∧ ∀ i, v.tbs.ccal[i]? =
            s.tbs.ccal[i]?.map (fun e =>
              if u16 p 0 ≤ i ∧ i < u16 p 0 + u16 p 2 then
                let q := p.drop (4 + 12 * (i - u16 p 0))
                { r := { dark := u8 q 0, gain := u16 q 4 }
                  g := { dark := u8 q 1, gain := u16 q 6 }
                  b := { dark := u8 q 2, gain := u16 q 8 }
                  n := { dark := u8 q 3, gain := u16 q 10 } }
              else e))

/-- BANK_COPY. At its acceptance the copy begins at block 0; the step of block b copies the active block,
BAD if it is VALID and fails its check; the final step copies the NBT and the RRT and ends the command
with the number of blocks copied BAD because of a failed check. With no copy in progress BANK_COPY_STEP
changes nothing (the model's choice, log 1). -/
def Obligations.BankCopyStepsThroughTheBank : Prop :=
  (∀ (h : Header) (p : List Byte) (s : State), s.accepts .bankCopy h p →
    exec (.bankCopy h p) s
      = .next (finish
          (((s.heardCommand .bankCopy h p).setTbs
              { s.tbs with copy := some { next := 0, badCopies := 0 } }).setCmu
            { s.cmu with executing := some { command := .bankCopy, tag := h.tag } })))
  ∧ (∀ s : State,
      (s.tbs.copy = none → exec .bankCopyStep s = .next s)
      ∧ (∀ k, s.tbs.copy = some k → k.next < 128 →
          let x := s.tbs.activeBank.block k.next
          ∃ t : State, exec .bankCopyStep s = .next t
            ∧ t = s.setTbs t.tbs
            ∧ t.tbs.activeBank = s.tbs.activeBank
            ∧ t.tbs =
                { (s.tbs.setBank (otherBank s.tbs.active)
                    (s.tbs.standbyBank.setBlock k.next
                      (if x.state = .valid ∧ blockCheck x.codes ≠ x.check then
                        { x with state := .bad }
                      else x))) with
                  copy := some
                    { next := k.next + 1
                      badCopies :=
                        if x.state = .valid ∧ blockCheck x.codes ≠ x.check then k.badCopies + 1
                        else k.badCopies } })
      ∧ (∀ k e, s.tbs.copy = some k → 128 ≤ k.next → s.cmu.executing = some e →
          e.command = .bankCopy →
          ∃ v : State,
            exec .bankCopyStep s = .next (answer .bankCopy e.tag .ok k.badCopies [] v)
              ∧ v = (s.setTbs v.tbs).setCmu { s.cmu with executing := none }
              ∧ v.tbs =
                  { (s.tbs.setBank (otherBank s.tbs.active)
                      { s.tbs.standbyBank with
                        nbt := s.tbs.activeBank.nbt
                        rules := s.tbs.activeBank.rules
                        default := s.tbs.activeBank.default }) with
                    copy := none }))

/-- BANK_SWAP. An UNWRITTEN or BAD standby block refuses it; in SORTING it becomes pending with its
deadline, 0 standing for swap_deadline; in STANDBY it completes at the acceptance. A pending swap
completes at a line boundary that finds the quiet point, with no object marked; with no quiet point and
the deadline reached it is forced: every object in flight takes MIXED and their number is the response's
detail; below the deadline the line counts. The test is made inside the take of a line (lineBoundary). With
no boundary signalled the rows SWAP_AT_QUIET_POINT and SWAP_FORCED change nothing (the model's choice,
log 1). -/
def Obligations.BankSwapCompletesOrWaits : Prop :=
  (∀ (h : Header) (p : List Byte) (s : State), s.accepts .bankSwap h p →
      let u := s.heardCommand .bankSwap h p
      let deadline := if u8 p 0 = 0 then s.cmu.config.swapDeadline else u8 p 0
      (∀ n, s.tbs.standbyBank.firstIn .unwritten = some n →
        exec (.bankSwap h p) s = .next (finish (answer .bankSwap h.tag .bankIncomplete n [] u)))
      ∧ (∀ n, s.tbs.standbyBank.firstIn .unwritten = none →
          s.tbs.standbyBank.firstIn .bad = some n →
          exec (.bankSwap h p) s = .next (finish (answer .bankSwap h.tag .bankHasBad n [] u)))
      ∧ (s.tbs.standbyBank.firstIn .unwritten = none → s.tbs.standbyBank.firstIn .bad = none →
          (s.cmu.engine = .sorting →
            exec (.bankSwap h p) s
              = .next (finish
                  ((u.setTbs
                      { s.tbs with swap := some { deadline := deadline, counted := 0 } }).setCmu
                    { s.cmu with executing := some { command := .bankSwap, tag := h.tag } })))
          ∧ (s.cmu.engine = .standby →
              exec (.bankSwap h p) s
                = .next (answer .bankSwap h.tag .ok 0 []
                    (bump .swapsCompleted
                      (u.setTbs
                        { s.tbs with
                          active := otherBank s.tbs.active
                          generation := s.tbs.generation + 1
                          scrubPointer := 0
                          scrubCount := 0
                          swap := none }))))))
  ∧ (∀ s : State,
      (s.tbs.boundary = false ∨ s.tbs.swap = none →
        exec .swapAtQuietPoint s = .next s ∧ exec .swapForced s = .next s)
      ∧ (∀ k e, s.tbs.boundary = true → s.tbs.swap = some k → s.cmu.executing = some e →
          e.command = .bankSwap →
          let exchanged :=
            { s.tbs with
              active := otherBank s.tbs.active
              generation := s.tbs.generation + 1
              scrubPointer := 0
              scrubCount := 0
              swap := none
              boundary := false }
          (s.quiet = true →
            exec .swapAtQuietPoint s
                = .next (answer .bankSwap e.tag .ok 0 []
                    ((bump .swapsCompleted (s.setTbs exchanged)).setCmu
                      { s.cmu with executing := none }))
              ∧ exec .swapForced s = .next s)
          ∧ (s.quiet = false → k.deadline ≤ k.counted →
              exec .swapAtQuietPoint s = .next s
              ∧ ∃ v : State,
                  exec .swapForced s = .next (answer .bankSwap e.tag .ok s.inFlight [] v)
                    ∧ v.tbs = exchanged ∧ v.cmu = { s.cmu with executing := none }
                    ∧ v.oas = { s.oas with oot := s.oas.oot.map OotSlot.mixed }
                    ∧ v.vdu =
                        { vq := s.vdu.vq.map ObjectRecord.mixed
                          evaluating := s.vdu.evaluating.map ObjectRecord.mixed }
                    ∧ v.rpu = (bump .swapsCompleted (bump .swapsForced s)).rpu)
          ∧ (s.quiet = false → k.counted < k.deadline →
              exec .swapAtQuietPoint s = .next s ∧ exec .swapForced s = .next s))
      ∧ (s.tbs.swap = none → lineBoundary s = s.setTbs { s.tbs with boundary := false })
      ∧ (∀ k e, s.tbs.swap = some k → s.cmu.executing = some e → e.command = .bankSwap →
          let exchanged :=
            { s.tbs with
              active := otherBank s.tbs.active
              generation := s.tbs.generation + 1
              scrubPointer := 0
              scrubCount := 0
              swap := none
              boundary := false }
          (s.quiet = true →
            lineBoundary s
              = answer .bankSwap e.tag .ok 0 []
                  ((bump .swapsCompleted (s.setTbs exchanged)).setCmu
                    { s.cmu with executing := none }))
          ∧ (s.quiet = false → k.deadline ≤ k.counted →
              ∃ v : State,
                lineBoundary s = answer .bankSwap e.tag .ok s.inFlight [] v
                  ∧ v.tbs = exchanged ∧ v.cmu = { s.cmu with executing := none }
                  ∧ v.oas = { s.oas with oot := s.oas.oot.map OotSlot.mixed }
                  ∧ v.vdu =
                      { vq := s.vdu.vq.map ObjectRecord.mixed
                        evaluating := s.vdu.evaluating.map ObjectRecord.mixed }
                  ∧ v.rpu = (bump .swapsCompleted (bump .swapsForced s)).rpu))
      ∧ (∀ k, s.tbs.swap = some k → s.quiet = false → k.counted < k.deadline →
          lineBoundary s
            = s.setTbs
                { s.tbs with
                  swap := some { k with counted := k.counted + 1 }
                  boundary := false }))

/-- SCRUB_CHECK at the scrub interval: a VALID active block that fails its check becomes BAD, counted and
noticed; another stands; the count restarts and the pointer rises modulo 128. Before the interval is
reached, or with the interval 0, it changes nothing (the model's choice, log 1). An assembled line raises
the count by 1 and makes the check when the interval is reached. A stored entry that changes of itself
changes alone, and an entry the table does not have stops the model (log 15). -/
def Obligations.ScrubberRechecksTheActiveBlock : Prop :=
  (∀ s : State,
    (s.cmu.config.scrubInterval = 0 ∨ s.tbs.scrubCount < s.cmu.config.scrubInterval →
      exec .scrubCheck s = .next s)
    ∧ (s.cmu.config.scrubInterval ≠ 0 → s.cmu.config.scrubInterval ≤ s.tbs.scrubCount →
        let n := s.tbs.scrubPointer
        let x := s.tbs.activeBank.block n
        (x.state = .valid → blockCheck x.codes ≠ x.check →
          exec .scrubCheck s
            = .next ((notice (.tableBlockBad s.tbs.active n x.check (blockCheck x.codes))
                (bump .scrubMismatches s)).setTbs
                { (s.tbs.setBank s.tbs.active
                    (s.tbs.activeBank.setBlock n { x with state := .bad })) with
                  scrubCount := 0
                  scrubPointer := (n + 1) % 128 }))
        ∧ (x.state ≠ .valid ∨ blockCheck x.codes = x.check →
            exec .scrubCheck s
              = .next (s.setTbs { s.tbs with scrubCount := 0, scrubPointer := (n + 1) % 128 })))
    ∧ (s.cmu.config.scrubInterval = 0 → scrubLine s = s)
    ∧ (s.cmu.config.scrubInterval ≠ 0 →
        .next (scrubLine s)
          = exec .scrubCheck (s.setTbs { s.tbs with scrubCount := s.tbs.scrubCount + 1 })))
  ∧ (∀ (b : Bank) (index : Nat) (code : ClassCode) (s : State),
      (index < 32768 →
        let x := (s.tbs.bank b).block (index / 256)
        exec (.cctEntryChange b index code) s
          = .next (s.setTbs
              (s.tbs.setBank b
                ((s.tbs.bank b).setBlock (index / 256)
                  { x with codes := x.codes.set (index % 256) code }))))
      ∧ (32768 ≤ index → exec (.cctEntryChange b index code) s = .fault (.noSuchEntry index)))

/-! ## Calibration and engine states -/

/-- CALIBRATE needs a configured window and LOCKED; accepted, it begins with a fresh capture. Of a delivered
slot each line lost before it is skipped, a NOSYNC slot is not counted, a PARTIAL or LOST line is skipped,
a COMPLETE line is captured; the sixteenth skip ends the command. With 64 lines captured it completes:
CAL_UNSTEADY names the first column whose spread is above the tolerance, else CAL_RANGE the first column
without a gain in range, else OK writes the gains of the window's columns and no dark offset. With fewer
CALIBRATE_COMPLETION changes nothing (the model's choice, log 1). A gain is round(16,384 x t / s), halves
rounded upward, none for a sum of 0 or outside 128 ~ 511. -/
def Obligations.CalibrateCapturesAndCompletes : Prop :=
  ((∀ (h : Header) (p : List Byte) (s : State), s.accepts .calibrate h p →
      let u := s.heardCommand .calibrate h p
      (s.cmu.config.ownLast < s.cmu.config.ownFirst →
        exec (.calibrate h p) s = .next (answer .calibrate h.tag .badParam 2 [] u))
      ∧ (s.cmu.config.ownFirst ≤ s.cmu.config.ownLast → s.liu.sync ≠ .locked →
          exec (.calibrate h p) s = .next (answer .calibrate h.tag .notLocked 0 [] u))
      ∧ (s.cmu.config.ownFirst ≤ s.cmu.config.ownLast → s.liu.sync = .locked →
          let fresh : Accumulator := { sum := 0, minimum := 255, maximum := 0 }
          exec (.calibrate h p) s
            = .next ((u.setCapture
                  (some
                    { captured := 0
                      skipped := 0
                      columns := List.replicate s.cmu.config.width
                        { r := fresh, g := fresh, b := fresh, n := fresh } })).setCmu
                { s.cmu with executing := some { command := .calibrate, tag := h.tag } })))
    ∧ (∀ s : State,
        (s.capture = none → exec .calibrateCompletion s = .next s)
        ∧ (∀ k, s.capture = some k → k.captured < 64 → exec .calibrateCompletion s = .next s)
        ∧ (∀ k e, s.capture = some k → 64 ≤ k.captured → s.cmu.executing = some e →
            e.command = .calibrate →
            let ended (status : Status) (detail : Nat) (t : State) : State :=
              answer .calibrate e.tag status detail []
                ((t.setCapture none).setCmu { s.cmu with executing := none })
            let column (x : Nat) : Nat := s.cmu.config.windowFirst + x
            (∀ x, k.columns.findIdx? (ColumnCapture.unsteady s.cmu.config.calTolerance) = some x →
              exec .calibrateCompletion s = .next (ended .calUnsteady (column x) s))
            ∧ (∀ x, (∀ q ∈ k.columns, q.unsteady s.cmu.config.calTolerance = false) →
                k.columns.findIdx? (fun q => (gainsOf s.cmu.config q).isNone) = some x →
                exec .calibrateCompletion s = .next (ended .calRange (column x) s))
            ∧ ((∀ q ∈ k.columns, q.unsteady s.cmu.config.calTolerance = false
                  ∧ (gainsOf s.cmu.config q).isSome = true) →
                ∃ ccal : List ColumnCal,
                  exec .calibrateCompletion s
                      = .next (ended .ok 0 (s.setTbs { s.tbs with ccal := ccal }))
                    ∧ ∀ x : Nat, ccal[x]? =
                        s.tbs.ccal[x]?.map (fun (entry : ColumnCal) =>
                          match k.columns[x]?.bind (gainsOf s.cmu.config) with
                          | some (r, g, b, n) =>
                              { entry with
                                r := { entry.r with gain := r }
                                g := { entry.g with gain := g }
                                b := { entry.b with gain := b }
                                n := { entry.n with gain := n } }
                          | none => entry)))))
  ∧ (∀ (x : RingSlot) (k : Capture) (s : State), s.capture = some k →
      let own := { x with lostBefore := 0 }
      let lost (t : State) : Prop :=
        ∀ e, s.cmu.executing = some e → e.command = .calibrate →
          t = answer .calibrate e.tag .calLineLoss 0 []
            ((s.setCapture none).setCmu { s.cmu with executing := none })
      (k.skipped + x.lostBefore < 16 →
        captureSlot x s
          = captureSlot own (s.setCapture (some { k with skipped := k.skipped + x.lostBefore })))
      ∧ (k.skipped < 16 → 16 ≤ k.skipped + x.lostBefore → lost (captureSlot x s))
      ∧ (x.nosync = true → captureSlot own s = s)
      ∧ (x.nosync = false → x.state = .partialLine ∨ x.state = .lost →
          (k.skipped + 1 < 16 →
            captureSlot own s = s.setCapture (some { k with skipped := k.skipped + 1 }))
          ∧ (16 ≤ k.skipped + 1 → lost (captureSlot own s)))
      ∧ (x.nosync = false → x.state = .complete →
          let columns := captureColumns s.tbs.ccal x.samples k.columns
          .next (captureSlot own s)
              = exec .calibrateCompletion
                  (s.setCapture (some { k with captured := k.captured + 1, columns := columns }))
            ∧ ∀ i, columns[i]? =
                k.columns[i]?.map (fun q =>
                  match x.samples.getD i none with
                  | none => q
                  | some p =>
                      let cal := s.tbs.ccal.getD i ColumnCal.powerOn
                      let add (a : Accumulator) (c : ChannelCal) (v : Byte) : Accumulator :=
                        { sum := a.sum + (v.toNat - c.dark)
                          minimum := min a.minimum (v.toNat - c.dark)
                          maximum := max a.maximum (v.toNat - c.dark) }
                      { r := add q.r cal.r p.r
                        g := add q.g cal.g p.g
                        b := add q.b cal.b p.b
                        n := add q.n cal.n p.n })))
  ∧ (∀ (x : RingSlot) (s : State), s.capture = none → captureSlot x s = s)
  ∧ (∀ t sum : Nat,
      (gainOf t 0 = none)
      ∧ (0 < sum →
          ∀ g, 2 * g * sum ≤ 2 * 16384 * t + sum → 2 * 16384 * t + sum < 2 * (g + 1) * sum →
            gainOf t sum = if 128 ≤ g ∧ g ≤ 511 then some g else none))

/-- START's own tests in their order, and its effect: the engine becomes SORTING, the PLR is emptied and
the lost run is 0, and delivery is tested. -/
def Obligations.StartEntersSorting : Prop :=
  ∀ (h : Header) (p : List Byte) (s : State), s.accepts .start h p →
    let u := s.heardCommand .start h p
    (∀ n, s.tbs.activeBank.firstIn .unwritten = some n →
      exec (.start h p) s = .next (answer .start h.tag .bankIncomplete n [] u))
    ∧ (s.tbs.activeBank.firstIn .unwritten = none →
        (s.cmu.config.ownLast < s.cmu.config.ownFirst →
          exec (.start h p) s = .next (answer .start h.tag .badParam 2 [] u))
        ∧ (s.cmu.config.ownFirst ≤ s.cmu.config.ownLast →
            (s.liu.sync ≠ .locked →
              exec (.start h p) s = .next (answer .start h.tag .notLocked s.liu.sync.code [] u))
            ∧ (s.liu.sync = .locked → s.vlc.link = .lost →
                exec (.start h p) s = .next (answer .start h.tag .valveLink 0 [] u))
            ∧ (s.liu.sync = .locked → s.vlc.link = .up → s.cmu.causes = [] →
                let v := (u.setCmu { s.cmu with engine := .sorting }).setOas
                  { s.oas with plr := [], lostRun := 0 }
                exec (.start h p) s = .next (answer .start h.tag .ok 0 [] (deliver v))
                  ∧ (∀ t, exec (.start h p) s = .next t → t.cmu.engine = .sorting)
                  ∧ (deliverable v = none → deliver v = v))))

/-- STOP and the drain. At STOP's acceptance every OPEN object is abandoned and counted, the PLR is
emptied and a line in assembly is abandoned; what is closing, queued, under evaluation or scheduled is
kept. The engine is DRAINING with STOP executing, or STANDBY at once if nothing is left. When the drain
has run out the engine becomes STANDBY and STOP answers OK. The model's choices: the drain waits for
standing ejection requests as well (log 12); a STOP drops a close-all request that still stands, the run-out
drops standing causes, and before its conditions hold DRAIN_RUN_OUT changes nothing (log 2). -/
def Obligations.StopDrainsToStandby : Prop :=
  (∀ (h : Header) (p : List Byte) (s : State), s.accepts .stop h p → s.cmu.causes = [] →
    let left : Bool :=
      decide (0 < s.oas.closingCount) || !s.vdu.vq.isEmpty || s.vdu.evaluating.isSome
        || !s.ejs.eq.isEmpty || s.ejs.ael.any (fun x => x.isSome)
        || !s.ejs.vduRequests.isEmpty || !s.ejs.oasRequests.isEmpty
    ∃ t : State, exec (.stop h p) s = .next t
      ∧ t.oas.openCount = 0 ∧ t.oas.closingCount = s.oas.closingCount
      ∧ t.oas.closingOrder = s.oas.closingOrder ∧ t.oas.plr = [] ∧ t.oas.lostRun = 0
      ∧ t.oas.lineInAssembly = none
      ∧ t.vdu = s.vdu ∧ t.ejs = s.ejs ∧ t.vlc = s.vlc ∧ t.bpu = s.bpu ∧ t.tbs = s.tbs
      ∧ (s.rpu.counters.length = 54 →
          t.counter .objectsAbandoned
            = (s.heardCommand .stop h p).counter .objectsAbandoned
              + BitVec.ofNat 32 s.oas.openCount)
      ∧ (left = true →
          t.cmu = { s.cmu with
                    engine := .draining, executing := some { command := .stop, tag := h.tag } })
      ∧ (left = false → t.cmu = { s.cmu with engine := .standby, executing := none }))
  ∧ (∀ s : State,
      (∀ e, s.cmu.engine = .draining → s.cmu.executing = some e → e.command = .stop →
        s.drained = true →
        exec .drainRunOut s
          = .next (answer .stop e.tag .ok 0 []
              (s.setCmu { s.cmu with engine := .standby, executing := none, causes := [] })))
      ∧ (s.cmu.engine ≠ .draining ∨ s.drained = false → exec .drainRunOut s = .next s))

/-- FAULT entry on a standing cause, and a later cause. At the entry the objects are abandoned and
counted in objects_abandoned; the Ejection Queue and the Active Ejection List are emptied, and with no
request standing (the standing lists are the model's, log 2, and are taken first, log 12) ejections_missed_flush
advances by the records they held; the other queues and the ring are emptied, the reference counts become 0,
the sync state is FAILED, and the executing command ends; the belt's state, the tables, the banks and the
configuration stand. A cause still standing in FAULT is counted and changes nothing else (log 2). -/
def Obligations.FaultEntryEmptiesTheEngine : Prop :=
  (∀ (c : FaultCause) (s : State),
    (s.cmu.engine = .sorting ∨ s.cmu.engine = .draining → c ∈ s.cmu.causes →
      ∃ t : State, exec (.faultEntry c) s = .next t
        ∧ t.cmu =
            { s.cmu with
              engine := .fault, cause := some c, executing := none
              causes := s.cmu.causes.erase c }
        ∧ t.oas.oot = List.replicate 96 .free ∧ t.oas.closingOrder = [] ∧ t.oas.plr = []
        ∧ t.oas.lostRun = 0 ∧ t.oas.lineInAssembly = none
        ∧ t.oas.numberCounter = s.oas.numberCounter
        ∧ t.vdu.vq = [] ∧ t.vdu.evaluating = none
        ∧ t.ejs = { eq := [], ael := List.replicate 16 none, vduRequests := [], oasRequests := [] }
        ∧ (∀ i < 64, (t.valve i).refCount = 0 ∧ (t.valve i).thermal = (s.valve i).thermal
            ∧ ((t.valve i).state = .tripped ↔ (s.valve i).state = .tripped)
            ∧ ∀ k, (t.valve i).state = .disabled k ↔ (s.valve i).state = .disabled k)
        ∧ t.liu.busy = [] ∧ t.liu.freeOrder = [0, 1, 2, 3, 4, 5, 6, 7] ∧ t.liu.pendingLost = 0
        ∧ t.liu.sync = .failed
        ∧ t.bpu = s.bpu
        ∧ t.tbs.bankA = s.tbs.bankA ∧ t.tbs.bankB = s.tbs.bankB ∧ t.tbs.active = s.tbs.active
        ∧ t.tbs.generation = s.tbs.generation ∧ t.tbs.vmt = s.tbs.vmt ∧ t.tbs.ccal = s.tbs.ccal
        ∧ (s.rpu.counters.length = 54 →
            t.counter .objectsAbandoned
              = s.counter .objectsAbandoned + BitVec.ofNat 32 s.inFlight)
        ∧ (s.rpu.counters.length = 54 → s.ejs.vduRequests = [] → s.ejs.oasRequests = [] →
            t.counter .ejectionsMissedFlush
              = s.counter .ejectionsMissedFlush
                + BitVec.ofNat 32 (s.ejs.eq.length + s.ejs.activeCount)))
    ∧ ((s.cmu.engine ≠ .sorting ∧ s.cmu.engine ≠ .draining) ∨ c ∉ s.cmu.causes →
        exec (.faultEntry c) s = .next s))
  ∧ (∀ (c : FaultCause) (s : State),
      (s.cmu.engine = .fault → c ∈ s.cmu.causes →
        exec (.laterCause c) s
          = .next (bump .faultsWhileFaulted
              (s.setCmu { s.cmu with causes := s.cmu.causes.erase c })))
      ∧ (s.cmu.engine ≠ .fault ∨ c ∉ s.cmu.causes → exec (.laterCause c) s = .next s))
  ∧ (∀ (c : FaultCause) (s : State),
      (s.cmu.engine = .fault → raiseCause c s = bump .faultsWhileFaulted s)
      ∧ (s.cmu.engine = .standby ∨ s.cmu.engine = .offline → raiseCause c s = s))

/-- CLEAR_FAULT: the engine becomes STANDBY and the cause absent, the reverse debt 0 and the index check
disarmed, and the Line Intake Unit enters HUNT1 with its offset kept; OK carries the cleared cause. The
model's choices: the OK joins the Report Queue last, after the SYNC_HUNT notice (log 8), and no cause is
left standing (log 2). -/
def Obligations.ClearFaultReturnsToStandby : Prop :=
  ∀ (h : Header) (p : List Byte) (s : State), s.accepts .clearFault h p →
    ∃ t v : State, exec (.clearFault h p) s = .next t
      ∧ t = answer .clearFault h.tag .ok ((s.cmu.cause.map FaultCause.code).getD 0) [] v
      ∧ t.cmu.engine = .standby ∧ t.cmu.cause = none ∧ t.cmu.causes = []
      ∧ t.cmu.unit = s.cmu.unit ∧ t.cmu.config = s.cmu.config
      ∧ t.bpu = { s.bpu with debt := 0, armed := false, mismatchRun := 0 }
      ∧ t.liu =
          { s.liu with
            sync := .hunt1
            consecutiveLoss := 0
            completeRun := 0
            huntCount := 0
            realignPending := false
            busy := s.liu.busy.map
              (fun x => if x.state = .assembling then x else { x with nosync := true }) }
      ∧ t.oas = s.oas ∧ t.vdu = s.vdu ∧ t.ejs = s.ejs ∧ t.tbs = s.tbs
      ∧ (∀ i < 64, (t.valve i).refCount = (s.valve i).refCount
          ∧ (t.valve i).thermal = (s.valve i).thermal)

/-! ## Valves and the Valve Port -/

/-- VALVE_CONTROL. DISABLE makes the valve DISABLED with cause SOFT from every state, with no holdoff,
its counts unchanged, and answers its state before; ENABLE acts by the valve's state as R130's table
says, and one that makes the valve IDLE applies the ON test at once. -/
def Obligations.ValveControlByState : Prop :=
  ∀ (h : Header) (p : List Byte) (s : State), s.accepts .valveControl h p →
    let u := s.heardCommand .valveControl h p
    let i := u8 p 0
    let v := s.valve i
    (u8 p 1 = 0 →
      let t := u.setValve i { v with state := .disabled .soft, holdoff := none, tripDue := false }
      exec (.valveControlDisable h p) s
        = .next (finish (answer .valveControl h.tag .ok v.state.code []
            (if v.state = .on then setImageDue t else t))))
    ∧ (u8 p 1 = 1 →
        let enabled : Prop :=
          exec (.valveControlEnable h p) s
            = .next (finish
                (answer .valveControl h.tag .ok
                  (((onTest i (u.setValve i { v with state := .idle })).valve i).state.code) []
                  (onTest i (u.setValve i { v with state := .idle }))))
        let refusedWith (status : Status) : Prop :=
          exec (.valveControlEnable h p) s
            = .next (finish (answer .valveControl h.tag status v.thermal [] u))
        (v.state = .idle ∨ v.state = .on ∨ v.state = .holdoff →
          exec (.valveControlEnable h p) s
            = .next (finish (answer .valveControl h.tag .ok v.state.code [] u)))
        ∧ (v.state = .disabled .soft ∨ v.state = .tripped
            ∨ (v.state = .disabled .coil ∧ v.coilFault = false) →
            (v.thermal ≤ s.cmu.config.rearmLevel → enabled)
            ∧ (s.cmu.config.rearmLevel < v.thermal → refusedWith .valveHot))
        ∧ (v.state = .disabled .coil → v.coilFault = true → refusedWith .valveState))

/-- The ON test: by the valve's state and by its ON condition, a reference count above 0 while the belt is
MOVING or a running test of it. HOLDOFF_EXPIRY acts while the holdoff timer is present, whatever time is
left (the model's choice, log 3): the valve becomes IDLE and the ON test is applied at once. A valve the
engine does not have stops the model (log 15). At the end of an event that began in the state before
(handOver) the ON test is applied, once and in the state as the event leaves it (log 7), to every valve if
the belt state has changed, and else to each valve whose reference count has changed, and to no other. An
activation or a widening raises the count of each valve of its range by 1 (raiseCounts), and each raise of a
valve that is TRIPPED or DISABLED advances valve_skipped by 1. -/
def Obligations.OnTestAndHoldoffExpiry : Prop :=
  (∀ (i : Nat) (s : State),
      let v := s.valve i
      let on : Prop := (0 < v.refCount ∧ s.bpu.beltState = .moving) ∨ s.vlc.tests i = true
      (v.state = .idle → on → onTest i s = setImageDue (s.setValve i { v with state := .on }))
      ∧ (v.state = .idle → ¬ on → onTest i s = s)
      ∧ (v.state = .on → on → onTest i s = s)
      ∧ (v.state = .on → ¬ on → s.cmu.config.holdoff ≠ 0 →
          onTest i s
            = setImageDue (s.setValve i
                { v with
                  state := .holdoff, holdoff := some (s.cmu.config.holdoff * 100)
                  delayMark := false, tripDue := false }))
      ∧ (v.state = .on → ¬ on → s.cmu.config.holdoff = 0 →
          onTest i s
            = setImageDue (s.setValve i
                { v with state := .idle, holdoff := none, delayMark := false, tripDue := false }))
      ∧ (v.state = .holdoff → on → v.delayMark = false →
          onTest i s = bump .valveDelays (s.setValve i { v with delayMark := true }))
      ∧ (v.state = .holdoff → ¬ on ∨ v.delayMark = true → onTest i s = s)
      ∧ (v.state = .tripped ∨ v.state = .disabled .soft ∨ v.state = .disabled .coil → onTest i s = s))
  ∧ (∀ (i : Nat) (s : State),
      (i < 64 → (s.valve i).holdoff.isSome = true →
        exec (.holdoffExpiry i) s
          = .next (onTest i (s.setValve i { s.valve i with state := .idle, holdoff := none })))
      ∧ (i < 64 → (s.valve i).holdoff = none → exec (.holdoffExpiry i) s = .next s)
      ∧ (64 ≤ i → exec (.holdoffExpiry i) s = .fault (.noSuchValve i)
          ∧ exec (.valveTrip i) s = .fault (.noSuchValve i)))
  ∧ (∀ before s : State,
      let given (i : Nat) : Prop :=
        before.bpu.beltState ≠ s.bpu.beltState
          ∨ (before.valve i).refCount ≠ (s.valve i).refCount
      handOver before s
          = (List.range 64).foldl (fun t i => if given i then onTest i t else t) s
        ∧ ∀ i < 64,
            (given i → (handOver before s).valve i = (onTest i s).valve i)
            ∧ (¬ given i → (handOver before s).valve i = s.valve i))
  ∧ (∀ (first last : Nat) (s : State),
      let t := raiseCounts first last s
      (∀ i < s.vlc.valves.length,
        t.valve i
          = (if first ≤ i ∧ i ≤ last then
              { s.valve i with refCount := (s.valve i).refCount + 1 }
            else s.valve i))
      ∧ (s.vlc.valves.length = 64 →
          t = bumpBy .valveSkipped
            ((List.range 64).countP (fun i =>
              decide (first ≤ i) && decide (i ≤ last)
                && (decide ((s.valve i).state = .tripped)
                  || decide ((s.valve i).state = .disabled .soft)
                  || decide ((s.valve i).state = .disabled .coil))))
            (s.setVlc { s.vlc with valves := t.vlc.valves })))

/-- The thermal tick acts on all 64 valves at once: an ON valve's count rises by heat_step, saturating,
and one left at or above trip_level trips; any other valve's count falls by 1, stopping at 0. No other
block but the reports changes, except that a test of a tripped valve ends (ValveTestRunsAndEnds). VALVE_TRIP takes a trip that
stands due and else changes nothing (log 1). -/
def Obligations.ThermalTickHeatsAndTrips : Prop :=
  (∀ s : State, ∃ t : State, exec .thermalTick s = .next t
    ∧ (∀ i < 64,
        let v := s.valve i
        let heat := min 65535 (v.thermal + s.cmu.config.heatStep)
        (v.state = .on →
          (t.valve i).thermal = heat
            ∧ (t.valve i).state = (if s.cmu.config.tripLevel ≤ heat then .tripped else .on))
        ∧ (v.state ≠ .on →
            (t.valve i).thermal = v.thermal - 1 ∧ (t.valve i).state = v.state)
        ∧ (t.valve i).refCount = v.refCount ∧ (t.valve i).holdoff = v.holdoff
        ∧ (t.valve i).coilFault = v.coilFault)
    ∧ t.vlc.phase = s.vlc.phase ∧ t.vlc.link = s.vlc.link
    ∧ t.bpu = s.bpu ∧ t.liu = s.liu ∧ t.oas = s.oas ∧ t.vdu = s.vdu ∧ t.ejs = s.ejs ∧ t.tbs = s.tbs
    ∧ t.cmu.engine = s.cmu.engine ∧ t.cmu.config = s.cmu.config
    ∧ ((∀ i < 64, s.vlc.tests i = false) → t.cmu = s.cmu))
  ∧ (∀ (i : Nat) (s : State), i < 64 →
      (s.valve i).tripDue = true → (s.valve i).state = .on → s.vlc.tests i = false →
      exec (.valveTrip i) s
        = .next (notice (.valveTrip i (s.valve i).thermal (s.valve i).refCount)
            (bump .valveTrips
              (setImageDue (s.setValve i { s.valve i with state := .tripped, tripDue := false })))))
  ∧ (∀ (i : Nat) (s : State), i < 64 →
      (s.valve i).tripDue = false ∨ (s.valve i).state ≠ .on → exec (.valveTrip i) s = .next s)

/-- VALVE_TEST: its own tests, its start, and its end at the expiry of the test time, with the valve's
thermal count at the end. The expiry ends a running test whatever time is left, and with no test it changes
nothing (the model's choice, log 3). A test ends early, with no test left and no command executing: by a trip
with VALVE_HOT and the thermal count, the valve TRIPPED, at the thermal tick and at the row VALVE_TRIP; by a
coil fault indication with VALVE_STATE and detail COIL, the valve DISABLED, in a Status frame and in the one
valve's part of it (coilFault); and by the loss of the valve link, in STANDBY, with VALVE_LINK, the valve in
HOLDOFF. The event's notice is posted before the response (the model's choice, log 8). -/
def Obligations.ValveTestRunsAndEnds : Prop :=
  (∀ (h : Header) (p : List Byte) (s : State), s.accepts .valveTest h p →
    let u := s.heardCommand .valveTest h p
    let i := u8 p 0
    (s.vlc.link = .lost →
      exec (.valveTest h p) s = .next (answer .valveTest h.tag .valveLink 0 [] u))
    ∧ (s.vlc.link = .up → (s.valve i).state ≠ .idle →
        exec (.valveTest h p) s
          = .next (answer .valveTest h.tag .valveState (s.valve i).state.code [] u))
    ∧ (s.vlc.link = .up → (s.valve i).state = .idle →
        exec (.valveTest h p) s
          = .next (setImageDue
              (((u.setVlc
                  { s.vlc with test := some { valve := i, left := u8 p 1 * 10000 } }).setCmu
                { s.cmu with executing := some { command := .valveTest, tag := h.tag } }).setValve i
                { s.valve i with state := .on }))))
  ∧ (∀ s : State,
      (s.vlc.test = none → exec .valveTestExpiry s = .next s)
      ∧ (∀ k e, s.vlc.test = some k → s.cmu.executing = some e → e.command = .valveTest →
          let u := onTest k.valve (s.setVlc { s.vlc with test := none })
          exec .valveTestExpiry s
              = .next (answer .valveTest e.tag .ok 0 (le 1 k.valve ++ le 2 (s.valve k.valve).thermal)
                  (u.setCmu { s.cmu with executing := none }))
            ∧ (u.valve k.valve).thermal = (s.valve k.valve).thermal))
  ∧ (∀ (i : Nat) (e : Executing) (s : State), i < 64 → s.vlc.tests i = true →
      s.cmu.executing = some e → e.command = .valveTest →
      let v := s.valve i
      let ended (u : State) : State :=
        (u.setVlc { u.vlc with test := none }).setCmu { u.cmu with executing := none }
      (v.tripDue = true → v.state = .on →
        exec (.valveTrip i) s
          = .next (answer .valveTest e.tag .valveHot v.thermal []
              (ended (notice (.valveTrip i v.thermal v.refCount)
                (bump .valveTrips
                  (setImageDue (s.setValve i { v with state := .tripped, tripDue := false })))))))
      ∧ (v.coilFault = true → v.state ≠ .disabled .coil →
          let out := s.setValve i
            { v with state := .disabled .coil, holdoff := none, tripDue := false }
          coilFault i s
            = answer .valveTest e.tag .valveState 5 []
                (ended (notice (.valveCoil i v.state)
                  (bump .valveCoilFaults (if v.state = .on then setImageDue out else out))))))
  ∧ (∀ (k : ValveTest) (e : Executing) (s : State), s.vlc.test = some k → k.valve < 64 →
      k.valve < s.vlc.valves.length → s.cmu.executing = some e → e.command = .valveTest →
      let heat := min 65535 ((s.valve k.valve).thermal + s.cmu.config.heatStep)
      ((s.valve k.valve).state = .on → s.cmu.config.tripLevel ≤ heat →
        (∀ j < 64, j ≠ k.valve → (s.valve j).state ≠ .on) →
        ∃ u : State, exec .thermalTick s = .next (answer .valveTest e.tag .valveHot heat [] u)
          ∧ u.vlc.test = none ∧ u.cmu = { s.cmu with executing := none }
          ∧ (u.valve k.valve).state = .tripped)
      ∧ (∀ b : List Byte, statusGood b = true → s.vlc.phase = .awaiting →
          s.vlc.awaited = some (b.getD 0 0) → s.vlc.link = .up →
          statusFault b k.valve = true → (s.valve k.valve).state ≠ .disabled .coil →
          (∀ j < 64, j ≠ k.valve → statusFault b j = false) →
          ∃ u : State, exec (.statusFrame b) s = .next (answer .valveTest e.tag .valveState 5 [] u)
            ∧ u.vlc.test = none ∧ u.cmu = { s.cmu with executing := none }
            ∧ (u.valve k.valve).state = .disabled .coil)
      ∧ (s.vlc.phase = .awaiting → 2 ≤ s.vlc.missCount → s.vlc.link = .up →
          s.cmu.engine = .standby →
          let lost := notice (.valveLinkLost (s.vlc.awaited.getD 0) .standby)
            (bump .valveLinkLosses
              (s.setVlc
                { s.vlc with
                  phase := .free, awaited := none, answerLeft := none, image := none
                  missCount := 3, link := .lost }))
          let off := onTest k.valve (lost.setVlc { lost.vlc with test := none })
          exec .answerWindowClose s
              = .next (answer .valveTest e.tag .valveLink 0 []
                  (off.setCmu { s.cmu with executing := none }))
            ∧ off.vlc.test = none
            ∧ ((s.valve k.valve).state = .on → s.cmu.config.holdoff ≠ 0 →
                (s.valve k.valve).refCount = 0 ∨ s.bpu.beltState ≠ .moving →
                (off.valve k.valve).state = .holdoff)))

/-- The Valve Port exchange. With the port FREE, and image due set or the refresh timer at 1 ms, an image starts
(at IMAGE_START, whose moment is the sender's: log 25): it takes every output and the next sequence number
and is awaited; otherwise IMAGE_START changes nothing. The end of its transmission opens the 100 us answer
window; a Status frame that does not match is dropped and counted; one that matches closes the window and
clears the misses. The window's close is a miss, counted, and the third while the link is UP makes it LOST,
raises VALVE_LINK_LOST and ends a running test. The transmission's end and the window's close are taken
whatever time is left (the model's choice, log 3). -/
def Obligations.ValvePortExchange : Prop :=
  ∀ s : State,
    (s.vlc.phase = .free → s.vlc.imageDue = true ∨ 10000 ≤ s.vlc.refresh →
      exec .imageStart s
        = .next (s.setVlc
            { s.vlc with
              image := some (valveImage s.vlc.nextSequence
                (s.vlc.valves.map (fun v => decide (v.state = .on))))
              awaited := some s.vlc.nextSequence
              nextSequence := s.vlc.nextSequence + 1
              imageDue := false
              refresh := 0
              phase := .sending }))
    ∧ (s.vlc.phase ≠ .free ∨ (s.vlc.imageDue = false ∧ s.vlc.refresh < 10000) →
        exec .imageStart s = .next s)
    ∧ (s.vlc.phase = .sending →
        exec .imageTransmissionEnd s
          = .next (s.setVlc { s.vlc with phase := .awaiting, answerLeft := some 1000 }))
    ∧ (s.vlc.phase ≠ .sending → exec .imageTransmissionEnd s = .next s)
    ∧ (∀ b : List Byte,
        statusGood b = false ∨ s.vlc.phase ≠ .awaiting ∨ s.vlc.awaited ≠ some (b.getD 0 0) →
        exec (.statusFrame b) s = .next (bump .valveStatusErrors s))
    ∧ (∀ b : List Byte,
        statusGood b = true → s.vlc.phase = .awaiting → s.vlc.awaited = some (b.getD 0 0) →
        ∃ t : State, exec (.statusFrame b) s = .next t
          ∧ t.vlc.phase = .free ∧ t.vlc.awaited = none ∧ t.vlc.answerLeft = none
          ∧ t.vlc.missCount = 0 ∧ t.vlc.link = .up
          ∧ t.vlc.nextSequence = s.vlc.nextSequence
          ∧ (∀ i < s.vlc.valves.length, i < 64 →
              (t.valve i).coilFault = statusFault b i
                ∧ (t.valve i).refCount = (s.valve i).refCount
                ∧ (t.valve i).thermal = (s.valve i).thermal
                ∧ (statusFault b i = true → (t.valve i).state = .disabled .coil)
                ∧ (statusFault b i = false → (t.valve i).state = (s.valve i).state)
                ∧ (s.vlc.tests i = true → statusFault b i = true →
                    (s.valve i).state ≠ .disabled .coil → t.vlc.test = none))
          ∧ t.bpu = s.bpu ∧ t.ejs = s.ejs ∧ t.cmu.engine = s.cmu.engine)
    ∧ (s.vlc.phase ≠ .awaiting → exec .answerWindowClose s = .next s)
    ∧ (s.vlc.phase = .awaiting →
        let closed : Vlc :=
          { s.vlc with
            phase := .free, awaited := none, answerLeft := none, image := none
            missCount := min 3 (s.vlc.missCount + 1) }
        (s.vlc.missCount < 2 ∨ s.vlc.link = .lost →
          exec .answerWindowClose s = .next (finish (s.setVlc closed)))
        ∧ (2 ≤ s.vlc.missCount → s.vlc.link = .up → s.atRest →
            ∃ t : State, exec .answerWindowClose s = .next t
              ∧ t.vlc.link = .lost ∧ t.vlc.missCount = 3 ∧ t.vlc.phase = .free
              ∧ t.vlc.test = none
              ∧ (s.cmu.engine = .sorting ∨ s.cmu.engine = .draining →
                  t.cmu.engine = .fault ∧ t.cmu.cause = some .valveLinkLost)
              ∧ (s.cmu.engine ≠ .sorting → s.cmu.engine ≠ .draining →
                  t.cmu.engine = s.cmu.engine ∧ t.cmu.cause = s.cmu.cause)))

/-! ## Line intake -/

/-- LINE frames. One that meets an inactive unit, is malformed or has no window part is ignored; an EARLY
one is counted and is a loss event; a STALE one is counted; a frame that matches a FILLING slot adds the
columns not received and counts the others as duplicates; the one that brings the last column makes the
slot COMPLETE, which has its sync effect and lets it be delivered. In HUNT2 with realign pending the frame
first sets the offset and empties the received set of every FILLING slot, and is then handled under the new
offset. -/
def Obligations.LineFramesFillTheRing : Prop :=
  ∀ (h : Header) (payload : List Byte) (s : State), payload.length ≤ maxPayload →
    let u := s.heard { ftype := 0x01, hdr := h, payload := payload }
    let part := windowPart s.cmu.config (u16 payload 2) (samplesOf (payload.drop 6))
    let m : LineNo := BitVec.ofNat 16 (u16 payload 0)
    let line : LineNo := m - s.liu.offset
    let early : Prop := 32768 ≤ (s.bpu.line - line).toNat
    let realigns : Prop := s.liu.sync = .hunt2 ∧ s.liu.realignPending = true
    (∀ q, q ∈ part ↔
        ∃ (i : Nat) (p : Sample), (samplesOf (payload.drop 6))[i]? = some p
          ∧ u16 payload 2 + i ≤ 4095
          ∧ s.cmu.config.windowFirst ≤ u16 payload 2 + i ∧ u16 payload 2 + i ≤ s.cmu.config.windowLast
          ∧ q = (u16 payload 2 + i - s.cmu.config.windowFirst, p))
    ∧ (s.liuActive = false ∨ linePayloadGood payload = false ∨ part = [] →
      exec (.lineFrame h payload) s = .next (finish u))
    ∧ (s.liuActive = true → linePayloadGood payload = true → part ≠ [] →
        (¬ realigns → early → s.liu.sync = .locked → s.liu.consecutiveLoss < 2 →
          exec (.lineFrame h payload) s
            = .next (finish (bump .framesEarly
                (u.setLiu { s.liu with consecutiveLoss := s.liu.consecutiveLoss + 1 }))))
        ∧ (¬ realigns → early → s.liu.sync = .locked → 2 ≤ s.liu.consecutiveLoss → s.atRest →
            ∃ t : State, exec (.lineFrame h payload) s = .next t
              ∧ t.liu.sync = .hunt1 ∧ t.liu.consecutiveLoss = 0 ∧ t.liu.offset = s.liu.offset
              ∧ (s.cmu.engine = .sorting → s.oas.lineInAssembly = none →
                  s.oas.oot.length = 96 → t.oas.openCount = 0 ∧ t.oas.plr = []))
        ∧ (¬ realigns → early → s.liu.sync = .hunt1 ∨ s.liu.sync = .hunt2 →
            exec (.lineFrame h payload) s
              = .next (finish (bump .framesEarly (u.setLiu { s.liu with completeRun := 0 }))))
        ∧ (¬ realigns → ¬ early →
            (∀ x ∈ s.liu.busy, x.line = line → x.state ≠ .filling) →
            exec (.lineFrame h payload) s = .next (finish (bump .framesStale u)))
        ∧ (∀ x, ¬ realigns → ¬ early →
            s.liu.busy.find? (fun y => decide (y.line = line) && decide (y.state = .filling))
              = some x →
            let y := { x with samples := addSamples part x.samples }
            (y.samples.any (fun p => p.isNone) = true →
              exec (.lineFrame h payload) s
                = .next (finish
                    (bumpBy .duplicateColumns (duplicates part x.samples) (setRingSlot y u))))
            ∧ (y.samples.all (fun p => p.isSome) = true →
                exec (.lineFrame h payload) s
                  = .next (finish (deliver (syncComplete
                      (setRingSlot { y with state := .complete, due := false }
                        (bumpBy .duplicateColumns (duplicates part x.samples) u))))))
            ∧ (∀ i, y.samples[i]? = x.samples[i]?.map (fun old => old <|> part.lookup i))
            ∧ (y.samples.all (fun p => p.isSome) = true → s.atRest →
                ∃ t : State, exec (.lineFrame h payload) s = .next t
                  ∧ t.liu.consecutiveLoss = (if s.liu.completeRun < 3 ∧ s.liu.sync ≠ .locked
                      then s.liu.consecutiveLoss else 0)
                  ∧ (s.liu.sync = .locked → t.liu.sync = .locked)
                  ∧ (s.liu.sync ≠ .locked → 3 ≤ s.liu.completeRun → t.liu.sync = .locked)
                  ∧ (s.liu.sync ≠ .locked → s.liu.completeRun < 3 →
                      t.liu.sync = s.liu.sync ∧ t.liu.completeRun = s.liu.completeRun + 1)))
        ∧ (realigns →
            exec (.lineFrame h payload) s
              = exec (.lineFrame h payload)
                  (s.setLiu
                    { s.liu with
                      offset := m - s.bpu.line
                      realignPending := false
                      busy := s.liu.busy.map (fun y =>
                        if y.state = .filling then
                          { y with samples := y.samples.map (fun _ => none) }
                        else y) }))
        ∧ (realigns → s.atRest →
            ∃ t : State, exec (.lineFrame h payload) s = .next t
              ∧ t.liu.offset = m - s.bpu.line ∧ t.liu.realignPending = false))

/-- A line trigger at the LIU. While the unit is active and LOCKED, with no slot due, it allocates the first
slot of the free order to the new line; with none free the line is lost and counted. An inactive unit
allocates nothing. The advance that reaches line_pitch makes the trigger in the same event, and the row
LINE_TRIGGER makes the same trigger (log 1). Its steps: the slots that have become due settle in line order
as SLOT_DUE settles them, each with its delivery (log 18); in HUNT1 and HUNT2 the hunt count rises; then the
new line is allocated, its slot marked NOSYNC while hunting. -/
def Obligations.TriggerAllocatesASlot : Prop :=
  (∀ s : State, s.cmu.config.linePitch ≤ s.bpu.pitch → s.atRest →
    let n := s.bpu.line + 1
    (s.liuActive = false →
      ∃ t : State, exec .lineTrigger s = .next t ∧ t.liu = s.liu)
    ∧ (s.liuActive = true → s.liu.sync = .locked →
        (∀ x ∈ s.liu.busy, x.due = false
          ∧ (x.state = .filling → (n - x.line).toNat < s.cmu.config.latencyLines)) →
        (∀ i rest, s.liu.freeOrder = i :: rest →
          ∃ t : State, exec .lineTrigger s = .next t
            ∧ t.liu =
                { s.liu with
                  busy := s.liu.busy ++
                    [{ index := i
                       state := .filling
                       line := n
                       position := s.bpu.travel
                       samples := List.replicate s.cmu.config.width none
                       lostBefore := s.liu.pendingLost
                       nosync := false
                       due := false }]
                  freeOrder := rest
                  pendingLost := 0 })
        ∧ (s.liu.freeOrder = [] →
            ∃ t : State, exec .lineTrigger s = .next t
              ∧ t.liu = { s.liu with pendingLost := min 65535 (s.liu.pendingLost + 1) }
              ∧ (s.rpu.counters.length = 54 →
                  t.counter .lineOverruns = s.counter .lineOverruns + 1))))
  ∧ (∀ s : State, s.cmu.config.linePitch ≤ s.bpu.pitch →
      exec .lineTrigger s = .next (finish (intakeTrigger (beltTrigger s))))
  ∧ (∀ (acc : Accepted) (s : State), s.bpu.timed acc →
      acc.pairAfter s.bpu = nextForward s.bpu.pair → s.bpu.debt = 0 → s.bpu.armed = false →
      s.cmu.config.linePitch ≤ s.bpu.pitch + 1 →
      exec (.encoderEdgeAccepted acc) s
        = .next (finish (handOver s (ejectionAdvance (intakeTrigger (beltTrigger
            (s.setBpu
              { s.bpu.withLevels acc with
                travel := s.bpu.travel + 1
                indexAdvances := min 16777215 (s.bpu.indexAdvances + 1)
                stallFlag := false
                stallTimer := some (s.cmu.config.stallTimeout * 10000)
                pitch := s.bpu.pitch + 1 })))))))
  ∧ (∀ s : State,
      (s.liuActive = false → intakeTrigger s = s)
      ∧ (s.liuActive = true →
          let marked := s.setLiu
            { s.liu with
              busy := s.liu.busy.map (fun x =>
                if x.state = .filling ∧ s.cmu.config.latencyLines ≤ (s.bpu.line - x.line).toNat then
                  { x with due := true }
                else x) }
          let settled := settleN s.liu.busy.length marked
          (s.liu.sync = .locked → settled.liuActive = true → intakeTrigger s = allocate settled)
          ∧ (s.liu.sync ≠ .locked → (huntAdvance settled).liuActive = true →
              intakeTrigger s = allocate (huntAdvance settled))
          ∧ (s.liu.sync ≠ .locked → (huntAdvance settled).liuActive = false →
              intakeTrigger s = huntAdvance settled))
      ∧ settleN 0 s = s
      ∧ (∀ n, exec .slotDue s = .next (finish (settleOldest s))
          ∧ settleN (n + 1) s = settleN n (settleOldest s))
      ∧ (s.liu.sync = .hunt1 ∨ s.liu.sync = .hunt2 →
          let counted := s.setLiu { s.liu with huntCount := s.liu.huntCount + 1 }
          (s.liu.huntCount + 1 < 10 → huntAdvance s = counted)
          ∧ (10 ≤ s.liu.huntCount + 1 →
              exec .huntTimeout counted = .next (finish (huntAdvance s))))
      ∧ (∀ i rest, s.liu.freeOrder = i :: rest →
          allocate s
            = s.setLiu
                { s.liu with
                  busy := s.liu.busy ++
                    [{ index := i
                       state := .filling
                       line := s.bpu.line
                       position := s.bpu.triggerPos
                       samples := List.replicate s.cmu.config.width none
                       lostBefore := s.liu.pendingLost
                       nosync := decide (s.liu.sync = .hunt1 ∨ s.liu.sync = .hunt2)
                       due := false }]
                  freeOrder := rest
                  pendingLost := 0 })
      ∧ (s.liu.freeOrder = [] →
          allocate s
            = bump .lineOverruns
                (s.setLiu { s.liu with pendingLost := min 65535 (s.liu.pendingLost + 1) })))

/-- SLOT_DUE and HUNT_TIMEOUT. A due slot with a column received becomes PARTIAL, one with none becomes LOST;
each is counted, has its sync effect and lets slots be delivered. The hunt count at 10 takes HUNT1 to HUNT2
with realign pending, and HUNT2 to FAILED with the ring emptied, a fault in SORTING and DRAINING. Where
nothing is due the commands change nothing (log 1). -/
def Obligations.DueSlotsAndHuntTimeout : Prop :=
  (∀ s : State, s.atRest →
    ((∀ x ∈ s.liu.busy, x.due = true → x.state ≠ .filling) → exec .slotDue s = .next s)
    ∧ (∀ x, s.liu.busy.find? (fun y => y.due && decide (y.state = .filling)) = some x →
        (x.samples.any (fun p => p.isSome) = true →
          exec .slotDue s
              = .next (finish (deliver (syncPartial (bump .linesPartial
                  (setRingSlot { x with state := .partialLine, due := false } s)))))
          ∧ ∃ t : State, exec .slotDue s = .next t
            ∧ t.liu.sync = s.liu.sync ∧ t.liu.consecutiveLoss = s.liu.consecutiveLoss
            ∧ t.liu.completeRun =
                (if s.liu.sync = .hunt1 ∨ s.liu.sync = .hunt2 then 0 else s.liu.completeRun)
            ∧ (s.rpu.counters.length = 54 →
                t.counter .linesPartial = s.counter .linesPartial + 1
                  ∧ t.counter .linesLost = s.counter .linesLost))
        ∧ (x.samples.any (fun p => p.isSome) = false →
            exec .slotDue s
                = .next (finish (deliver (syncLoss (bump .linesLost
                    (setRingSlot { x with state := .lost, due := false } s)))))
            ∧ ∃ t : State, exec .slotDue s = .next t
              ∧ (s.liu.sync = .locked → s.liu.consecutiveLoss < 2 →
                  t.liu.sync = .locked ∧ t.liu.consecutiveLoss = s.liu.consecutiveLoss + 1)
              ∧ (s.liu.sync = .locked → 2 ≤ s.liu.consecutiveLoss →
                  t.liu.sync = .hunt1 ∧ t.liu.consecutiveLoss = 0 ∧ t.liu.huntCount = 0
                    ∧ t.liu.offset = s.liu.offset)
              ∧ (s.liu.sync = .hunt1 ∨ s.liu.sync = .hunt2 →
                  t.liu.sync = s.liu.sync ∧ t.liu.completeRun = 0)
              ∧ (s.rpu.counters.length = 54 →
                  t.counter .linesLost = s.counter .linesLost + 1
                    ∧ t.counter .linesPartial = s.counter .linesPartial))))
  ∧ (∀ s : State, s.atRest →
      (s.liu.huntCount < 10 ∨ s.liu.sync = .locked ∨ s.liu.sync = .failed →
        exec .huntTimeout s = .next s)
      ∧ (10 ≤ s.liu.huntCount → s.liu.sync = .hunt1 →
          exec .huntTimeout s
            = .next (notice (.syncHunt .hunt2 .timeout s.liu.offset s.bpu.line)
                (s.setLiu
                  { s.liu with
                    sync := .hunt2, huntCount := 0, completeRun := 0, realignPending := true })))
      ∧ (10 ≤ s.liu.huntCount → s.liu.sync = .hunt2 →
          ∃ t : State, exec .huntTimeout s = .next t
            ∧ t.liu.sync = .failed ∧ t.liu.busy = []
            ∧ t.liu.freeOrder = [0, 1, 2, 3, 4, 5, 6, 7] ∧ t.liu.pendingLost = 0
            ∧ (s.cmu.engine = .sorting ∨ (s.cmu.engine = .draining ∧ s.oas.closeAllDue = false) →
                t.cmu.engine = .fault ∧ t.cmu.cause = some .syncFailed)
            ∧ (s.cmu.engine = .standby → t.cmu = s.cmu)))

/-- SLOT_DELIVERY is the delivery (deliver), the same that the events which settle or free a slot make
inside them, and then the end of its event. The oldest slot is delivered when it has settled and no slot is
ASSEMBLING; with nothing to deliver the row changes nothing (the model's choice, log 1). With no taker the
slot is freed; while CALIBRATE executes it goes to the capture. In SORTING the take signals a line boundary,
at which a pending swap is tested, and then a NOSYNC slot is discarded, a LOST line is applied with the lines
lost before it, and another becomes the line in assembly with its class row, stamped with the generation. -/
def Obligations.SlotsAreDeliveredInOrder : Prop :=
  ∀ s : State,
    exec .slotDelivery s = .next (finish (deliver s))
    ∧ (deliverable s = none → exec .slotDelivery s = .next (finish s))
    ∧ (∀ x rest, s.liu.busy = x :: rest →
        x.state = .complete ∨ x.state = .partialLine ∨ x.state = .lost →
        (∀ y ∈ rest, y.state ≠ .assembling) →
        deliverable s = some x
        ∧ ((∀ y ∈ rest.head?, y.state = .filling) → (∀ y ∈ rest, y.index ≠ x.index) →
            let freed := s.setLiu
              { s.liu with busy := rest, freeOrder := s.liu.freeOrder ++ [x.index] }
            (s.cmu.engine = .standby → s.capture = none → exec .slotDelivery s = .next freed)
            ∧ (s.cmu.engine = .draining → exec .slotDelivery s = .next (finish freed))
            ∧ (s.cmu.engine = .sorting → s.tbs.swap = none → x.nosync = true →
                exec .slotDelivery s
                  = .next (finish (freed.setTbs { s.tbs with boundary := false })))
            ∧ (s.cmu.engine = .standby → exec .slotDelivery s = .next (captureSlot x freed))
            ∧ (s.cmu.engine = .sorting → x.nosync = true →
                exec .slotDelivery s = .next (finish (freeSlot x.index (lineBoundary s))))
            ∧ (s.cmu.engine = .sorting → x.nosync = false → x.state = .lost →
                exec .slotDelivery s
                  = .next (finish (freeSlot x.index
                      (applyLostLine (applyLostLines (min 3 x.lostBefore) (lineBoundary s)))))))
        ∧ (s.cmu.engine = .sorting → x.nosync = false → x.state ≠ .lost →
            exec .slotDelivery s = .next (finish (takeRow x (lineBoundary s))))
        ∧ (s.cmu.engine = .sorting → s.tbs.swap = none → x.nosync = false → x.state ≠ .lost →
            let row := classifyLine s.tbs.ccal s.tbs.activeBank x.samples
            ∃ t : State, exec .slotDelivery s = .next (finish t)
              ∧ t.liu =
                  { s.liu with
                    busy := s.liu.busy.map
                      (fun y => if y.index = x.index then { x with state := .assembling } else y) }
              ∧ t.oas =
                  { s.oas with
                    lineInAssembly :=
                      some
                        { slot := x.index
                          line := x.line
                          position := x.position
                          isPartial := decide (x.state = .partialLine)
                          lostBefore := x.lostBefore
                          generation := s.tbs.generation
                          classRow := row.map (fun c => c.code) } }
              ∧ t.cmu = s.cmu ∧ t.bpu = s.bpu ∧ t.vdu = s.vdu ∧ t.ejs = s.ejs ∧ t.vlc = s.vlc
              ∧ t.rpu.rq = s.rpu.rq
              ∧ (s.rpu.counters.length = 54 →
                  t.counter .badBlockPixels
                      = s.counter .badBlockPixels
                        + BitVec.ofNat 32 (row.countP (fun c => c.badBlock))
                    ∧ t.counter .nirOverrides
                        = s.counter .nirOverrides
                          + BitVec.ofNat 32 (row.countP (fun c => c.override)))))

/-- The class of a sample: channels corrected by dark offset and gain, the colour looked up, class 15 in
a BAD block, and the override outside the NIR band; a column not received is BACKGROUND. -/
def Obligations.PixelClass : Prop :=
  (∀ (c : ChannelCal) (v : Nat),
    c.correct v = if v < c.dark then 0 else min 255 ((v - c.dark) * c.gain / 256))
  ∧ (∀ (cal : ColumnCal) (bank : ProductBank), (classifyColumn cal bank none).code = 0)
  ∧ (∀ (ccal : List ColumnCal) (bank : ProductBank) (samples : List (Option Sample)) (x : Nat),
      (classifyLine ccal bank samples)[x]?
        = samples[x]?.map (fun p => classifyColumn (ccal.getD x ColumnCal.powerOn) bank p))
  ∧ (∀ (cal : ColumnCal) (bank : ProductBank) (p : Sample),
      let r := cal.r.correct p.r.toNat
      let g := cal.g.correct p.g.toNat
      let b := cal.b.correct p.b.toNat
      let n := cal.n.correct p.n.toNat
      let index := (r / 8) * 1024 + (g / 8) * 32 + b / 8
      let block := bank.block (index / 256)
      let v := block.codes.getD (index % 256) 0
      index < 32768
      ∧ (block.state = .bad →
          classifyColumn cal bank (some p) = { code := 15, badBlock := true, override := false })
      ∧ (∀ e, block.state ≠ .bad → bank.nbt[v.val]? = some e →
          (e.low ≤ n → n ≤ e.high →
            classifyColumn cal bank (some p) = { code := v, badBlock := false, override := false })
          ∧ (n < e.low ∨ e.high < n →
              classifyColumn cal bank (some p)
                = { code := e.override, badBlock := false, override := true })))

/-! ## Object assembly -/

/-- The runs of a class row are its maximal sequences of adjacent columns whose class is not 0, in
increasing column order, separated by a column of class 0, each with its pixels counted by class; a row
of width w holds at most (w + 1) div 2 of them. -/
def Obligations.RunsAreMaximal : Prop :=
  ∀ (first : Nat) (row : List ClassCode),
    (scanRuns first none row).Pairwise (fun a b => a.last + 1 < b.first)
    ∧ (scanRuns first none row).length ≤ (row.length + 1) / 2
    ∧ (∀ r ∈ scanRuns first none row, first ≤ r.first ∧ r.first ≤ r.last
        ∧ r.last < first + row.length
        ∧ r.pixels = r.last - r.first + 1
        ∧ ∀ k : ClassCode,
            r.classes[k.val]?
              = some (((row.drop (r.first - first)).take r.pixels).countP (fun x => decide (x = k))))
    ∧ ∀ i, i < row.length →
        (row[i]? ≠ some 0 ↔ ∃ r ∈ scanRuns first none row, r.first ≤ first + i ∧ first + i ≤ r.last)

/-- LINE_ASSEMBLY_COMPLETION and CLOSE_ALL. With no line in assembly, or no close-all request standing, they
change nothing (the model's choice, log 1); the request stands in closeAllDue (log 2). First whole lines: an
empty line closes every OPEN object and empties the PLR; one run on an empty table creates an object, one
that touches the only OPEN object extends it; CLOSE_ALL taken first abandons the line and closes every OPEN
object with LINE_LOSS. Then the stages in general: the lines lost before are applied, at most 3; a lost line
is bridged with GAP, and at a lost run of 3 closes every object with LINE_LOSS; the first 128 runs are
linked, the pixels of the others counted. A run's turn: it creates an object in the lowest FREE slot with
CONT if it touches a run labelled none, finds no slot (counted; under BLIND a blind
request for the valve range of EvaluationsComplete, or no valve),
extends the one object it touches, or merges those it touches into the one of earliest start line, their
labels changed with them. The end of the line: TRUNCATED with run overflow, the objects no run joined
close, those of max_object_lines close OVERSIZE and their runs become none. Closed objects join those to be
judged in ascending slot order. -/
def Obligations.LinesAreAssembled : Prop :=
  (∀ s : State, s.oas.lineInAssembly = none →
    exec .lineAssemblyCompletion s = .next (finish s))
  ∧ (∀ (l : LineInAssembly) (s : State), s.oas.lineInAssembly = some l → l.lostBefore = 0 →
      s.oas.oot.length = 96 → s.oas.closeAllDue = false → s.cmu.config.scrubInterval = 0 →
      let runs := scanRuns s.cmu.config.windowFirst none l.classRow
      ∃ t : State,
        exec .lineAssemblyCompletion s = .next (finish (deliver (freeSlot l.slot t)))
          ∧ t.oas.lineInAssembly = none ∧ t.oas.lostRun = 0
          ∧ t.bpu = s.bpu ∧ t.liu = s.liu ∧ t.tbs = s.tbs ∧ t.cmu = s.cmu ∧ t.vlc = s.vlc
          ∧ (s.rpu.counters.length = 54 →
              t.counter .linesAssembled = s.counter .linesAssembled + 1)
          ∧ (runs = [] → t.oas.openCount = 0 ∧ t.oas.plr = [])
          ∧ (∀ r, runs = [r] → s.oas.plr = [] → s.oas.oot = List.replicate 96 .free →
              2 ≤ s.cmu.config.maxObjectLines →
              t.oas.oot
                  = (List.replicate 96 OotSlot.free).set 0
                      (.opened
                        { number := s.oas.numberCounter
                          startLine := l.line
                          startPos := l.position
                          lastLine := l.line
                          lastPos := l.position
                          colMin := r.first
                          colMax := r.last
                          area := min 65535 r.pixels
                          histogram := r.classes
                          generation := l.generation
                          flags := { ObjectFlags.none with partialLine := l.isPartial } })
                ∧ t.oas.plr = [{ first := r.first, last := r.last, label := some 0 }]
                ∧ t.oas.numberCounter = s.oas.numberCounter + 1
                ∧ t.vdu = s.vdu)
          ∧ (∀ r p o i, runs = [r] → s.oas.plr = [p] → p.label = some i → i < 96 →
              s.oas.oot = (List.replicate 96 OotSlot.free).set i (.opened o) →
              p.first ≤ r.last + 1 → r.first ≤ p.last + 1 →
              (l.line - o.startLine).toNat + 1 < s.cmu.config.maxObjectLines →
              t.oas.oot
                  = (List.replicate 96 OotSlot.free).set i
                      (.opened
                        { o with
                          histogram := List.zipWith (fun a b => min 65535 (a + b)) o.histogram r.classes
                          area := min 65535 (o.area + r.pixels)
                          colMin := min o.colMin r.first
                          colMax := max o.colMax r.last
                          lastLine := l.line
                          lastPos := l.position
                          flags :=
                            { o.flags with
                              partialLine := o.flags.partialLine || l.isPartial
                              mixed := o.flags.mixed || decide (l.generation ≠ o.generation) } })
                ∧ t.oas.plr = [{ first := r.first, last := r.last, label := some i }]
                ∧ t.oas.numberCounter = s.oas.numberCounter ∧ t.vdu = s.vdu))
  ∧ (∀ s : State,
      (s.oas.closeAllDue = false → exec .closeAll s = .next (finish s))
      ∧ (s.oas.closeAllDue = true → s.oas.oot.length = 96 → s.cmu.engine = .sorting →
          s.cmu.causes = [] →
          ∃ u t : State, exec .closeAll s = .next t
            ∧ t = deliver u
            ∧ u.oas.openCount = 0 ∧ u.oas.plr = [] ∧ u.oas.lostRun = 0
            ∧ u.oas.lineInAssembly = none ∧ u.oas.closeAllDue = false
            ∧ u.oas.numberCounter = s.oas.numberCounter
            ∧ (s.closingLaw → u.toJudge = s.toJudge ++ s.oas.openObjects.map ObjectRecord.lineLost)
            ∧ u.liu = (match s.oas.lineInAssembly with
                | none => s.liu
                | some l => (freeSlot l.slot s).liu)))
  ∧ (∀ (l : LineInAssembly) (s : State), s.oas.lineInAssembly = some l →
      let u := assembleLine l (applyLostLines (min 3 l.lostBefore) s)
      exec .lineAssemblyCompletion s
        = .next (finish (deliver (freeSlot l.slot
            (takeCloseAll (u.setOas { u.oas with lineInAssembly := none }))))))
  ∧ (∀ s : State,
      (s.oas.lostRun < 2 →
        applyLostLine s
          = bump .linesBridged
              (s.setOas
                { s.oas with
                  lostRun := s.oas.lostRun + 1
                  oot := s.oas.oot.map (fun x =>
                    match x with
                    | .opened o => .opened { o with flags := { o.flags with gap := true } }
                    | _ => x) }))
      ∧ (2 ≤ s.oas.lostRun → s.oas.oot.length = 96 → s.closingLaw →
          let t := applyLostLine s
          t.toJudge = s.toJudge ++ s.oas.openObjects.map ObjectRecord.lineLost
            ∧ t.oas.openObjects = [] ∧ t.oas.plr = [] ∧ t.oas.lostRun = 3
            ∧ t.rpu = s.rpu ∧ t.oas.numberCounter = s.oas.numberCounter)
      ∧ applyLostLines 0 s = s
      ∧ ∀ n, applyLostLines (n + 1) s = applyLostLines n (applyLostLine s))
  ∧ (∀ (l : LineInAssembly) (s : State),
      let runs := scanRuns s.cmu.config.windowFirst none l.classRow
      let linked := linkRuns l (runs.take 128) [] false (s.setOas { s.oas with lostRun := 0 })
      assembleLine l s
        = scrubLine (bump .linesAssembled
            (endLine (decide (128 < runs.length)) linked.1
              (bumpBy .overflowPixels ((runs.drop 128).map Run.pixels).sum linked.2))))
  ∧ (∀ (r : Run) (s : State),
      (linkSet s r).Nodup
        ∧ ∀ i, i ∈ linkSet s r ↔
            (s.openObject i).isSome = true
              ∧ ∃ p ∈ s.oas.plr, p.label = some i ∧ p.first ≤ r.last + 1 ∧ r.first ≤ p.last + 1)
  ∧ (∀ (l : LineInAssembly) (r : Run) (rest : List Run) (done : List PlrRun) (full : Bool)
        (s : State),
      let c := s.cmu.config
      let run (label : Option Nat) : PlrRun := { first := r.first, last := r.last, label := label }
      (linkSet s r = [] →
        (∀ i, s.oas.oot.findIdx? OotSlot.isFree = some i →
          linkRuns l (r :: rest) done full s
            = linkRuns l rest (done ++ [run (some i)]) full
                (bump .objectsOpened
                  (s.setOas
                    { s.oas with
                      numberCounter := s.oas.numberCounter + 1
                      oot := s.oas.oot.set i
                        (.opened
                          { number := s.oas.numberCounter
                            startLine := l.line
                            startPos := l.position
                            lastLine := l.line
                            lastPos := l.position
                            colMin := r.first
                            colMax := r.last
                            area := min 65535 r.pixels
                            histogram := r.classes
                            generation := l.generation
                            flags :=
                              { ObjectFlags.none with
                                cont := s.oas.plr.any (fun p => r.touches p && p.label.isNone)
                                partialLine := l.isPartial } }) })))
        ∧ (s.oas.oot.findIdx? OotSlot.isFree = none →
            let counted := bumpBy .unassignedPixels r.pixels s
            let met := if full then counted else bump .ootFullEvents counted
            let goesOn (t : State) : Prop :=
              linkRuns l (r :: rest) done full s = linkRuns l rest (done ++ [run none]) true t
            (c.ootFullAction = .pass ∨ c.owns ((r.first + r.last) / 2) = false → goesOn met)
            ∧ (c.ootFullAction = .blind → c.owns ((r.first + r.last) / 2) = true →
                (valveRange c s.tbs.vmt r.first r.last = none → goesOn (bump .noValve met))
                ∧ (∀ v, valveRange c s.tbs.vmt r.first r.last = some v →
                    goesOn (bump .blindRequests (met.setEjs
                      { s.ejs with
                        oasRequests := s.ejs.oasRequests ++
                          [{ source := .blind
                             valveFirst := v.1
                             valveLast := v.2
                             openPos := l.position + counts c.flightOffset - counts c.preMargin
                               - counts s.lead
                             closePos := l.position + counts c.linePitch + counts c.flightOffset
                               + counts c.postMargin - counts s.lead }] }))))))
      ∧ (∀ i o, linkSet s r = [i] → s.openObject i = some o →
          linkRuns l (r :: rest) done full s
            = linkRuns l rest (done ++ [run (some i)]) full
                (s.setSlot i (.opened (o.extend l r))))
      ∧ (∀ i j more, linkSet s r = i :: j :: more →
          ∃ v ∈ linkSet s r,
            (∀ x ∈ linkSet s r, ∀ a o, s.openObject x = some a → s.openObject v = some o →
              ageAt l.line a.startLine < ageAt l.line o.startLine
                ∨ (ageAt l.line a.startLine = ageAt l.line o.startLine ∧ v ≤ x))
            ∧ let absorbed := (linkSet s r).filter (fun x => decide (x ≠ v))
              let folded := absorbed.foldl (fun u x => absorbSlot l.line v x u) s
              linkRuns l (r :: rest) done full s
                = linkRuns l rest
                    (absorbed.foldl (fun d x => relabel x v d) done ++ [run (some v)]) full
                    (extendSlot l r v (setMerged v folded))))
  ∧ (∀ (n : LineNo) (i j : Nat) (o a : ObjectRecord) (s : State),
      s.openObject i = some o → s.openObject j = some a → i ≠ j →
      absorbSlot n i j s
        = bump .objectsMerged
            (s.setOas
              { s.oas with
                plr := s.oas.plr.map (fun p =>
                  if p.label = some j then { p with label := some i } else p)
                oot := (s.oas.oot.set i
                  (.opened
                    { o with
                      histogram :=
                        List.zipWith (fun x y => min 65535 (x + y)) o.histogram a.histogram
                      area := min 65535 (o.area + a.area)
                      colMin := min o.colMin a.colMin
                      colMax := max o.colMax a.colMax
                      lastLine :=
                        if (n - a.lastLine).toNat < (n - o.lastLine).toNat then a.lastLine
                        else o.lastLine
                      lastPos :=
                        if (n - a.lastLine).toNat < (n - o.lastLine).toNat then a.lastPos
                        else o.lastPos
                      flags :=
                        { merged := o.flags.merged || a.flags.merged
                          mixed := o.flags.mixed || a.flags.mixed
                            || decide (a.generation ≠ o.generation)
                          truncated := o.flags.truncated || a.flags.truncated
                          oversize := o.flags.oversize || a.flags.oversize
                          cont := o.flags.cont || a.flags.cont
                          gap := o.flags.gap || a.flags.gap
                          partialLine := o.flags.partialLine || a.flags.partialLine
                          lineLoss := o.flags.lineLoss || a.flags.lineLoss } })).set j .free }))
  ∧ (∀ (overflow : Bool) (runs : List PlrRun) (s : State), s.oas.oot.length = 96 → s.closingLaw →
      let joined (i : Nat) : Bool := runs.any (fun p => decide (p.label = some i))
      let cut (o : ObjectRecord) : ObjectRecord :=
        { o with flags := { o.flags with truncated := o.flags.truncated || overflow } }
      let long (o : ObjectRecord) : Bool := decide (s.cmu.config.maxObjectLines ≤ o.length)
      let t := endLine overflow runs s
      (∀ i, t.openObject i =
        (s.openObject i).bind (fun o => if joined i && !long o then some (cut o) else none))
      ∧ t.toJudge = s.toJudge ++ (List.range 96).filterMap (fun i =>
          (s.openObject i).bind (fun o =>
            if joined i then
              (if long o then some { cut o with flags := { (cut o).flags with oversize := true } }
              else none)
            else some o))
      ∧ t.oas.plr = runs.map (fun p =>
          if (p.label.bind s.openObject).any long then { p with label := none } else p)
      ∧ t.oas.numberCounter = s.oas.numberCounter ∧ t.ejs = s.ejs ∧ t.tbs = s.tbs
      ∧ t.rpu = s.rpu)

/-! ## Verdict -/

/-- The closing order list's head moves into the VQ while that holds fewer than 16 objects, and the IDLE Verdict
Unit takes the VQ head. Where nothing can move or be taken the rows CLOSING_TO_VQ and VQ_TAKE change nothing
(the model's choice, log 1). The moves and takes made inside every other event (pump) keep the order of the
closed objects, and stop only when the closing order list is empty or the VQ full, with no head left to an
IDLE Verdict Unit. -/
def Obligations.ClosedObjectsReachTheVerdictUnit : Prop :=
  (∀ s : State,
    (∀ i rest o, s.oas.closingOrder = i :: rest → s.oas.oot.getD i .free = .closing o →
      s.vdu.vq.length < 16 →
      let moved := s.setOas
        { s.oas with closingOrder := rest, oot := s.oas.oot.set i .free }
      (s.vdu.evaluating.isSome = true →
        exec .closingToVq s
          = .next (finish (moved.setVdu { s.vdu with vq := s.vdu.vq ++ [o] })))
      ∧ (s.vdu.evaluating = none → s.vdu.vq = [] →
          exec .closingToVq s
            = .next (finish (moved.setVdu { vq := [], evaluating := some o }))))
    ∧ (s.oas.closingOrder = [] ∨ 16 ≤ s.vdu.vq.length → s.vdu.evaluating.isSome = true →
        exec .closingToVq s = .next (finish s))
    ∧ (∀ o rest, s.vdu.evaluating = none → s.vdu.vq = o :: rest → s.oas.closingOrder = [] →
        exec .vqTake s = .next (finish (s.setVdu { vq := rest, evaluating := some o })))
    ∧ (s.vdu.vq = [] ∨ s.vdu.evaluating.isSome = true → s.oas.closingOrder = [] →
        exec .vqTake s = .next (finish s))
    ∧ (∀ o rest, s.vdu.evaluating = none → s.vdu.vq = o :: rest →
        exec .vqTake s = .next (finish (pump (s.setVdu { vq := rest, evaluating := some o })))))
  ∧ (∀ s : State, s.closingLaw →
      let t := pump s
      t.toJudge = s.toJudge
        ∧ (t.oas.closingOrder = [] ∨ 16 ≤ t.vdu.vq.length)
        ∧ (t.vdu.evaluating = none → t.vdu.vq = [])
        ∧ t.oas.openObjects = s.oas.openObjects
        ∧ t = (s.setOas { s.oas with oot := t.oas.oot, closingOrder := t.oas.closingOrder }).setVdu
            t.vdu)

/-- A rule matches an object when it is enabled, the area lies in its limits, the measure of its mask is
at least its threshold, and its coincidence term is absent or satisfied. COUNT is the mask sum and SHARE
the mask sum in parts per thousand of the area, rounded down. A threshold of 0 is satisfied by every object,
a rule whose area_min exceeds its area_max matches none, and an empty mask, or one of class 0 alone, gives
0; an object the engine holds has an area above 0 and no pixel of class 0. -/
def Obligations.RuleMatches : Prop :=
  (∀ (r : Rule) (o : ObjectRecord),
    r.matches o = true ↔
      r.enabled = true ∧ r.areaMin ≤ o.area ∧ o.area ≤ r.areaMax
        ∧ r.threshold ≤ measureOf r.measure r.mask o
        ∧ ∀ k, r.coincidence = some k → k.threshold ≤ measureOf k.measure k.mask o)
  ∧ (∀ (mask : Word16) (o : ObjectRecord), o.histogram.length = 16 →
      let sum := ((List.finRange 16).map
        (fun c => if mask.getLsbD c.val then o.histogram.getD c.val 0 else 0)).sum
      measureOf .count mask o = sum ∧ measureOf .share mask o = 1000 * sum / o.area)
  ∧ (∀ (r : Rule) (o : ObjectRecord), r.areaMax < r.areaMin → r.matches o = false)
  ∧ (∀ (r : Rule) (o : ObjectRecord), r.threshold = 0 → r.coincidence = none → r.enabled = true →
      r.areaMin ≤ o.area → o.area ≤ r.areaMax → r.matches o = true)
  ∧ (∀ (s : State) (o : ObjectRecord) (m : Measure) (mask : Word16), s.recordLaw →
      s.vdu.evaluating = some o →
      o.area ≠ 0 ∧ (mask = 0 ∨ mask = 1 → measureOf m mask o = 0))

/-- EVALUATION_COMPLETION. The centre column decides ownership; then the first flag whose policy is
REJECT or ACCEPT; then the first matching rule; then the default action. The flags are taken in the order
LINE_LOSS, MIXED, TRUNCATED, OVERSIZE, PARTIAL, GAP, each with its own policy; one that is absent or whose
policy is EVALUATE decides nothing, and the first that decides is the deciding source. Each outcome has its
counter; a reject forms its window and valve range and is NO_VALVE, LATE or requested. The valve range over
columns of the window is the least and the greatest valve the VMT gives any of them, columns mapped to NONE
skipped, and absent if none has a valve. The object report that report_mode calls for (REJECTS: of a reject,
ALL: of every completion) is posted after it; and what waits is taken. A request stands in vduRequests until
EJECTION_REQUEST takes it, and with nothing under evaluation the row changes nothing (the model's choices,
log 2 and log 1). -/
def Obligations.EvaluationsComplete : Prop :=
  (∀ s : State, s.vdu.evaluating = none → exec .evaluationCompletion s = .next (finish s))
  ∧ (∀ (o : ObjectRecord) (s : State), s.vdu.evaluating = some o →
      let c := s.cmu.config
      let verdict := (judge c s.tbs.activeBank o).1
      let idle := s.setVdu { s.vdu with evaluating := none }
      let openPos := o.startPos + counts c.flightOffset - counts c.preMargin - counts s.lead
      let closePos := o.lastPos + counts c.linePitch + counts c.flightOffset + counts c.postMargin
        - counts s.lead
      let reported (result : EjectionResult) (valves : Option (Nat × Nat)) (t : State) : State :=
        if c.reportMode = .all ∨ (c.reportMode = .rejects ∧ verdict = .reject) then
          postReport
            { object := o
              verdict := verdict
              source := (judge c s.tbs.activeBank o).2
              generation := s.tbs.generation
              result := result
              window := if verdict = .reject then some (openPos, closePos) else none
              valves := valves
              travel := s.bpu.travel } t
        else t
      (verdict = .discarded →
        exec .evaluationCompletion s
          = .next (finish (pump (reported .none none (bump .objectsDiscarded idle)))))
      ∧ (verdict = .accept →
          exec .evaluationCompletion s
            = .next (finish (pump (reported .none none (bump .objectsAccepted idle)))))
      ∧ (verdict = .reject →
          (valveRange c s.tbs.vmt o.colMin o.colMax = none →
            exec .evaluationCompletion s
              = .next (finish (pump
                  (reported .noValve none (bump .noValve (bump .objectsRejected idle))))))
          ∧ (∀ v, valveRange c s.tbs.vmt o.colMin o.colMax = some v →
              (reached closePos s.bpu.travel = true →
                exec .evaluationCompletion s
                  = .next (finish (pump
                      (reported .late (some v)
                        (bump .ejectionsMissedLate (bump .objectsRejected idle))))))
              ∧ (reached closePos s.bpu.travel = false →
                  exec .evaluationCompletion s
                    = .next (finish (pump (reported .requested (some v)
                        ((bump .objectsRejected idle).setEjs
                          { s.ejs with
                            vduRequests := s.ejs.vduRequests ++
                              [{ source := .object o.number
                                 valveFirst := v.1
                                 valveLast := v.2
                                 openPos := openPos
                                 closePos := closePos }] }))))))))
  ∧ (∀ (c : Configuration) (bank : ProductBank) (o : ObjectRecord),
      let centre := (o.colMin + o.colMax) / 2
      (centre < c.ownFirst ∨ c.ownLast < centre →
        judge c bank o = (.discarded, .ownership))
      ∧ (c.ownFirst ≤ centre → centre ≤ c.ownLast →
          (∀ d, flagPolicies c o.flags = some d → judge c bank o = d)
          ∧ (flagPolicies c o.flags = none →
              (∀ n r, bank.rules[n]? = some r → r.matches o = true →
                (∀ k < n, ∀ q, bank.rules[k]? = some q → q.matches o = false) →
                judge c bank o = (r.action.verdict, .rule n))
              ∧ ((∀ r ∈ bank.rules, r.matches o = false) →
                  judge c bank o = (bank.default.verdict, .default)))))
  ∧ (∀ (c : Configuration) (f : ObjectFlags),
      let rows : List (Bool × Policy × PolicyFlag) :=
        [(f.lineLoss, c.policyLineLoss, .lineLoss), (f.mixed, c.policyMixed, .mixed),
          (f.truncated, c.policyTruncated, .truncated), (f.oversize, c.policyOversize, .oversize),
          (f.partialLine, c.policyPartial, .partialLine), (f.gap, c.policyGap, .gap)]
      flagPolicies c f
        = (rows.find? (fun x => x.1 && decide (x.2.1 ≠ .evaluate))).map (fun x =>
            (if x.2.1 = .reject then .reject else .accept, .flag x.2.2)))
  ∧ (∀ (c : Configuration) (vmt : List (Option Nat)) (first last : Nat), c.windowFirst ≤ first →
      let given (v : Nat) : Prop :=
        ∃ k, first ≤ k ∧ k ≤ last ∧ vmt[k - c.windowFirst]? = some (some v)
      (valveRange c vmt first last = none ↔ ∀ v, ¬ given v)
      ∧ ∀ low high, valveRange c vmt first last = some (low, high) ↔
          given low ∧ given high ∧ ∀ v, given v → low ≤ v ∧ v ≤ high)

/-! ## Ejection -/

/-- EJECTION_REQUEST: the four steps, of the first request of the named block that stands (the standing lists,
and the row changing nothing on an empty one, are the model's choice, log 2). A window already closed is
missed late; under REFUSE an overlap refuses; under MERGE the first overlapping record takes the request
in: an active one is widened, the counts of the valves it gains are raised, each raise of a TRIPPED or DISABLED
valve counted in valve_skipped, and the valves react; a queued one whose opening the request moves earlier is
placed again, LATE and tested at once if it is reached. Under SEPARATE, or with no overlap, a window not yet
open is placed in the Ejection Queue after every record of no greater open distance, or refused when it is
full, and an open one is activated LATE in the first free slot, its valves' counts raised and the valves
reacting, or waits in the queue while the Active Ejection List is full. The raise and the reaction are those of
OnTestAndHoldoffExpiry. A request and a record overlap when they share a valve and their windows, with a
reached position counted 0, share a position. -/
def Obligations.EjectionRequestsAreTaken : Prop :=
  (∀ s : State,
      (s.ejs.vduRequests = [] → exec (.ejectionRequest .verdictUnit) s = .next (finish s))
      ∧ (s.ejs.oasRequests = [] → exec (.ejectionRequest .objectAssembler) s = .next (finish s))
      ∧ (∀ q rest, s.ejs.vduRequests = q :: rest →
          let u := s.setEjs { s.ejs with vduRequests := rest }
          exec (.ejectionRequest .verdictUnit) s = .next (finish (requestEvent q u)))
      ∧ (∀ q rest, s.ejs.oasRequests = q :: rest →
          let u := s.setEjs { s.ejs with oasRequests := rest }
          exec (.ejectionRequest .objectAssembler) s = .next (finish (requestEvent q u)))
      ∧ (∀ q : EjectionRequest,
          let travel := s.bpu.travel
          let free := s.ejs.ael.any (overlapsSlot travel q) = false
            ∧ s.ejs.eq.any (overlaps travel q) = false
          (reached q.closePos travel = true → requestEvent q s = bump .ejectionsMissedLate s)
          ∧ (reached q.closePos travel = false → s.cmu.config.overlapPolicy = .refuse → ¬ free →
              requestEvent q s = bump .ejectionsRefusedOverlap s)
          ∧ (reached q.closePos travel = false → s.cmu.config.overlapPolicy = .separate ∨ free →
              (reached q.openPos travel = false → s.ejs.eq.length < 64 →
                requestEvent q s
                  = s.setEjs
                      { s.ejs with eq := placeRecord travel (q.record false) s.ejs.eq })
              ∧ (reached q.openPos travel = false → 64 ≤ s.ejs.eq.length →
                  requestEvent q s = bump .ejectionsRefusedFull s)
              ∧ (∀ i, reached q.openPos travel = true → freeIndex s.ejs.ael = some i →
                  requestEvent q s
                    = handOver s (bump .ejectionsLate (bump .ejectionsFired
                        (raiseCounts q.valveFirst q.valveLast
                          (s.setEjs
                            { s.ejs with ael := s.ejs.ael.set i (some (q.record true)) })))))
              ∧ (reached q.openPos travel = true → freeIndex s.ejs.ael = none →
                  s.ejs.eq.length < 64 →
                  requestEvent q s
                    = s.setEjs
                        { s.ejs with eq := placeRecord travel (q.record true) s.ejs.eq })
              ∧ (reached q.openPos travel = true → freeIndex s.ejs.ael = none →
                  64 ≤ s.ejs.eq.length →
                  requestEvent q s = bump .ejectionsRefusedFull s)))
      ∧ (∀ (travel : Position) (r : EjectionRecord) (l : List EjectionRecord),
          ∃ before after, l = before ++ after ∧ placeRecord travel r l = before ++ r :: after
            ∧ (∀ x ∈ before, x.openDistance travel ≤ r.openDistance travel)
            ∧ ∀ x ∈ after.head?, r.openDistance travel < x.openDistance travel))
  ∧ (∀ (travel : Position) (q : EjectionRequest) (r : EjectionRecord),
      overlaps travel q r = true ↔
        (q.valveFirst ≤ r.valveLast ∧ r.valveFirst ≤ q.valveLast)
          ∧ (waitDistance q.openPos travel ≤ waitDistance r.closePos travel
            ∧ waitDistance r.openPos travel ≤ waitDistance q.closePos travel))
  ∧ (∀ (q : EjectionRequest) (s : State), reached q.closePos s.bpu.travel = false →
      s.cmu.config.overlapPolicy = .merge →
      let travel := s.bpu.travel
      let folded (r : EjectionRecord) : EjectionRecord :=
        { r with
          closePos :=
            if waitDistance r.closePos travel < waitDistance q.closePos travel then q.closePos
            else r.closePos
          valveFirst := min r.valveFirst q.valveFirst
          valveLast := max r.valveLast q.valveLast
          mergedCount := min 255 (r.mergedCount + 1)
          merged := true
          blind := r.blind || decide (q.source = .blind) }
      (∀ i r, s.ejs.ael.findIdx? (overlapsSlot travel q) = some i → s.ejs.ael[i]? = some (some r) →
        r.valveFirst ≤ r.valveLast →
        ∃ t u : State, requestEvent q s = t ∧ t = handOver s u
          ∧ t.ejs = { s.ejs with ael := s.ejs.ael.set i (some (folded r)) }
          ∧ (∀ k < s.vlc.valves.length,
              (t.valve k).refCount
                  = (s.valve k).refCount
                    + (if ((folded r).valveFirst ≤ k ∧ k < r.valveFirst)
                        ∨ (r.valveLast < k ∧ k ≤ (folded r).valveLast) then 1 else 0)
                ∧ u.valve k = { s.valve k with refCount := (t.valve k).refCount })
          ∧ u.bpu = s.bpu ∧ u.vlc = { s.vlc with valves := u.vlc.valves }
          ∧ (s.rpu.counters.length = 54 → s.vlc.valves.length = 64 →
              t.counter .ejectionsMerged = s.counter .ejectionsMerged + 1
                ∧ t.counter .valveSkipped
                    = s.counter .valveSkipped
                      + BitVec.ofNat 32 ((List.range 64).countP (fun k =>
                          decide ((s.valve k).refCount < (u.valve k).refCount)
                            && (decide ((s.valve k).state = .tripped)
                              || decide ((s.valve k).state = .disabled .soft)
                              || decide ((s.valve k).state = .disabled .coil))))))
      ∧ (∀ k r, s.ejs.ael.findIdx? (overlapsSlot travel q) = none →
          s.ejs.eq.findIdx? (overlaps travel q) = some k → s.ejs.eq[k]? = some r →
          (waitDistance r.openPos travel ≤ waitDistance q.openPos travel →
            requestEvent q s
              = bump .ejectionsMerged
                  (s.setEjs { s.ejs with eq := s.ejs.eq.set k (folded r) }))
          ∧ (waitDistance q.openPos travel < waitDistance r.openPos travel →
              reached q.openPos travel = false →
              requestEvent q s
                = bump .ejectionsMerged
                    (s.setEjs
                      { s.ejs with
                        eq := placeRecord travel { folded r with openPos := q.openPos }
                          (s.ejs.eq.eraseIdx k) }))
          ∧ (waitDistance q.openPos travel < waitDistance r.openPos travel →
              reached q.openPos travel = true →
              requestEvent q s
                = handOver s (testHead (bump .ejectionsMerged
                    (s.setEjs
                      { s.ejs with
                        eq := placeRecord travel
                          { folded r with openPos := q.openPos, late := true }
                          (s.ejs.eq.eraseIdx k) }))))))

/-- An advance closes and activates: the Active Ejection List loses the records whose close position is
reached and their valves' counts fall; then the activation test (testHead) is applied to the Ejection Queue
head, and again to each new head. A head whose open position is not reached ends it; one whose close position
is reached as well is dropped and counted in ejections_missed_ael_full; one that finds a free slot moves into
the first, its valves' counts rise and it is counted in ejections_fired, and in ejections_late if it carries
LATE; one that finds none waits, counted once in ael_waits, and ends it. Stated of an advance that raises no
fault: nothing stands, the index check is disarmed and the sync state is LOCKED. The edge is accepted of a
change being timed, whatever time is left (the model's choice, log 3). -/
def Obligations.AdvanceClosesAndActivates : Prop :=
  (∀ (acc : Accepted) (s : State), s.bpu.timed acc →
    acc.pairAfter s.bpu = nextForward s.bpu.pair → s.bpu.debt = 0 →
    s.atRest → s.bpu.armed = false → s.liu.sync = .locked → s.ejs.ael.length = 16 →
    s.vlc.valves.length = 64 →
    let travel := s.bpu.travel + 1
    let closes (x : Option EjectionRecord) : Bool :=
      match x with
      | some r => reached r.closePos travel
      | none => false
    let kept := s.ejs.ael.map (fun x => if closes x then none else x)
    let closing (i : Nat) : Nat :=
      s.ejs.ael.countP (fun x =>
        match x with
        | some r => closes x && decide (r.valveFirst ≤ i) && decide (i ≤ r.valveLast)
        | none => false)
    (∃ v : State, exec (.encoderEdgeAccepted acc) s = .next (finish (handOver s (testHead v)))
      ∧ v.ejs = { s.ejs with ael := kept } ∧ v.bpu.travel = travel
      ∧ ∀ i < 64, (v.valve i).refCount = (s.valve i).refCount - closing i)
    ∧ ((∀ r ∈ s.ejs.eq.head?, reached r.openPos travel = false) →
      ∃ t : State, exec (.encoderEdgeAccepted acc) s = .next t
        ∧ t.ejs = { s.ejs with ael := kept }
        ∧ ∀ i < 64, (t.valve i).refCount = (s.valve i).refCount - closing i)
    ∧ (∀ r rest i, s.ejs.eq = r :: rest → reached r.openPos travel = true →
        reached r.closePos travel = false → freeIndex kept = some i →
        (∀ q ∈ rest.head?, reached q.openPos travel = false) →
        ∃ t : State, exec (.encoderEdgeAccepted acc) s = .next t
          ∧ t.ejs = { s.ejs with eq := rest, ael := kept.set i (some r) }
          ∧ (∀ k < 64, (t.valve k).refCount
              = (s.valve k).refCount - closing k
                + (if r.valveFirst ≤ k ∧ k ≤ r.valveLast then 1 else 0))
          ∧ (s.rpu.counters.length = 54 →
              t.counter .ejectionsFired = s.counter .ejectionsFired + 1
                ∧ t.counter .ejectionsLate
                    = s.counter .ejectionsLate + (if r.late then 1 else 0)))
    ∧ (∀ r rest, s.ejs.eq = r :: rest → reached r.openPos travel = true →
        reached r.closePos travel = false → freeIndex kept = none →
        ∃ t : State, exec (.encoderEdgeAccepted acc) s = .next t
          ∧ t.ejs = { s.ejs with eq := { r with waited := true } :: rest, ael := kept }
          ∧ (s.rpu.counters.length = 54 →
              t.counter .aelWaits = s.counter .aelWaits + (if r.waited then 0 else 1)))
    ∧ (∀ r rest, s.ejs.eq = r :: rest → reached r.openPos travel = true →
        reached r.closePos travel = true →
        (∀ q ∈ rest.head?, reached q.openPos travel = false) →
        ∃ t : State, exec (.encoderEdgeAccepted acc) s = .next t
          ∧ t.ejs = { s.ejs with eq := rest, ael := kept }
          ∧ (∀ i < 64, (t.valve i).refCount = (s.valve i).refCount - closing i)
          ∧ (s.rpu.counters.length = 54 →
              t.counter .ejectionsMissedAelFull = s.counter .ejectionsMissedAelFull + 1
                ∧ t.counter .ejectionsFired = s.counter .ejectionsFired)))
  ∧ (∀ s : State,
      let travel := s.bpu.travel
      (s.ejs.eq = [] → testHead s = s)
      ∧ (∀ r rest, s.ejs.eq = r :: rest → reached r.openPos travel = false → testHead s = s)
      ∧ (∀ r rest, s.ejs.eq = r :: rest → reached r.openPos travel = true →
          let left := s.setEjs { s.ejs with eq := rest }
          (reached r.closePos travel = true →
            testHead s = testHead (bump .ejectionsMissedAelFull left))
          ∧ (∀ i, reached r.closePos travel = false → freeIndex s.ejs.ael = some i →
              let fired := bump .ejectionsFired (raiseCounts r.valveFirst r.valveLast
                (s.setEjs { s.ejs with eq := rest, ael := s.ejs.ael.set i (some r) }))
              testHead s = testHead (if r.late then bump .ejectionsLate fired else fired))
          ∧ (reached r.closePos travel = false → freeIndex s.ejs.ael = none →
              testHead s
                = (if r.waited then s
                  else bump .aelWaits
                    (s.setEjs { s.ejs with eq := { r with waited := true } :: rest })))))

/-! ## Encodings -/

/-- The 47 bytes of a configuration record give the record back, for every record whose parameters lie in
their ranges, and pass the range tests. -/
def Obligations.ConfigurationBytesRoundTrip : Prop :=
  ∀ c : Configuration, c.inRange = true →
    c.bytes.length = 47 ∧ Configuration.ofBytes c.bytes = c
      ∧ firstFailing (configurationTests c.bytes) = none

/-- The bytes of a frame, with its length field and its CRC, are received as that frame, for every frame
whose payload fits the envelope. -/
def Obligations.FrameBytesRoundTrip : Prop :=
  ∀ f : Frame, f.payload.length ≤ maxPayload → receiveBytes f.bytes = some f

/-! ## Laws of the device -/

/-- The power-on reset state meets every law: the numbering (09, section 9.1), the debt's bound (R6), the
objects (R196), their records (R61), the closing order list (R71) and the PLR (R63), the Report Queue (R192),
the executing command (R165, R171), the valves (R122) and their counts (R126), the banks (R158), the ring
(R21), the queues' bounds and order (R83, R101) and the table lengths. -/
def Obligations.ResetMeetsTheLaws : Prop :=
  State.reset.numberedLaw ∧ State.reset.debtLaw ∧ State.reset.objectLaw ∧ State.reset.queueLaw
    ∧ State.reset.executingLaw ∧ State.reset.valveLaw ∧ State.reset.ringLaw
    ∧ State.reset.queueBounds ∧ State.reset.shaped ∧ State.reset.recordLaw
    ∧ State.reset.closingLaw ∧ State.reset.plrLaw ∧ State.reset.coverLaw ∧ State.reset.bankLaw
    ∧ State.reset.orderLaw

/-- Every step keeps the laws of the objects: objects_opened equals the sum of the objects judged,
discarded, abandoned, merged and in flight; every object in flight holds a pixel and none of class 0; the
closing order list holds every CLOSING slot once; and the PLR holds at most 128 runs in column order, each
labelled with an OPEN slot or none. -/
def Obligations.StepKeepsTheObjectLaw : Prop :=
  (∀ s t : State, s.objectLaw → step s = .next t → t.objectLaw)
    ∧ (∀ s t : State, s.recordLaw → step s = .next t → t.recordLaw)
    ∧ (∀ s t : State, s.closingLaw → step s = .next t → t.closingLaw)
    ∧ (∀ s t : State, s.plrLaw → step s = .next t → t.plrLaw)

/-- Every step keeps the Report Queue's law, which bounds it: with it, the queue holds at most 32 frames,
of which at most 26 are object reports. -/
def Obligations.StepKeepsTheReportQueueLaw : Prop :=
  (∀ s t : State, s.queueLaw → step s = .next t → t.queueLaw)
    ∧ ∀ s : State, s.queueLaw → s.rpu.rq.length ≤ 32 ∧ s.rpu.objectReports ≤ 26

/-- Every step keeps these laws: what a sequenced command works on belongs to the executing command, and a
valve is ON only with a count above 0 on a MOVING belt or under test; each valve's reference count is the
number of AEL records that cover it; and, with the executing command's law, no block of the active bank is
UNWRITTEN in SORTING or DRAINING. -/
def Obligations.StepKeepsTheValveLaw : Prop :=
  (∀ s t : State, s.executingLaw → s.valveLaw → step s = .next t → t.executingLaw ∧ t.valveLaw)
    ∧ (∀ s t : State, s.coverLaw → step s = .next t → t.coverLaw)
    ∧ (∀ s t : State, s.executingLaw → s.bankLaw → step s = .next t → t.bankLaw)

/-- Every step conserves the eight ring slots. -/
def Obligations.StepConservesTheRing : Prop :=
  ∀ s t : State, s.ringLaw → step s = .next t → t.ringLaw

/-- Every step keeps the numbering, the bound of the reverse debt, the bounds of the queues and the
lengths of the tables. It keeps the Ejection Queue in ascending open distance, unless a queued record's
open position was reached 2^23 - 1 counts back, which the next advance would read as not reached (R1). -/
def Obligations.StepKeepsTheBounds : Prop :=
  (∀ s t : State, s.numberedLaw → step s = .next t → t.numberedLaw)
    ∧ (∀ s t : State, s.debtLaw → step s = .next t → t.debtLaw)
    ∧ (∀ s t : State, s.queueBounds → step s = .next t → t.queueBounds)
    ∧ (∀ s t : State, s.shaped → step s = .next t → t.shaped)
    ∧ (∀ s t : State, s.orderLaw →
        (∀ r ∈ s.ejs.eq, distanceAhead r.openPos s.bpu.travel ≠ 2 ^ 23 + 1) →
        step s = .next t → t.orderLaw)
end

