-- ==== Sys2Proof/Laws/State.lean ====
section
/-! SUPPORT. One lemma per field of State per update of State, each true by computation. -/

namespace Sys2Proof.Machine

@[simp] theorem State.setTimeBase_timeBase (s : State) (x : Nat) : (s.setTimeBase x).timeBase = x := rfl
@[simp] theorem State.setTimeBase_bpu (s : State) (x : Nat) : (s.setTimeBase x).bpu = s.bpu := rfl
@[simp] theorem State.setTimeBase_liu (s : State) (x : Nat) : (s.setTimeBase x).liu = s.liu := rfl
@[simp] theorem State.setTimeBase_capture (s : State) (x : Nat) : (s.setTimeBase x).capture = s.capture := rfl
@[simp] theorem State.setTimeBase_oas (s : State) (x : Nat) : (s.setTimeBase x).oas = s.oas := rfl
@[simp] theorem State.setTimeBase_vdu (s : State) (x : Nat) : (s.setTimeBase x).vdu = s.vdu := rfl
@[simp] theorem State.setTimeBase_ejs (s : State) (x : Nat) : (s.setTimeBase x).ejs = s.ejs := rfl
@[simp] theorem State.setTimeBase_vlc (s : State) (x : Nat) : (s.setTimeBase x).vlc = s.vlc := rfl
@[simp] theorem State.setTimeBase_tbs (s : State) (x : Nat) : (s.setTimeBase x).tbs = s.tbs := rfl
@[simp] theorem State.setTimeBase_cmu (s : State) (x : Nat) : (s.setTimeBase x).cmu = s.cmu := rfl
@[simp] theorem State.setTimeBase_lki (s : State) (x : Nat) : (s.setTimeBase x).lki = s.lki := rfl
@[simp] theorem State.setTimeBase_rpu (s : State) (x : Nat) : (s.setTimeBase x).rpu = s.rpu := rfl
@[simp] theorem State.setTimeBase_pending (s : State) (x : Nat) : (s.setTimeBase x).pending = s.pending := rfl

@[simp] theorem State.setBpu_timeBase (s : State) (x : Bpu) : (s.setBpu x).timeBase = s.timeBase := rfl
@[simp] theorem State.setBpu_bpu (s : State) (x : Bpu) : (s.setBpu x).bpu = x := rfl
@[simp] theorem State.setBpu_liu (s : State) (x : Bpu) : (s.setBpu x).liu = s.liu := rfl
@[simp] theorem State.setBpu_capture (s : State) (x : Bpu) : (s.setBpu x).capture = s.capture := rfl
@[simp] theorem State.setBpu_oas (s : State) (x : Bpu) : (s.setBpu x).oas = s.oas := rfl
@[simp] theorem State.setBpu_vdu (s : State) (x : Bpu) : (s.setBpu x).vdu = s.vdu := rfl
@[simp] theorem State.setBpu_ejs (s : State) (x : Bpu) : (s.setBpu x).ejs = s.ejs := rfl
@[simp] theorem State.setBpu_vlc (s : State) (x : Bpu) : (s.setBpu x).vlc = s.vlc := rfl
@[simp] theorem State.setBpu_tbs (s : State) (x : Bpu) : (s.setBpu x).tbs = s.tbs := rfl
@[simp] theorem State.setBpu_cmu (s : State) (x : Bpu) : (s.setBpu x).cmu = s.cmu := rfl
@[simp] theorem State.setBpu_lki (s : State) (x : Bpu) : (s.setBpu x).lki = s.lki := rfl
@[simp] theorem State.setBpu_rpu (s : State) (x : Bpu) : (s.setBpu x).rpu = s.rpu := rfl
@[simp] theorem State.setBpu_pending (s : State) (x : Bpu) : (s.setBpu x).pending = s.pending := rfl

@[simp] theorem State.setLiu_timeBase (s : State) (x : Liu) : (s.setLiu x).timeBase = s.timeBase := rfl
@[simp] theorem State.setLiu_bpu (s : State) (x : Liu) : (s.setLiu x).bpu = s.bpu := rfl
@[simp] theorem State.setLiu_liu (s : State) (x : Liu) : (s.setLiu x).liu = x := rfl
@[simp] theorem State.setLiu_capture (s : State) (x : Liu) : (s.setLiu x).capture = s.capture := rfl
@[simp] theorem State.setLiu_oas (s : State) (x : Liu) : (s.setLiu x).oas = s.oas := rfl
@[simp] theorem State.setLiu_vdu (s : State) (x : Liu) : (s.setLiu x).vdu = s.vdu := rfl
@[simp] theorem State.setLiu_ejs (s : State) (x : Liu) : (s.setLiu x).ejs = s.ejs := rfl
@[simp] theorem State.setLiu_vlc (s : State) (x : Liu) : (s.setLiu x).vlc = s.vlc := rfl
@[simp] theorem State.setLiu_tbs (s : State) (x : Liu) : (s.setLiu x).tbs = s.tbs := rfl
@[simp] theorem State.setLiu_cmu (s : State) (x : Liu) : (s.setLiu x).cmu = s.cmu := rfl
@[simp] theorem State.setLiu_lki (s : State) (x : Liu) : (s.setLiu x).lki = s.lki := rfl
@[simp] theorem State.setLiu_rpu (s : State) (x : Liu) : (s.setLiu x).rpu = s.rpu := rfl
@[simp] theorem State.setLiu_pending (s : State) (x : Liu) : (s.setLiu x).pending = s.pending := rfl

@[simp] theorem State.setCapture_timeBase (s : State) (x : Option Capture) : (s.setCapture x).timeBase = s.timeBase := rfl
@[simp] theorem State.setCapture_bpu (s : State) (x : Option Capture) : (s.setCapture x).bpu = s.bpu := rfl
@[simp] theorem State.setCapture_liu (s : State) (x : Option Capture) : (s.setCapture x).liu = s.liu := rfl
@[simp] theorem State.setCapture_capture (s : State) (x : Option Capture) : (s.setCapture x).capture = x := rfl
@[simp] theorem State.setCapture_oas (s : State) (x : Option Capture) : (s.setCapture x).oas = s.oas := rfl
@[simp] theorem State.setCapture_vdu (s : State) (x : Option Capture) : (s.setCapture x).vdu = s.vdu := rfl
@[simp] theorem State.setCapture_ejs (s : State) (x : Option Capture) : (s.setCapture x).ejs = s.ejs := rfl
@[simp] theorem State.setCapture_vlc (s : State) (x : Option Capture) : (s.setCapture x).vlc = s.vlc := rfl
@[simp] theorem State.setCapture_tbs (s : State) (x : Option Capture) : (s.setCapture x).tbs = s.tbs := rfl
@[simp] theorem State.setCapture_cmu (s : State) (x : Option Capture) : (s.setCapture x).cmu = s.cmu := rfl
@[simp] theorem State.setCapture_lki (s : State) (x : Option Capture) : (s.setCapture x).lki = s.lki := rfl
@[simp] theorem State.setCapture_rpu (s : State) (x : Option Capture) : (s.setCapture x).rpu = s.rpu := rfl
@[simp] theorem State.setCapture_pending (s : State) (x : Option Capture) : (s.setCapture x).pending = s.pending := rfl

@[simp] theorem State.setOas_timeBase (s : State) (x : Oas) : (s.setOas x).timeBase = s.timeBase := rfl
@[simp] theorem State.setOas_bpu (s : State) (x : Oas) : (s.setOas x).bpu = s.bpu := rfl
@[simp] theorem State.setOas_liu (s : State) (x : Oas) : (s.setOas x).liu = s.liu := rfl
@[simp] theorem State.setOas_capture (s : State) (x : Oas) : (s.setOas x).capture = s.capture := rfl
@[simp] theorem State.setOas_oas (s : State) (x : Oas) : (s.setOas x).oas = x := rfl
@[simp] theorem State.setOas_vdu (s : State) (x : Oas) : (s.setOas x).vdu = s.vdu := rfl
@[simp] theorem State.setOas_ejs (s : State) (x : Oas) : (s.setOas x).ejs = s.ejs := rfl
@[simp] theorem State.setOas_vlc (s : State) (x : Oas) : (s.setOas x).vlc = s.vlc := rfl
@[simp] theorem State.setOas_tbs (s : State) (x : Oas) : (s.setOas x).tbs = s.tbs := rfl
@[simp] theorem State.setOas_cmu (s : State) (x : Oas) : (s.setOas x).cmu = s.cmu := rfl
@[simp] theorem State.setOas_lki (s : State) (x : Oas) : (s.setOas x).lki = s.lki := rfl
@[simp] theorem State.setOas_rpu (s : State) (x : Oas) : (s.setOas x).rpu = s.rpu := rfl
@[simp] theorem State.setOas_pending (s : State) (x : Oas) : (s.setOas x).pending = s.pending := rfl

@[simp] theorem State.setVdu_timeBase (s : State) (x : Vdu) : (s.setVdu x).timeBase = s.timeBase := rfl
@[simp] theorem State.setVdu_bpu (s : State) (x : Vdu) : (s.setVdu x).bpu = s.bpu := rfl
@[simp] theorem State.setVdu_liu (s : State) (x : Vdu) : (s.setVdu x).liu = s.liu := rfl
@[simp] theorem State.setVdu_capture (s : State) (x : Vdu) : (s.setVdu x).capture = s.capture := rfl
@[simp] theorem State.setVdu_oas (s : State) (x : Vdu) : (s.setVdu x).oas = s.oas := rfl
@[simp] theorem State.setVdu_vdu (s : State) (x : Vdu) : (s.setVdu x).vdu = x := rfl
@[simp] theorem State.setVdu_ejs (s : State) (x : Vdu) : (s.setVdu x).ejs = s.ejs := rfl
@[simp] theorem State.setVdu_vlc (s : State) (x : Vdu) : (s.setVdu x).vlc = s.vlc := rfl
@[simp] theorem State.setVdu_tbs (s : State) (x : Vdu) : (s.setVdu x).tbs = s.tbs := rfl
@[simp] theorem State.setVdu_cmu (s : State) (x : Vdu) : (s.setVdu x).cmu = s.cmu := rfl
@[simp] theorem State.setVdu_lki (s : State) (x : Vdu) : (s.setVdu x).lki = s.lki := rfl
@[simp] theorem State.setVdu_rpu (s : State) (x : Vdu) : (s.setVdu x).rpu = s.rpu := rfl
@[simp] theorem State.setVdu_pending (s : State) (x : Vdu) : (s.setVdu x).pending = s.pending := rfl

@[simp] theorem State.setEjs_timeBase (s : State) (x : Ejs) : (s.setEjs x).timeBase = s.timeBase := rfl
@[simp] theorem State.setEjs_bpu (s : State) (x : Ejs) : (s.setEjs x).bpu = s.bpu := rfl
@[simp] theorem State.setEjs_liu (s : State) (x : Ejs) : (s.setEjs x).liu = s.liu := rfl
@[simp] theorem State.setEjs_capture (s : State) (x : Ejs) : (s.setEjs x).capture = s.capture := rfl
@[simp] theorem State.setEjs_oas (s : State) (x : Ejs) : (s.setEjs x).oas = s.oas := rfl
@[simp] theorem State.setEjs_vdu (s : State) (x : Ejs) : (s.setEjs x).vdu = s.vdu := rfl
@[simp] theorem State.setEjs_ejs (s : State) (x : Ejs) : (s.setEjs x).ejs = x := rfl
@[simp] theorem State.setEjs_vlc (s : State) (x : Ejs) : (s.setEjs x).vlc = s.vlc := rfl
@[simp] theorem State.setEjs_tbs (s : State) (x : Ejs) : (s.setEjs x).tbs = s.tbs := rfl
@[simp] theorem State.setEjs_cmu (s : State) (x : Ejs) : (s.setEjs x).cmu = s.cmu := rfl
@[simp] theorem State.setEjs_lki (s : State) (x : Ejs) : (s.setEjs x).lki = s.lki := rfl
@[simp] theorem State.setEjs_rpu (s : State) (x : Ejs) : (s.setEjs x).rpu = s.rpu := rfl
@[simp] theorem State.setEjs_pending (s : State) (x : Ejs) : (s.setEjs x).pending = s.pending := rfl

@[simp] theorem State.setVlc_timeBase (s : State) (x : Vlc) : (s.setVlc x).timeBase = s.timeBase := rfl
@[simp] theorem State.setVlc_bpu (s : State) (x : Vlc) : (s.setVlc x).bpu = s.bpu := rfl
@[simp] theorem State.setVlc_liu (s : State) (x : Vlc) : (s.setVlc x).liu = s.liu := rfl
@[simp] theorem State.setVlc_capture (s : State) (x : Vlc) : (s.setVlc x).capture = s.capture := rfl
@[simp] theorem State.setVlc_oas (s : State) (x : Vlc) : (s.setVlc x).oas = s.oas := rfl
@[simp] theorem State.setVlc_vdu (s : State) (x : Vlc) : (s.setVlc x).vdu = s.vdu := rfl
@[simp] theorem State.setVlc_ejs (s : State) (x : Vlc) : (s.setVlc x).ejs = s.ejs := rfl
@[simp] theorem State.setVlc_vlc (s : State) (x : Vlc) : (s.setVlc x).vlc = x := rfl
@[simp] theorem State.setVlc_tbs (s : State) (x : Vlc) : (s.setVlc x).tbs = s.tbs := rfl
@[simp] theorem State.setVlc_cmu (s : State) (x : Vlc) : (s.setVlc x).cmu = s.cmu := rfl
@[simp] theorem State.setVlc_lki (s : State) (x : Vlc) : (s.setVlc x).lki = s.lki := rfl
@[simp] theorem State.setVlc_rpu (s : State) (x : Vlc) : (s.setVlc x).rpu = s.rpu := rfl
@[simp] theorem State.setVlc_pending (s : State) (x : Vlc) : (s.setVlc x).pending = s.pending := rfl

@[simp] theorem State.setTbs_timeBase (s : State) (x : Tbs) : (s.setTbs x).timeBase = s.timeBase := rfl
@[simp] theorem State.setTbs_bpu (s : State) (x : Tbs) : (s.setTbs x).bpu = s.bpu := rfl
@[simp] theorem State.setTbs_liu (s : State) (x : Tbs) : (s.setTbs x).liu = s.liu := rfl
@[simp] theorem State.setTbs_capture (s : State) (x : Tbs) : (s.setTbs x).capture = s.capture := rfl
@[simp] theorem State.setTbs_oas (s : State) (x : Tbs) : (s.setTbs x).oas = s.oas := rfl
@[simp] theorem State.setTbs_vdu (s : State) (x : Tbs) : (s.setTbs x).vdu = s.vdu := rfl
@[simp] theorem State.setTbs_ejs (s : State) (x : Tbs) : (s.setTbs x).ejs = s.ejs := rfl
@[simp] theorem State.setTbs_vlc (s : State) (x : Tbs) : (s.setTbs x).vlc = s.vlc := rfl
@[simp] theorem State.setTbs_tbs (s : State) (x : Tbs) : (s.setTbs x).tbs = x := rfl
@[simp] theorem State.setTbs_cmu (s : State) (x : Tbs) : (s.setTbs x).cmu = s.cmu := rfl
@[simp] theorem State.setTbs_lki (s : State) (x : Tbs) : (s.setTbs x).lki = s.lki := rfl
@[simp] theorem State.setTbs_rpu (s : State) (x : Tbs) : (s.setTbs x).rpu = s.rpu := rfl
@[simp] theorem State.setTbs_pending (s : State) (x : Tbs) : (s.setTbs x).pending = s.pending := rfl

@[simp] theorem State.setCmu_timeBase (s : State) (x : Cmu) : (s.setCmu x).timeBase = s.timeBase := rfl
@[simp] theorem State.setCmu_bpu (s : State) (x : Cmu) : (s.setCmu x).bpu = s.bpu := rfl
@[simp] theorem State.setCmu_liu (s : State) (x : Cmu) : (s.setCmu x).liu = s.liu := rfl
@[simp] theorem State.setCmu_capture (s : State) (x : Cmu) : (s.setCmu x).capture = s.capture := rfl
@[simp] theorem State.setCmu_oas (s : State) (x : Cmu) : (s.setCmu x).oas = s.oas := rfl
@[simp] theorem State.setCmu_vdu (s : State) (x : Cmu) : (s.setCmu x).vdu = s.vdu := rfl
@[simp] theorem State.setCmu_ejs (s : State) (x : Cmu) : (s.setCmu x).ejs = s.ejs := rfl
@[simp] theorem State.setCmu_vlc (s : State) (x : Cmu) : (s.setCmu x).vlc = s.vlc := rfl
@[simp] theorem State.setCmu_tbs (s : State) (x : Cmu) : (s.setCmu x).tbs = s.tbs := rfl
@[simp] theorem State.setCmu_cmu (s : State) (x : Cmu) : (s.setCmu x).cmu = x := rfl
@[simp] theorem State.setCmu_lki (s : State) (x : Cmu) : (s.setCmu x).lki = s.lki := rfl
@[simp] theorem State.setCmu_rpu (s : State) (x : Cmu) : (s.setCmu x).rpu = s.rpu := rfl
@[simp] theorem State.setCmu_pending (s : State) (x : Cmu) : (s.setCmu x).pending = s.pending := rfl

@[simp] theorem State.setLki_timeBase (s : State) (x : Lki) : (s.setLki x).timeBase = s.timeBase := rfl
@[simp] theorem State.setLki_bpu (s : State) (x : Lki) : (s.setLki x).bpu = s.bpu := rfl
@[simp] theorem State.setLki_liu (s : State) (x : Lki) : (s.setLki x).liu = s.liu := rfl
@[simp] theorem State.setLki_capture (s : State) (x : Lki) : (s.setLki x).capture = s.capture := rfl
@[simp] theorem State.setLki_oas (s : State) (x : Lki) : (s.setLki x).oas = s.oas := rfl
@[simp] theorem State.setLki_vdu (s : State) (x : Lki) : (s.setLki x).vdu = s.vdu := rfl
@[simp] theorem State.setLki_ejs (s : State) (x : Lki) : (s.setLki x).ejs = s.ejs := rfl
@[simp] theorem State.setLki_vlc (s : State) (x : Lki) : (s.setLki x).vlc = s.vlc := rfl
@[simp] theorem State.setLki_tbs (s : State) (x : Lki) : (s.setLki x).tbs = s.tbs := rfl
@[simp] theorem State.setLki_cmu (s : State) (x : Lki) : (s.setLki x).cmu = s.cmu := rfl
@[simp] theorem State.setLki_lki (s : State) (x : Lki) : (s.setLki x).lki = x := rfl
@[simp] theorem State.setLki_rpu (s : State) (x : Lki) : (s.setLki x).rpu = s.rpu := rfl
@[simp] theorem State.setLki_pending (s : State) (x : Lki) : (s.setLki x).pending = s.pending := rfl

@[simp] theorem State.setRpu_timeBase (s : State) (x : Rpu) : (s.setRpu x).timeBase = s.timeBase := rfl
@[simp] theorem State.setRpu_bpu (s : State) (x : Rpu) : (s.setRpu x).bpu = s.bpu := rfl
@[simp] theorem State.setRpu_liu (s : State) (x : Rpu) : (s.setRpu x).liu = s.liu := rfl
@[simp] theorem State.setRpu_capture (s : State) (x : Rpu) : (s.setRpu x).capture = s.capture := rfl
@[simp] theorem State.setRpu_oas (s : State) (x : Rpu) : (s.setRpu x).oas = s.oas := rfl
@[simp] theorem State.setRpu_vdu (s : State) (x : Rpu) : (s.setRpu x).vdu = s.vdu := rfl
@[simp] theorem State.setRpu_ejs (s : State) (x : Rpu) : (s.setRpu x).ejs = s.ejs := rfl
@[simp] theorem State.setRpu_vlc (s : State) (x : Rpu) : (s.setRpu x).vlc = s.vlc := rfl
@[simp] theorem State.setRpu_tbs (s : State) (x : Rpu) : (s.setRpu x).tbs = s.tbs := rfl
@[simp] theorem State.setRpu_cmu (s : State) (x : Rpu) : (s.setRpu x).cmu = s.cmu := rfl
@[simp] theorem State.setRpu_lki (s : State) (x : Rpu) : (s.setRpu x).lki = s.lki := rfl
@[simp] theorem State.setRpu_rpu (s : State) (x : Rpu) : (s.setRpu x).rpu = x := rfl
@[simp] theorem State.setRpu_pending (s : State) (x : Rpu) : (s.setRpu x).pending = s.pending := rfl

@[simp] theorem State.setPending_timeBase (s : State) (x : List Instr) : (s.setPending x).timeBase = s.timeBase := rfl
@[simp] theorem State.setPending_bpu (s : State) (x : List Instr) : (s.setPending x).bpu = s.bpu := rfl
@[simp] theorem State.setPending_liu (s : State) (x : List Instr) : (s.setPending x).liu = s.liu := rfl
@[simp] theorem State.setPending_capture (s : State) (x : List Instr) : (s.setPending x).capture = s.capture := rfl
@[simp] theorem State.setPending_oas (s : State) (x : List Instr) : (s.setPending x).oas = s.oas := rfl
@[simp] theorem State.setPending_vdu (s : State) (x : List Instr) : (s.setPending x).vdu = s.vdu := rfl
@[simp] theorem State.setPending_ejs (s : State) (x : List Instr) : (s.setPending x).ejs = s.ejs := rfl
@[simp] theorem State.setPending_vlc (s : State) (x : List Instr) : (s.setPending x).vlc = s.vlc := rfl
@[simp] theorem State.setPending_tbs (s : State) (x : List Instr) : (s.setPending x).tbs = s.tbs := rfl
@[simp] theorem State.setPending_cmu (s : State) (x : List Instr) : (s.setPending x).cmu = s.cmu := rfl
@[simp] theorem State.setPending_lki (s : State) (x : List Instr) : (s.setPending x).lki = s.lki := rfl
@[simp] theorem State.setPending_rpu (s : State) (x : List Instr) : (s.setPending x).rpu = s.rpu := rfl
@[simp] theorem State.setPending_pending (s : State) (x : List Instr) : (s.setPending x).pending = x := rfl

end Sys2Proof.Machine
end

