-- ==== Sys2Proof/Laws/Ops.lean ====
section
/-! SUPPORT. What the operations of counters, queues, responses, notices and causes leave unchanged: one lemma each. -/

namespace Sys2Proof.Machine

/-- A fold over steps that each keep a reading keeps it. -/
theorem foldl_keeps {α β γ : Type} (f : γ → α → γ) (p : γ → β) (h : ∀ t a, p (f t a) = p t)
    (l : List α) (s : γ) : p (l.foldl f s) = p s := by
  induction l generalizing s with
  | nil => rfl
  | cons a l ih => rw [List.foldl_cons, ih, h]

@[simp] theorem bumpBy_keeps (c : Counter) (n : Nat) (s : State) :
    (bumpBy c n s).timeBase = s.timeBase
      ∧ (bumpBy c n s).bpu = s.bpu
      ∧ (bumpBy c n s).liu = s.liu
      ∧ (bumpBy c n s).capture = s.capture
      ∧ (bumpBy c n s).oas = s.oas
      ∧ (bumpBy c n s).vdu = s.vdu
      ∧ (bumpBy c n s).ejs = s.ejs
      ∧ (bumpBy c n s).vlc = s.vlc
      ∧ (bumpBy c n s).tbs = s.tbs
      ∧ (bumpBy c n s).cmu = s.cmu
      ∧ (bumpBy c n s).lki = s.lki
      ∧ (bumpBy c n s).pending = s.pending := by
  simp only [bumpBy]
  all_goals simp_all

@[simp] theorem bump_keeps (c : Counter) (s : State) :
    (bump c s).timeBase = s.timeBase
      ∧ (bump c s).bpu = s.bpu
      ∧ (bump c s).liu = s.liu
      ∧ (bump c s).capture = s.capture
      ∧ (bump c s).oas = s.oas
      ∧ (bump c s).vdu = s.vdu
      ∧ (bump c s).ejs = s.ejs
      ∧ (bump c s).vlc = s.vlc
      ∧ (bump c s).tbs = s.tbs
      ∧ (bump c s).cmu = s.cmu
      ∧ (bump c s).lki = s.lki
      ∧ (bump c s).pending = s.pending := by
  simp only [bump]
  all_goals simp_all

@[simp] theorem roSend_keeps (f : Frame) (p : Preference) (s : State) :
    (roSend f p s).timeBase = s.timeBase
      ∧ (roSend f p s).bpu = s.bpu
      ∧ (roSend f p s).liu = s.liu
      ∧ (roSend f p s).capture = s.capture
      ∧ (roSend f p s).oas = s.oas
      ∧ (roSend f p s).vdu = s.vdu
      ∧ (roSend f p s).ejs = s.ejs
      ∧ (roSend f p s).vlc = s.vlc
      ∧ (roSend f p s).tbs = s.tbs
      ∧ (roSend f p s).cmu = s.cmu
      ∧ (roSend f p s).rpu = s.rpu
      ∧ (roSend f p s).pending = s.pending := by
  simp only [roSend]
  all_goals simp_all

@[simp] theorem roSendPass_keeps (s : State) :
    (roSendPass s).timeBase = s.timeBase
      ∧ (roSendPass s).bpu = s.bpu
      ∧ (roSendPass s).liu = s.liu
      ∧ (roSendPass s).capture = s.capture
      ∧ (roSendPass s).oas = s.oas
      ∧ (roSendPass s).vdu = s.vdu
      ∧ (roSendPass s).ejs = s.ejs
      ∧ (roSendPass s).vlc = s.vlc
      ∧ (roSendPass s).tbs = s.tbs
      ∧ (roSendPass s).cmu = s.cmu
      ∧ (roSendPass s).rpu = s.rpu
      ∧ (roSendPass s).pending = s.pending := by
  simp only [roSendPass]
  repeat' split
  all_goals simp_all

@[simp] theorem roSendReport_keeps (s : State) :
    (roSendReport s).timeBase = s.timeBase
      ∧ (roSendReport s).bpu = s.bpu
      ∧ (roSendReport s).liu = s.liu
      ∧ (roSendReport s).capture = s.capture
      ∧ (roSendReport s).oas = s.oas
      ∧ (roSendReport s).vdu = s.vdu
      ∧ (roSendReport s).ejs = s.ejs
      ∧ (roSendReport s).vlc = s.vlc
      ∧ (roSendReport s).tbs = s.tbs
      ∧ (roSendReport s).cmu = s.cmu
      ∧ (roSendReport s).pending = s.pending := by
  simp only [roSendReport]
  repeat' split
  all_goals simp_all

@[simp] theorem roChoose_keeps (s : State) :
    (roChoose s).timeBase = s.timeBase
      ∧ (roChoose s).bpu = s.bpu
      ∧ (roChoose s).liu = s.liu
      ∧ (roChoose s).capture = s.capture
      ∧ (roChoose s).oas = s.oas
      ∧ (roChoose s).vdu = s.vdu
      ∧ (roChoose s).ejs = s.ejs
      ∧ (roChoose s).vlc = s.vlc
      ∧ (roChoose s).tbs = s.tbs
      ∧ (roChoose s).cmu = s.cmu
      ∧ (roChoose s).pending = s.pending := by
  simp only [roChoose]
  repeat' split
  all_goals simp_all

@[simp] theorem roKick_keeps (s : State) :
    (roKick s).timeBase = s.timeBase
      ∧ (roKick s).bpu = s.bpu
      ∧ (roKick s).liu = s.liu
      ∧ (roKick s).capture = s.capture
      ∧ (roKick s).oas = s.oas
      ∧ (roKick s).vdu = s.vdu
      ∧ (roKick s).ejs = s.ejs
      ∧ (roKick s).vlc = s.vlc
      ∧ (roKick s).tbs = s.tbs
      ∧ (roKick s).cmu = s.cmu
      ∧ (roKick s).pending = s.pending := by
  simp only [roKick]
  repeat' split
  all_goals simp_all

@[simp] theorem joinRq_keeps (x : Report) (s : State) :
    (joinRq x s).timeBase = s.timeBase
      ∧ (joinRq x s).bpu = s.bpu
      ∧ (joinRq x s).liu = s.liu
      ∧ (joinRq x s).capture = s.capture
      ∧ (joinRq x s).oas = s.oas
      ∧ (joinRq x s).vdu = s.vdu
      ∧ (joinRq x s).ejs = s.ejs
      ∧ (joinRq x s).vlc = s.vlc
      ∧ (joinRq x s).tbs = s.tbs
      ∧ (joinRq x s).cmu = s.cmu
      ∧ (joinRq x s).pending = s.pending := by
  simp only [joinRq]
  all_goals simp_all

@[simp] theorem admitResponse_keeps (x : Response) (s : State) :
    (admitResponse x s).timeBase = s.timeBase
      ∧ (admitResponse x s).bpu = s.bpu
      ∧ (admitResponse x s).liu = s.liu
      ∧ (admitResponse x s).capture = s.capture
      ∧ (admitResponse x s).oas = s.oas
      ∧ (admitResponse x s).vdu = s.vdu
      ∧ (admitResponse x s).ejs = s.ejs
      ∧ (admitResponse x s).vlc = s.vlc
      ∧ (admitResponse x s).tbs = s.tbs
      ∧ (admitResponse x s).cmu = s.cmu
      ∧ (admitResponse x s).pending = s.pending := by
  simp only [admitResponse]
  repeat' split
  all_goals simp_all

@[simp] theorem notice_keeps (n : Notice) (s : State) :
    (notice n s).timeBase = s.timeBase
      ∧ (notice n s).bpu = s.bpu
      ∧ (notice n s).liu = s.liu
      ∧ (notice n s).capture = s.capture
      ∧ (notice n s).oas = s.oas
      ∧ (notice n s).vdu = s.vdu
      ∧ (notice n s).ejs = s.ejs
      ∧ (notice n s).vlc = s.vlc
      ∧ (notice n s).tbs = s.tbs
      ∧ (notice n s).cmu = s.cmu
      ∧ (notice n s).pending = s.pending := by
  simp only [notice]
  repeat' split
  all_goals simp_all

@[simp] theorem postReport_keeps (r : ObjectReport) (s : State) :
    (postReport r s).timeBase = s.timeBase
      ∧ (postReport r s).bpu = s.bpu
      ∧ (postReport r s).liu = s.liu
      ∧ (postReport r s).capture = s.capture
      ∧ (postReport r s).oas = s.oas
      ∧ (postReport r s).vdu = s.vdu
      ∧ (postReport r s).ejs = s.ejs
      ∧ (postReport r s).vlc = s.vlc
      ∧ (postReport r s).tbs = s.tbs
      ∧ (postReport r s).cmu = s.cmu
      ∧ (postReport r s).pending = s.pending := by
  simp only [postReport]
  repeat' split
  all_goals simp_all

@[simp] theorem respond_keeps (code : Byte) (tag : Word16) (status : Status) (detail : Nat) (data : List Byte) (s : State) :
    (respond code tag status detail data s).timeBase = s.timeBase
      ∧ (respond code tag status detail data s).bpu = s.bpu
      ∧ (respond code tag status detail data s).liu = s.liu
      ∧ (respond code tag status detail data s).capture = s.capture
      ∧ (respond code tag status detail data s).oas = s.oas
      ∧ (respond code tag status detail data s).vdu = s.vdu
      ∧ (respond code tag status detail data s).ejs = s.ejs
      ∧ (respond code tag status detail data s).vlc = s.vlc
      ∧ (respond code tag status detail data s).tbs = s.tbs
      ∧ (respond code tag status detail data s).cmu = s.cmu
      ∧ (respond code tag status detail data s).pending = s.pending := by
  simp only [respond]
  all_goals simp_all

@[simp] theorem endCommand_keeps (status : Status) (detail : Nat) (data : List Byte) (s : State) :
    (endCommand status detail data s).timeBase = s.timeBase
      ∧ (endCommand status detail data s).bpu = s.bpu
      ∧ (endCommand status detail data s).liu = s.liu
      ∧ (endCommand status detail data s).capture = s.capture
      ∧ (endCommand status detail data s).oas = s.oas
      ∧ (endCommand status detail data s).vdu = s.vdu
      ∧ (endCommand status detail data s).ejs = s.ejs
      ∧ (endCommand status detail data s).vlc = s.vlc
      ∧ (endCommand status detail data s).tbs = s.tbs
      ∧ (endCommand status detail data s).pending = s.pending
      ∧ (endCommand status detail data s).cmu.engine = s.cmu.engine
      ∧ (endCommand status detail data s).cmu.unit = s.cmu.unit
      ∧ (endCommand status detail data s).cmu.cause = s.cmu.cause
      ∧ (endCommand status detail data s).cmu.config = s.cmu.config
      ∧ (endCommand status detail data s).cmu.causes = s.cmu.causes := by
  simp only [endCommand]
  repeat' split
  all_goals simp_all

@[simp] theorem beginCommand_keeps (c : Command) (tag : Word16) (s : State) :
    (beginCommand c tag s).timeBase = s.timeBase
      ∧ (beginCommand c tag s).bpu = s.bpu
      ∧ (beginCommand c tag s).liu = s.liu
      ∧ (beginCommand c tag s).capture = s.capture
      ∧ (beginCommand c tag s).oas = s.oas
      ∧ (beginCommand c tag s).vdu = s.vdu
      ∧ (beginCommand c tag s).ejs = s.ejs
      ∧ (beginCommand c tag s).vlc = s.vlc
      ∧ (beginCommand c tag s).tbs = s.tbs
      ∧ (beginCommand c tag s).lki = s.lki
      ∧ (beginCommand c tag s).rpu = s.rpu
      ∧ (beginCommand c tag s).pending = s.pending
      ∧ (beginCommand c tag s).cmu.engine = s.cmu.engine
      ∧ (beginCommand c tag s).cmu.unit = s.cmu.unit
      ∧ (beginCommand c tag s).cmu.cause = s.cmu.cause
      ∧ (beginCommand c tag s).cmu.config = s.cmu.config
      ∧ (beginCommand c tag s).cmu.causes = s.cmu.causes := by
  simp only [beginCommand]
  all_goals simp_all

@[simp] theorem raiseCause_keeps (c : FaultCause) (s : State) :
    (raiseCause c s).timeBase = s.timeBase
      ∧ (raiseCause c s).bpu = s.bpu
      ∧ (raiseCause c s).liu = s.liu
      ∧ (raiseCause c s).capture = s.capture
      ∧ (raiseCause c s).oas = s.oas
      ∧ (raiseCause c s).vdu = s.vdu
      ∧ (raiseCause c s).ejs = s.ejs
      ∧ (raiseCause c s).vlc = s.vlc
      ∧ (raiseCause c s).tbs = s.tbs
      ∧ (raiseCause c s).lki = s.lki
      ∧ (raiseCause c s).pending = s.pending
      ∧ (raiseCause c s).cmu.engine = s.cmu.engine
      ∧ (raiseCause c s).cmu.unit = s.cmu.unit
      ∧ (raiseCause c s).cmu.cause = s.cmu.cause
      ∧ (raiseCause c s).cmu.executing = s.cmu.executing
      ∧ (raiseCause c s).cmu.config = s.cmu.config := by
  simp only [raiseCause]
  repeat' split
  all_goals simp_all

@[simp] theorem doChoose_keeps (s : State) :
    (doChoose s).timeBase = s.timeBase
      ∧ (doChoose s).bpu = s.bpu
      ∧ (doChoose s).liu = s.liu
      ∧ (doChoose s).capture = s.capture
      ∧ (doChoose s).oas = s.oas
      ∧ (doChoose s).vdu = s.vdu
      ∧ (doChoose s).ejs = s.ejs
      ∧ (doChoose s).vlc = s.vlc
      ∧ (doChoose s).tbs = s.tbs
      ∧ (doChoose s).cmu = s.cmu
      ∧ (doChoose s).pending = s.pending := by
  simp only [doChoose]
  repeat' split
  all_goals simp_all

@[simp] theorem doKick_keeps (s : State) :
    (doKick s).timeBase = s.timeBase
      ∧ (doKick s).bpu = s.bpu
      ∧ (doKick s).liu = s.liu
      ∧ (doKick s).capture = s.capture
      ∧ (doKick s).oas = s.oas
      ∧ (doKick s).vdu = s.vdu
      ∧ (doKick s).ejs = s.ejs
      ∧ (doKick s).vlc = s.vlc
      ∧ (doKick s).tbs = s.tbs
      ∧ (doKick s).cmu = s.cmu
      ∧ (doKick s).pending = s.pending := by
  simp only [doKick]
  repeat' split
  all_goals simp_all

end Sys2Proof.Machine
end

