-- ==== Sys2Proof/Laws/Valves.lean ====
section
/-! SUPPORT. What the operations of the valves and the Valve Port leave unchanged: one lemma each. At the
end, what the hand-over of an event and the raise of the counts leave each valve at. -/

namespace Sys2Proof.Machine

@[simp] theorem State.setValve_keeps (s : State) (i : Nat) (v : Valve) :
    (s.setValve i v).timeBase = s.timeBase ∧ (s.setValve i v).bpu = s.bpu
      ∧ (s.setValve i v).liu = s.liu ∧ (s.setValve i v).capture = s.capture
      ∧ (s.setValve i v).oas = s.oas ∧ (s.setValve i v).vdu = s.vdu ∧ (s.setValve i v).ejs = s.ejs
      ∧ (s.setValve i v).tbs = s.tbs ∧ (s.setValve i v).cmu = s.cmu ∧ (s.setValve i v).lki = s.lki
      ∧ (s.setValve i v).rpu = s.rpu ∧ (s.setValve i v).pending = s.pending := by
  simp [State.setValve]

@[simp] theorem setImageDue_keeps (s : State) :
    (setImageDue s).timeBase = s.timeBase
      ∧ (setImageDue s).bpu = s.bpu
      ∧ (setImageDue s).liu = s.liu
      ∧ (setImageDue s).capture = s.capture
      ∧ (setImageDue s).oas = s.oas
      ∧ (setImageDue s).vdu = s.vdu
      ∧ (setImageDue s).ejs = s.ejs
      ∧ (setImageDue s).tbs = s.tbs
      ∧ (setImageDue s).cmu = s.cmu
      ∧ (setImageDue s).lki = s.lki
      ∧ (setImageDue s).rpu = s.rpu
      ∧ (setImageDue s).pending = s.pending := by
  simp only [setImageDue]
  all_goals simp_all

@[simp] theorem onTest_keeps (i : Nat) (s : State) :
    (onTest i s).timeBase = s.timeBase
      ∧ (onTest i s).bpu = s.bpu
      ∧ (onTest i s).liu = s.liu
      ∧ (onTest i s).capture = s.capture
      ∧ (onTest i s).oas = s.oas
      ∧ (onTest i s).vdu = s.vdu
      ∧ (onTest i s).ejs = s.ejs
      ∧ (onTest i s).tbs = s.tbs
      ∧ (onTest i s).cmu = s.cmu
      ∧ (onTest i s).lki = s.lki
      ∧ (onTest i s).pending = s.pending := by
  simp only [onTest]
  repeat' split
  all_goals simp_all

@[simp] theorem onTests_keeps (sel : Nat → Bool) (s : State) :
    (onTests sel s).timeBase = s.timeBase
      ∧ (onTests sel s).bpu = s.bpu
      ∧ (onTests sel s).liu = s.liu
      ∧ (onTests sel s).capture = s.capture
      ∧ (onTests sel s).oas = s.oas
      ∧ (onTests sel s).vdu = s.vdu
      ∧ (onTests sel s).ejs = s.ejs
      ∧ (onTests sel s).tbs = s.tbs
      ∧ (onTests sel s).cmu = s.cmu
      ∧ (onTests sel s).lki = s.lki
      ∧ (onTests sel s).pending = s.pending := by
  unfold onTests
  have h := foldl_keeps (fun (t : State) (i : Nat) => if sel i then onTest i t else t)
    (fun t : State => (t.timeBase, t.bpu, t.liu, t.capture, t.oas, t.vdu, t.ejs, t.tbs, t.cmu,
      t.lki, t.pending))
    (by intro t i; split <;> simp)
  simp only [Prod.mk.injEq] at h
  simp_all

@[simp] theorem handOver_keeps (before : State) (s : State) :
    (handOver before s).timeBase = s.timeBase
      ∧ (handOver before s).bpu = s.bpu
      ∧ (handOver before s).liu = s.liu
      ∧ (handOver before s).capture = s.capture
      ∧ (handOver before s).oas = s.oas
      ∧ (handOver before s).vdu = s.vdu
      ∧ (handOver before s).ejs = s.ejs
      ∧ (handOver before s).tbs = s.tbs
      ∧ (handOver before s).cmu = s.cmu
      ∧ (handOver before s).lki = s.lki
      ∧ (handOver before s).pending = s.pending := by
  simp only [handOver]
  all_goals simp_all

@[simp] theorem raiseCounts_keeps (first last : Nat) (s : State) :
    (raiseCounts first last s).timeBase = s.timeBase
      ∧ (raiseCounts first last s).bpu = s.bpu
      ∧ (raiseCounts first last s).liu = s.liu
      ∧ (raiseCounts first last s).capture = s.capture
      ∧ (raiseCounts first last s).oas = s.oas
      ∧ (raiseCounts first last s).vdu = s.vdu
      ∧ (raiseCounts first last s).ejs = s.ejs
      ∧ (raiseCounts first last s).tbs = s.tbs
      ∧ (raiseCounts first last s).cmu = s.cmu
      ∧ (raiseCounts first last s).lki = s.lki
      ∧ (raiseCounts first last s).pending = s.pending := by
  simp only [raiseCounts]
  all_goals simp_all

@[simp] theorem lowerCounts_keeps (first last : Nat) (s : State) :
    (lowerCounts first last s).timeBase = s.timeBase
      ∧ (lowerCounts first last s).bpu = s.bpu
      ∧ (lowerCounts first last s).liu = s.liu
      ∧ (lowerCounts first last s).capture = s.capture
      ∧ (lowerCounts first last s).oas = s.oas
      ∧ (lowerCounts first last s).vdu = s.vdu
      ∧ (lowerCounts first last s).ejs = s.ejs
      ∧ (lowerCounts first last s).tbs = s.tbs
      ∧ (lowerCounts first last s).cmu = s.cmu
      ∧ (lowerCounts first last s).lki = s.lki
      ∧ (lowerCounts first last s).rpu = s.rpu
      ∧ (lowerCounts first last s).pending = s.pending := by
  simp only [lowerCounts]
  all_goals simp_all

@[simp] theorem zeroCounts_keeps (s : State) :
    (zeroCounts s).timeBase = s.timeBase
      ∧ (zeroCounts s).bpu = s.bpu
      ∧ (zeroCounts s).liu = s.liu
      ∧ (zeroCounts s).capture = s.capture
      ∧ (zeroCounts s).oas = s.oas
      ∧ (zeroCounts s).vdu = s.vdu
      ∧ (zeroCounts s).ejs = s.ejs
      ∧ (zeroCounts s).tbs = s.tbs
      ∧ (zeroCounts s).cmu = s.cmu
      ∧ (zeroCounts s).lki = s.lki
      ∧ (zeroCounts s).rpu = s.rpu
      ∧ (zeroCounts s).pending = s.pending := by
  simp only [zeroCounts]
  all_goals simp_all

@[simp] theorem endTest_keeps (status : Status) (detail : Nat) (data : List Byte) (s : State) :
    (endTest status detail data s).timeBase = s.timeBase
      ∧ (endTest status detail data s).bpu = s.bpu
      ∧ (endTest status detail data s).liu = s.liu
      ∧ (endTest status detail data s).capture = s.capture
      ∧ (endTest status detail data s).oas = s.oas
      ∧ (endTest status detail data s).vdu = s.vdu
      ∧ (endTest status detail data s).ejs = s.ejs
      ∧ (endTest status detail data s).tbs = s.tbs
      ∧ (endTest status detail data s).pending = s.pending
      ∧ (endTest status detail data s).cmu.engine = s.cmu.engine
      ∧ (endTest status detail data s).cmu.unit = s.cmu.unit
      ∧ (endTest status detail data s).cmu.cause = s.cmu.cause
      ∧ (endTest status detail data s).cmu.config = s.cmu.config
      ∧ (endTest status detail data s).cmu.causes = s.cmu.causes := by
  simp only [endTest]
  all_goals simp_all

@[simp] theorem endTestOf_keeps (i : Nat) (status : Status) (detail : Nat) (s : State) :
    (endTestOf i status detail s).timeBase = s.timeBase
      ∧ (endTestOf i status detail s).bpu = s.bpu
      ∧ (endTestOf i status detail s).liu = s.liu
      ∧ (endTestOf i status detail s).capture = s.capture
      ∧ (endTestOf i status detail s).oas = s.oas
      ∧ (endTestOf i status detail s).vdu = s.vdu
      ∧ (endTestOf i status detail s).ejs = s.ejs
      ∧ (endTestOf i status detail s).tbs = s.tbs
      ∧ (endTestOf i status detail s).pending = s.pending
      ∧ (endTestOf i status detail s).cmu.engine = s.cmu.engine
      ∧ (endTestOf i status detail s).cmu.unit = s.cmu.unit
      ∧ (endTestOf i status detail s).cmu.cause = s.cmu.cause
      ∧ (endTestOf i status detail s).cmu.config = s.cmu.config
      ∧ (endTestOf i status detail s).cmu.causes = s.cmu.causes := by
  simp only [endTestOf]
  repeat' split
  all_goals simp_all

@[simp] theorem endTestOff_keeps (status : Status) (data : Nat → State → List Byte) (s : State) :
    (endTestOff status data s).timeBase = s.timeBase
      ∧ (endTestOff status data s).bpu = s.bpu
      ∧ (endTestOff status data s).liu = s.liu
      ∧ (endTestOff status data s).capture = s.capture
      ∧ (endTestOff status data s).oas = s.oas
      ∧ (endTestOff status data s).vdu = s.vdu
      ∧ (endTestOff status data s).ejs = s.ejs
      ∧ (endTestOff status data s).tbs = s.tbs
      ∧ (endTestOff status data s).pending = s.pending
      ∧ (endTestOff status data s).cmu.engine = s.cmu.engine
      ∧ (endTestOff status data s).cmu.unit = s.cmu.unit
      ∧ (endTestOff status data s).cmu.cause = s.cmu.cause
      ∧ (endTestOff status data s).cmu.config = s.cmu.config
      ∧ (endTestOff status data s).cmu.causes = s.cmu.causes := by
  simp only [endTestOff]
  repeat' split
  all_goals simp_all

@[simp] theorem abortTest_keeps (s : State) :
    (abortTest s).timeBase = s.timeBase
      ∧ (abortTest s).bpu = s.bpu
      ∧ (abortTest s).liu = s.liu
      ∧ (abortTest s).capture = s.capture
      ∧ (abortTest s).oas = s.oas
      ∧ (abortTest s).vdu = s.vdu
      ∧ (abortTest s).ejs = s.ejs
      ∧ (abortTest s).tbs = s.tbs
      ∧ (abortTest s).pending = s.pending
      ∧ (abortTest s).cmu.engine = s.cmu.engine
      ∧ (abortTest s).cmu.unit = s.cmu.unit
      ∧ (abortTest s).cmu.cause = s.cmu.cause
      ∧ (abortTest s).cmu.config = s.cmu.config
      ∧ (abortTest s).cmu.causes = s.cmu.causes := by
  simp only [abortTest]
  repeat' split
  all_goals simp_all

@[simp] theorem testExpires_keeps (s : State) :
    (testExpires s).timeBase = s.timeBase
      ∧ (testExpires s).bpu = s.bpu
      ∧ (testExpires s).liu = s.liu
      ∧ (testExpires s).capture = s.capture
      ∧ (testExpires s).oas = s.oas
      ∧ (testExpires s).vdu = s.vdu
      ∧ (testExpires s).ejs = s.ejs
      ∧ (testExpires s).tbs = s.tbs
      ∧ (testExpires s).pending = s.pending
      ∧ (testExpires s).cmu.engine = s.cmu.engine
      ∧ (testExpires s).cmu.unit = s.cmu.unit
      ∧ (testExpires s).cmu.cause = s.cmu.cause
      ∧ (testExpires s).cmu.config = s.cmu.config
      ∧ (testExpires s).cmu.causes = s.cmu.causes := by
  simp only [testExpires]
  all_goals simp_all

@[simp] theorem holdoffExpires_keeps (i : Nat) (s : State) :
    (holdoffExpires i s).timeBase = s.timeBase
      ∧ (holdoffExpires i s).bpu = s.bpu
      ∧ (holdoffExpires i s).liu = s.liu
      ∧ (holdoffExpires i s).capture = s.capture
      ∧ (holdoffExpires i s).oas = s.oas
      ∧ (holdoffExpires i s).vdu = s.vdu
      ∧ (holdoffExpires i s).ejs = s.ejs
      ∧ (holdoffExpires i s).tbs = s.tbs
      ∧ (holdoffExpires i s).cmu = s.cmu
      ∧ (holdoffExpires i s).lki = s.lki
      ∧ (holdoffExpires i s).pending = s.pending := by
  simp only [holdoffExpires]
  repeat' split
  all_goals simp_all

@[simp] theorem heat_keeps (s : State) :
    (heat s).timeBase = s.timeBase
      ∧ (heat s).bpu = s.bpu
      ∧ (heat s).liu = s.liu
      ∧ (heat s).capture = s.capture
      ∧ (heat s).oas = s.oas
      ∧ (heat s).vdu = s.vdu
      ∧ (heat s).ejs = s.ejs
      ∧ (heat s).tbs = s.tbs
      ∧ (heat s).cmu = s.cmu
      ∧ (heat s).lki = s.lki
      ∧ (heat s).rpu = s.rpu
      ∧ (heat s).pending = s.pending := by
  simp only [heat]
  all_goals simp_all

@[simp] theorem trip_keeps (i : Nat) (s : State) :
    (trip i s).timeBase = s.timeBase
      ∧ (trip i s).bpu = s.bpu
      ∧ (trip i s).liu = s.liu
      ∧ (trip i s).capture = s.capture
      ∧ (trip i s).oas = s.oas
      ∧ (trip i s).vdu = s.vdu
      ∧ (trip i s).ejs = s.ejs
      ∧ (trip i s).tbs = s.tbs
      ∧ (trip i s).pending = s.pending
      ∧ (trip i s).cmu.engine = s.cmu.engine
      ∧ (trip i s).cmu.unit = s.cmu.unit
      ∧ (trip i s).cmu.cause = s.cmu.cause
      ∧ (trip i s).cmu.config = s.cmu.config
      ∧ (trip i s).cmu.causes = s.cmu.causes := by
  simp only [trip]
  repeat' split
  all_goals simp_all

@[simp] theorem thermalTick_keeps (s : State) :
    (thermalTick s).timeBase = s.timeBase
      ∧ (thermalTick s).bpu = s.bpu
      ∧ (thermalTick s).liu = s.liu
      ∧ (thermalTick s).capture = s.capture
      ∧ (thermalTick s).oas = s.oas
      ∧ (thermalTick s).vdu = s.vdu
      ∧ (thermalTick s).ejs = s.ejs
      ∧ (thermalTick s).tbs = s.tbs
      ∧ (thermalTick s).pending = s.pending
      ∧ (thermalTick s).cmu.engine = s.cmu.engine
      ∧ (thermalTick s).cmu.unit = s.cmu.unit
      ∧ (thermalTick s).cmu.cause = s.cmu.cause
      ∧ (thermalTick s).cmu.config = s.cmu.config
      ∧ (thermalTick s).cmu.causes = s.cmu.causes := by
  unfold thermalTick
  have h := foldl_keeps (fun (t : State) (i : Nat) => trip i t)
    (fun t : State => (t.timeBase, t.bpu, t.liu, t.capture, t.oas, t.vdu, t.ejs, t.tbs, t.pending,
      t.cmu.engine, t.cmu.unit, t.cmu.cause, t.cmu.config, t.cmu.causes))
    (by intro t i; simp)
  simp only [Prod.mk.injEq] at h
  simp_all

@[simp] theorem startImage_keeps (s : State) :
    (startImage s).timeBase = s.timeBase
      ∧ (startImage s).bpu = s.bpu
      ∧ (startImage s).liu = s.liu
      ∧ (startImage s).capture = s.capture
      ∧ (startImage s).oas = s.oas
      ∧ (startImage s).vdu = s.vdu
      ∧ (startImage s).ejs = s.ejs
      ∧ (startImage s).tbs = s.tbs
      ∧ (startImage s).cmu = s.cmu
      ∧ (startImage s).lki = s.lki
      ∧ (startImage s).rpu = s.rpu
      ∧ (startImage s).pending = s.pending := by
  simp only [startImage]
  all_goals simp_all

@[simp] theorem openWindow_keeps (s : State) :
    (openWindow s).timeBase = s.timeBase
      ∧ (openWindow s).bpu = s.bpu
      ∧ (openWindow s).liu = s.liu
      ∧ (openWindow s).capture = s.capture
      ∧ (openWindow s).oas = s.oas
      ∧ (openWindow s).vdu = s.vdu
      ∧ (openWindow s).ejs = s.ejs
      ∧ (openWindow s).tbs = s.tbs
      ∧ (openWindow s).cmu = s.cmu
      ∧ (openWindow s).lki = s.lki
      ∧ (openWindow s).rpu = s.rpu
      ∧ (openWindow s).pending = s.pending := by
  simp only [openWindow]
  all_goals simp_all

@[simp] theorem closeWindow_keeps (s : State) :
    (closeWindow s).timeBase = s.timeBase
      ∧ (closeWindow s).bpu = s.bpu
      ∧ (closeWindow s).liu = s.liu
      ∧ (closeWindow s).capture = s.capture
      ∧ (closeWindow s).oas = s.oas
      ∧ (closeWindow s).vdu = s.vdu
      ∧ (closeWindow s).ejs = s.ejs
      ∧ (closeWindow s).tbs = s.tbs
      ∧ (closeWindow s).cmu = s.cmu
      ∧ (closeWindow s).lki = s.lki
      ∧ (closeWindow s).rpu = s.rpu
      ∧ (closeWindow s).pending = s.pending := by
  simp only [closeWindow]
  all_goals simp_all

@[simp] theorem coilFault_keeps (i : Nat) (s : State) :
    (coilFault i s).timeBase = s.timeBase
      ∧ (coilFault i s).bpu = s.bpu
      ∧ (coilFault i s).liu = s.liu
      ∧ (coilFault i s).capture = s.capture
      ∧ (coilFault i s).oas = s.oas
      ∧ (coilFault i s).vdu = s.vdu
      ∧ (coilFault i s).ejs = s.ejs
      ∧ (coilFault i s).tbs = s.tbs
      ∧ (coilFault i s).pending = s.pending
      ∧ (coilFault i s).cmu.engine = s.cmu.engine
      ∧ (coilFault i s).cmu.unit = s.cmu.unit
      ∧ (coilFault i s).cmu.cause = s.cmu.cause
      ∧ (coilFault i s).cmu.config = s.cmu.config
      ∧ (coilFault i s).cmu.causes = s.cmu.causes := by
  simp only [coilFault]
  repeat' split
  all_goals simp_all

@[simp] theorem applyStatus_keeps (b : List Byte) (s : State) :
    (applyStatus b s).timeBase = s.timeBase
      ∧ (applyStatus b s).bpu = s.bpu
      ∧ (applyStatus b s).liu = s.liu
      ∧ (applyStatus b s).capture = s.capture
      ∧ (applyStatus b s).oas = s.oas
      ∧ (applyStatus b s).vdu = s.vdu
      ∧ (applyStatus b s).ejs = s.ejs
      ∧ (applyStatus b s).tbs = s.tbs
      ∧ (applyStatus b s).pending = s.pending
      ∧ (applyStatus b s).cmu.engine = s.cmu.engine
      ∧ (applyStatus b s).cmu.unit = s.cmu.unit
      ∧ (applyStatus b s).cmu.cause = s.cmu.cause
      ∧ (applyStatus b s).cmu.config = s.cmu.config
      ∧ (applyStatus b s).cmu.causes = s.cmu.causes := by
  unfold applyStatus
  have h := foldl_keeps (fun (t : State) (i : Nat) => coilFault i t)
    (fun t : State => (t.timeBase, t.bpu, t.liu, t.capture, t.oas, t.vdu, t.ejs, t.tbs, t.pending,
      t.cmu.engine, t.cmu.unit, t.cmu.cause, t.cmu.config, t.cmu.causes))
    (by intro t i; simp)
  simp only [Prod.mk.injEq] at h
  simp_all

@[simp] theorem restoreLink_keeps (q : Byte) (s : State) :
    (restoreLink q s).timeBase = s.timeBase
      ∧ (restoreLink q s).bpu = s.bpu
      ∧ (restoreLink q s).liu = s.liu
      ∧ (restoreLink q s).capture = s.capture
      ∧ (restoreLink q s).oas = s.oas
      ∧ (restoreLink q s).vdu = s.vdu
      ∧ (restoreLink q s).ejs = s.ejs
      ∧ (restoreLink q s).tbs = s.tbs
      ∧ (restoreLink q s).cmu = s.cmu
      ∧ (restoreLink q s).pending = s.pending := by
  simp only [restoreLink]
  repeat' split
  all_goals simp_all

@[simp] theorem statusMatches_keeps (b : List Byte) (s : State) :
    (statusMatches b s).timeBase = s.timeBase
      ∧ (statusMatches b s).bpu = s.bpu
      ∧ (statusMatches b s).liu = s.liu
      ∧ (statusMatches b s).capture = s.capture
      ∧ (statusMatches b s).oas = s.oas
      ∧ (statusMatches b s).vdu = s.vdu
      ∧ (statusMatches b s).ejs = s.ejs
      ∧ (statusMatches b s).tbs = s.tbs
      ∧ (statusMatches b s).pending = s.pending
      ∧ (statusMatches b s).cmu.engine = s.cmu.engine
      ∧ (statusMatches b s).cmu.unit = s.cmu.unit
      ∧ (statusMatches b s).cmu.cause = s.cmu.cause
      ∧ (statusMatches b s).cmu.config = s.cmu.config
      ∧ (statusMatches b s).cmu.causes = s.cmu.causes := by
  simp only [statusMatches]
  all_goals simp_all

@[simp] theorem statusArrives_keeps (b : List Byte) (s : State) :
    (statusArrives b s).timeBase = s.timeBase
      ∧ (statusArrives b s).bpu = s.bpu
      ∧ (statusArrives b s).liu = s.liu
      ∧ (statusArrives b s).capture = s.capture
      ∧ (statusArrives b s).oas = s.oas
      ∧ (statusArrives b s).vdu = s.vdu
      ∧ (statusArrives b s).ejs = s.ejs
      ∧ (statusArrives b s).tbs = s.tbs
      ∧ (statusArrives b s).pending = s.pending
      ∧ (statusArrives b s).cmu.engine = s.cmu.engine
      ∧ (statusArrives b s).cmu.unit = s.cmu.unit
      ∧ (statusArrives b s).cmu.cause = s.cmu.cause
      ∧ (statusArrives b s).cmu.config = s.cmu.config
      ∧ (statusArrives b s).cmu.causes = s.cmu.causes := by
  simp only [statusArrives]
  repeat' split
  all_goals simp_all

@[simp] theorem loseValveLink_keeps (q : Byte) (s : State) :
    (loseValveLink q s).timeBase = s.timeBase
      ∧ (loseValveLink q s).bpu = s.bpu
      ∧ (loseValveLink q s).liu = s.liu
      ∧ (loseValveLink q s).capture = s.capture
      ∧ (loseValveLink q s).oas = s.oas
      ∧ (loseValveLink q s).vdu = s.vdu
      ∧ (loseValveLink q s).ejs = s.ejs
      ∧ (loseValveLink q s).tbs = s.tbs
      ∧ (loseValveLink q s).pending = s.pending
      ∧ (loseValveLink q s).cmu.engine = s.cmu.engine
      ∧ (loseValveLink q s).cmu.unit = s.cmu.unit
      ∧ (loseValveLink q s).cmu.cause = s.cmu.cause
      ∧ (loseValveLink q s).cmu.config = s.cmu.config := by
  simp only [loseValveLink]
  all_goals simp_all

@[simp] theorem windowCloses_keeps (s : State) :
    (windowCloses s).timeBase = s.timeBase
      ∧ (windowCloses s).bpu = s.bpu
      ∧ (windowCloses s).liu = s.liu
      ∧ (windowCloses s).capture = s.capture
      ∧ (windowCloses s).oas = s.oas
      ∧ (windowCloses s).vdu = s.vdu
      ∧ (windowCloses s).ejs = s.ejs
      ∧ (windowCloses s).tbs = s.tbs
      ∧ (windowCloses s).pending = s.pending
      ∧ (windowCloses s).cmu.engine = s.cmu.engine
      ∧ (windowCloses s).cmu.unit = s.cmu.unit
      ∧ (windowCloses s).cmu.cause = s.cmu.cause
      ∧ (windowCloses s).cmu.config = s.cmu.config := by
  simp only [windowCloses]
  repeat' split
  all_goals simp_all

@[simp] theorem disableValve_keeps (i : Nat) (s : State) :
    (disableValve i s).timeBase = s.timeBase
      ∧ (disableValve i s).bpu = s.bpu
      ∧ (disableValve i s).liu = s.liu
      ∧ (disableValve i s).capture = s.capture
      ∧ (disableValve i s).oas = s.oas
      ∧ (disableValve i s).vdu = s.vdu
      ∧ (disableValve i s).ejs = s.ejs
      ∧ (disableValve i s).tbs = s.tbs
      ∧ (disableValve i s).cmu = s.cmu
      ∧ (disableValve i s).lki = s.lki
      ∧ (disableValve i s).rpu = s.rpu
      ∧ (disableValve i s).pending = s.pending := by
  simp only [disableValve]
  repeat' split
  all_goals simp_all

@[simp] theorem enableValve_keeps (i : Nat) (s : State) :
    (enableValve i s).timeBase = s.timeBase
      ∧ (enableValve i s).bpu = s.bpu
      ∧ (enableValve i s).liu = s.liu
      ∧ (enableValve i s).capture = s.capture
      ∧ (enableValve i s).oas = s.oas
      ∧ (enableValve i s).vdu = s.vdu
      ∧ (enableValve i s).ejs = s.ejs
      ∧ (enableValve i s).tbs = s.tbs
      ∧ (enableValve i s).cmu = s.cmu
      ∧ (enableValve i s).lki = s.lki
      ∧ (enableValve i s).pending = s.pending := by
  simp only [enableValve]
  all_goals simp_all

/-! ## One valve read after an operation -/

theorem getElem?_mapFrom {α β : Type} (f : Nat → α → β) (n : Nat) (l : List α) (i : Nat) :
    (mapFrom f n l)[i]? = l[i]?.map (f (n + i)) := by
  induction l generalizing n i with
  | nil => simp [mapFrom]
  | cons x xs ih =>
    cases i with
    | zero => simp [mapFrom]
    | succ i => simp only [mapFrom, List.getElem?_cons_succ, ih]; congr 2; omega

theorem State.setValve_valve (s : State) (i j : Nat) (v : Valve) :
    (s.setValve i v).valve j = if i = j ∧ i < s.vlc.valves.length then v else s.valve j := by
  simp only [State.setValve, State.valve, State.setVlc, List.getD_eq_getElem?_getD, List.getElem?_set]
  split <;> split <;> simp_all

/-- The ON test of a valve changes no other valve. -/
theorem onTest_valve_of_ne {i j : Nat} (h : i ≠ j) (s : State) : (onTest i s).valve j = s.valve j := by
  have hb : ∀ (c : Counter) (t : State), (bump c t).valve j = t.valve j := fun _ _ => rfl
  have hd : ∀ t : State, (setImageDue t).valve j = t.valve j := fun _ => rfl
  simp only [onTest]
  repeat' split
  all_goals simp [hb, hd, State.setValve_valve, h]

theorem onTest_vlc (i : Nat) (s : State) :
    (onTest i s).vlc.valves.length = s.vlc.valves.length ∧ (onTest i s).vlc.test = s.vlc.test := by
  simp only [onTest]
  repeat' split
  all_goals simp [bump, bumpBy, setImageDue, State.setValve, State.setVlc, State.setRpu]

/-- The ON test of a valve depends on that valve, its test, the belt and the configuration. -/
theorem onTest_valve_congr {s t : State} {i : Nat} (hv : t.valve i = s.valve i)
    (hl : t.vlc.valves.length = s.vlc.valves.length) (ht : t.vlc.test = s.vlc.test)
    (hb : t.bpu = s.bpu) (hc : t.cmu = s.cmu) : (onTest i t).valve i = (onTest i s).valve i := by
  have h1 : ∀ (c : Counter) (t : State), (bump c t).valve i = t.valve i := fun _ _ => rfl
  have hd : ∀ t : State, (setImageDue t).valve i = t.valve i := fun _ => rfl
  have hx : t.vlc.tests i = s.vlc.tests i := by simp [Vlc.tests, ht]
  simp only [onTest, hv, hb, hc, hx]
  split
  · split <;> simp [hd, State.setValve_valve, hl, hv]
  · split <;> simp [hd, State.setValve_valve, hl, hv]
  · split <;> simp [h1, State.setValve_valve, hl, hv]
  · exact hv
  · exact hv

/-- The ON tests of the valves below `n` that `sel` names: each such valve as its own ON test of the first
state leaves it, every other valve unchanged. -/
theorem onTests_prefix (sel : Nat → Bool) (s : State) (n : Nat) :
    let t := (List.range n).foldl (fun t i => if sel i then onTest i t else t) s
    t.vlc.valves.length = s.vlc.valves.length ∧ t.vlc.test = s.vlc.test ∧ t.bpu = s.bpu ∧ t.cmu = s.cmu
      ∧ ∀ j, t.valve j = if j < n ∧ sel j = true then (onTest j s).valve j else s.valve j := by
  induction n with
  | zero => simp
  | succ n ih =>
    simp only [List.range_succ, List.foldl_append, List.foldl_cons, List.foldl_nil] at ih ⊢
    generalize (List.range n).foldl (fun t i => if sel i then onTest i t else t) s = t at ih ⊢
    obtain ⟨hl, ht, hb, hc, hv⟩ := ih
    have hlt : ∀ {j : Nat}, j ≠ n → (j < n + 1 ↔ j < n) := by omega
    cases hs : sel n with
    | false =>
      simp only [Bool.false_eq_true, if_false]
      refine ⟨hl, ht, hb, hc, fun j => ?_⟩
      rw [hv]
      by_cases hj : j = n
      · subst hj
        simp [hs]
      · simp [hlt hj]
    | true =>
      simp only [if_true]
      refine ⟨by rw [(onTest_vlc n t).1, hl], by rw [(onTest_vlc n t).2, ht], by simp [hb], by simp [hc],
        fun j => ?_⟩
      by_cases hj : j = n
      · subst hj
        rw [onTest_valve_congr (by rw [hv]; simp) hl ht hb hc]
        simp [hs]
      · rw [onTest_valve_of_ne (Ne.symm hj), hv]
        simp [hlt hj]

/-- What the hand-over leaves a valve at: its own ON test, or nothing (R8, R114, R122). -/
theorem handOver_valve (before s : State) {i : Nat} (hi : i < 64) :
    (handOver before s).valve i
      = if before.bpu.beltState ≠ s.bpu.beltState ∨ (before.valve i).refCount ≠ (s.valve i).refCount
        then (onTest i s).valve i else s.valve i := by
  unfold handOver onTests
  rw [(onTests_prefix _ s 64).2.2.2.2 i]
  simp [hi]

/-- What the raise of a range leaves a valve at (R103, R126). -/
theorem raiseCounts_valve (first last : Nat) (s : State) {i : Nat} (hi : i < s.vlc.valves.length) :
    (raiseCounts first last s).valve i
      = if first ≤ i ∧ i ≤ last then { s.valve i with refCount := (s.valve i).refCount + 1 }
        else s.valve i := by
  show (mapFrom _ 0 s.vlc.valves).getD i Valve.reset = _
  rw [List.getD_eq_getElem?_getD, getElem?_mapFrom]
  simp [State.valve, hi]

end Sys2Proof.Machine
end

