-- ==== Sys2Proof/Laws/Ejection.lean ====
section
/-! SUPPORT. What the operations of the Ejection Scheduler leave unchanged, one lemma each, and one round of
the activation test. -/

namespace Sys2Proof.Machine

@[simp] theorem activate_keeps (i : Nat) (r : EjectionRecord) (s : State) :
    (activate i r s).timeBase = s.timeBase
      ∧ (activate i r s).bpu = s.bpu
      ∧ (activate i r s).liu = s.liu
      ∧ (activate i r s).capture = s.capture
      ∧ (activate i r s).oas = s.oas
      ∧ (activate i r s).vdu = s.vdu
      ∧ (activate i r s).tbs = s.tbs
      ∧ (activate i r s).cmu = s.cmu
      ∧ (activate i r s).lki = s.lki
      ∧ (activate i r s).pending = s.pending := by
  simp only [activate]
  repeat' split
  all_goals simp_all

@[simp] theorem countWait_keeps (r : EjectionRecord) (rest : List EjectionRecord) (s : State) :
    (countWait r rest s).timeBase = s.timeBase
      ∧ (countWait r rest s).bpu = s.bpu
      ∧ (countWait r rest s).liu = s.liu
      ∧ (countWait r rest s).capture = s.capture
      ∧ (countWait r rest s).oas = s.oas
      ∧ (countWait r rest s).vdu = s.vdu
      ∧ (countWait r rest s).vlc = s.vlc
      ∧ (countWait r rest s).tbs = s.tbs
      ∧ (countWait r rest s).cmu = s.cmu
      ∧ (countWait r rest s).lki = s.lki
      ∧ (countWait r rest s).pending = s.pending := by
  simp only [countWait]
  repeat' split
  all_goals simp_all

@[simp] theorem activationTest_keeps (n : Nat) (s : State) :
    (activationTest n s).timeBase = s.timeBase
      ∧ (activationTest n s).bpu = s.bpu
      ∧ (activationTest n s).liu = s.liu
      ∧ (activationTest n s).capture = s.capture
      ∧ (activationTest n s).oas = s.oas
      ∧ (activationTest n s).vdu = s.vdu
      ∧ (activationTest n s).tbs = s.tbs
      ∧ (activationTest n s).cmu = s.cmu
      ∧ (activationTest n s).lki = s.lki
      ∧ (activationTest n s).pending = s.pending := by
  induction n generalizing s with
  | zero => simp [activationTest]
  | succ n ih =>
    unfold activationTest
    repeat' split
    all_goals simp_all

@[simp] theorem testHead_keeps (s : State) :
    (testHead s).timeBase = s.timeBase
      ∧ (testHead s).bpu = s.bpu
      ∧ (testHead s).liu = s.liu
      ∧ (testHead s).capture = s.capture
      ∧ (testHead s).oas = s.oas
      ∧ (testHead s).vdu = s.vdu
      ∧ (testHead s).tbs = s.tbs
      ∧ (testHead s).cmu = s.cmu
      ∧ (testHead s).lki = s.lki
      ∧ (testHead s).pending = s.pending := by
  simp only [testHead]
  all_goals simp_all

/-- One round of the activation test (R113, R115): it ends, or it goes on to the new head. -/
theorem testHead_eq (s : State) :
    testHead s =
      match s.ejs.eq with
      | [] => s
      | r :: rest =>
          if reached r.openPos s.bpu.travel then
            if reached r.closePos s.bpu.travel then
              testHead (bump .ejectionsMissedAelFull (s.setEjs { s.ejs with eq := rest }))
            else
              match freeIndex s.ejs.ael with
              | some i => testHead (activate i r (s.setEjs { s.ejs with eq := rest }))
              | none => countWait r rest s
          else s := by
  have ha : ∀ i r t, (activate i r t).ejs.eq = t.ejs.eq := by
    intro i r t
    simp only [activate]
    split <;> simp
  cases h : s.ejs.eq with
  | nil => simp [testHead, activationTest, h]
  | cons r rest =>
    simp only [testHead, h, List.length_cons, ha]
    rw [activationTest]
    simp only [h]
    rfl

@[simp] theorem closeSlot_keeps (i : Nat) (s : State) :
    (closeSlot i s).timeBase = s.timeBase
      ∧ (closeSlot i s).bpu = s.bpu
      ∧ (closeSlot i s).liu = s.liu
      ∧ (closeSlot i s).capture = s.capture
      ∧ (closeSlot i s).oas = s.oas
      ∧ (closeSlot i s).vdu = s.vdu
      ∧ (closeSlot i s).tbs = s.tbs
      ∧ (closeSlot i s).cmu = s.cmu
      ∧ (closeSlot i s).lki = s.lki
      ∧ (closeSlot i s).rpu = s.rpu
      ∧ (closeSlot i s).pending = s.pending := by
  simp only [closeSlot]
  repeat' split
  all_goals simp_all

@[simp] theorem closeRecords_keeps (s : State) :
    (closeRecords s).timeBase = s.timeBase
      ∧ (closeRecords s).bpu = s.bpu
      ∧ (closeRecords s).liu = s.liu
      ∧ (closeRecords s).capture = s.capture
      ∧ (closeRecords s).oas = s.oas
      ∧ (closeRecords s).vdu = s.vdu
      ∧ (closeRecords s).tbs = s.tbs
      ∧ (closeRecords s).cmu = s.cmu
      ∧ (closeRecords s).lki = s.lki
      ∧ (closeRecords s).rpu = s.rpu
      ∧ (closeRecords s).pending = s.pending := by
  unfold closeRecords
  have h := foldl_keeps (fun (t : State) (i : Nat) => closeSlot i t)
    (fun t : State => (t.timeBase, t.bpu, t.liu, t.capture, t.oas, t.vdu, t.tbs, t.cmu, t.lki,
      t.rpu, t.pending))
    (by intro t i; simp)
  simp only [Prod.mk.injEq] at h
  simp_all

@[simp] theorem ejectionAdvance_keeps (s : State) :
    (ejectionAdvance s).timeBase = s.timeBase
      ∧ (ejectionAdvance s).bpu = s.bpu
      ∧ (ejectionAdvance s).liu = s.liu
      ∧ (ejectionAdvance s).capture = s.capture
      ∧ (ejectionAdvance s).oas = s.oas
      ∧ (ejectionAdvance s).vdu = s.vdu
      ∧ (ejectionAdvance s).tbs = s.tbs
      ∧ (ejectionAdvance s).cmu = s.cmu
      ∧ (ejectionAdvance s).lki = s.lki
      ∧ (ejectionAdvance s).pending = s.pending := by
  simp only [ejectionAdvance]
  all_goals simp_all

@[simp] theorem mergeQueued_keeps (k : Nat) (q : EjectionRequest) (r : EjectionRecord) (s : State) :
    (mergeQueued k q r s).timeBase = s.timeBase
      ∧ (mergeQueued k q r s).bpu = s.bpu
      ∧ (mergeQueued k q r s).liu = s.liu
      ∧ (mergeQueued k q r s).capture = s.capture
      ∧ (mergeQueued k q r s).oas = s.oas
      ∧ (mergeQueued k q r s).vdu = s.vdu
      ∧ (mergeQueued k q r s).tbs = s.tbs
      ∧ (mergeQueued k q r s).cmu = s.cmu
      ∧ (mergeQueued k q r s).lki = s.lki
      ∧ (mergeQueued k q r s).pending = s.pending := by
  simp only [mergeQueued]
  repeat' split
  all_goals simp_all

@[simp] theorem mergeActive_keeps (i : Nat) (q : EjectionRequest) (r : EjectionRecord) (s : State) :
    (mergeActive i q r s).timeBase = s.timeBase
      ∧ (mergeActive i q r s).bpu = s.bpu
      ∧ (mergeActive i q r s).liu = s.liu
      ∧ (mergeActive i q r s).capture = s.capture
      ∧ (mergeActive i q r s).oas = s.oas
      ∧ (mergeActive i q r s).vdu = s.vdu
      ∧ (mergeActive i q r s).tbs = s.tbs
      ∧ (mergeActive i q r s).cmu = s.cmu
      ∧ (mergeActive i q r s).lki = s.lki
      ∧ (mergeActive i q r s).pending = s.pending := by
  simp only [mergeActive]
  repeat' split
  all_goals simp_all

@[simp] theorem makeLate_keeps (q : EjectionRequest) (s : State) :
    (makeLate q s).timeBase = s.timeBase
      ∧ (makeLate q s).bpu = s.bpu
      ∧ (makeLate q s).liu = s.liu
      ∧ (makeLate q s).capture = s.capture
      ∧ (makeLate q s).oas = s.oas
      ∧ (makeLate q s).vdu = s.vdu
      ∧ (makeLate q s).tbs = s.tbs
      ∧ (makeLate q s).cmu = s.cmu
      ∧ (makeLate q s).lki = s.lki
      ∧ (makeLate q s).pending = s.pending := by
  simp only [makeLate]
  repeat' split
  all_goals simp_all

@[simp] theorem makeQueued_keeps (q : EjectionRequest) (s : State) :
    (makeQueued q s).timeBase = s.timeBase
      ∧ (makeQueued q s).bpu = s.bpu
      ∧ (makeQueued q s).liu = s.liu
      ∧ (makeQueued q s).capture = s.capture
      ∧ (makeQueued q s).oas = s.oas
      ∧ (makeQueued q s).vdu = s.vdu
      ∧ (makeQueued q s).vlc = s.vlc
      ∧ (makeQueued q s).tbs = s.tbs
      ∧ (makeQueued q s).cmu = s.cmu
      ∧ (makeQueued q s).lki = s.lki
      ∧ (makeQueued q s).pending = s.pending := by
  simp only [makeQueued]
  repeat' split
  all_goals simp_all

@[simp] theorem makeRecord_keeps (q : EjectionRequest) (s : State) :
    (makeRecord q s).timeBase = s.timeBase
      ∧ (makeRecord q s).bpu = s.bpu
      ∧ (makeRecord q s).liu = s.liu
      ∧ (makeRecord q s).capture = s.capture
      ∧ (makeRecord q s).oas = s.oas
      ∧ (makeRecord q s).vdu = s.vdu
      ∧ (makeRecord q s).tbs = s.tbs
      ∧ (makeRecord q s).cmu = s.cmu
      ∧ (makeRecord q s).lki = s.lki
      ∧ (makeRecord q s).pending = s.pending := by
  simp only [makeRecord]
  repeat' split
  all_goals simp_all

@[simp] theorem takeMerge_keeps (q : EjectionRequest) (s : State) :
    (takeMerge q s).timeBase = s.timeBase
      ∧ (takeMerge q s).bpu = s.bpu
      ∧ (takeMerge q s).liu = s.liu
      ∧ (takeMerge q s).capture = s.capture
      ∧ (takeMerge q s).oas = s.oas
      ∧ (takeMerge q s).vdu = s.vdu
      ∧ (takeMerge q s).tbs = s.tbs
      ∧ (takeMerge q s).cmu = s.cmu
      ∧ (takeMerge q s).lki = s.lki
      ∧ (takeMerge q s).pending = s.pending := by
  simp only [takeMerge]
  repeat' split
  all_goals simp_all

@[simp] theorem takeRefuse_keeps (q : EjectionRequest) (s : State) :
    (takeRefuse q s).timeBase = s.timeBase
      ∧ (takeRefuse q s).bpu = s.bpu
      ∧ (takeRefuse q s).liu = s.liu
      ∧ (takeRefuse q s).capture = s.capture
      ∧ (takeRefuse q s).oas = s.oas
      ∧ (takeRefuse q s).vdu = s.vdu
      ∧ (takeRefuse q s).tbs = s.tbs
      ∧ (takeRefuse q s).cmu = s.cmu
      ∧ (takeRefuse q s).lki = s.lki
      ∧ (takeRefuse q s).pending = s.pending := by
  simp only [takeRefuse]
  repeat' split
  all_goals simp_all

@[simp] theorem takeRequest_keeps (q : EjectionRequest) (s : State) :
    (takeRequest q s).timeBase = s.timeBase
      ∧ (takeRequest q s).bpu = s.bpu
      ∧ (takeRequest q s).liu = s.liu
      ∧ (takeRequest q s).capture = s.capture
      ∧ (takeRequest q s).oas = s.oas
      ∧ (takeRequest q s).vdu = s.vdu
      ∧ (takeRequest q s).tbs = s.tbs
      ∧ (takeRequest q s).cmu = s.cmu
      ∧ (takeRequest q s).lki = s.lki
      ∧ (takeRequest q s).pending = s.pending := by
  simp only [takeRequest]
  repeat' split
  all_goals simp_all

@[simp] theorem requestEvent_keeps (q : EjectionRequest) (s : State) :
    (requestEvent q s).timeBase = s.timeBase
      ∧ (requestEvent q s).bpu = s.bpu
      ∧ (requestEvent q s).liu = s.liu
      ∧ (requestEvent q s).capture = s.capture
      ∧ (requestEvent q s).oas = s.oas
      ∧ (requestEvent q s).vdu = s.vdu
      ∧ (requestEvent q s).tbs = s.tbs
      ∧ (requestEvent q s).cmu = s.cmu
      ∧ (requestEvent q s).lki = s.lki
      ∧ (requestEvent q s).pending = s.pending := by
  simp only [requestEvent]
  all_goals simp_all

@[simp] theorem takeFrom_keeps (src : Requester) (s : State) :
    (takeFrom src s).timeBase = s.timeBase
      ∧ (takeFrom src s).bpu = s.bpu
      ∧ (takeFrom src s).liu = s.liu
      ∧ (takeFrom src s).capture = s.capture
      ∧ (takeFrom src s).oas = s.oas
      ∧ (takeFrom src s).vdu = s.vdu
      ∧ (takeFrom src s).tbs = s.tbs
      ∧ (takeFrom src s).cmu = s.cmu
      ∧ (takeFrom src s).lki = s.lki
      ∧ (takeFrom src s).pending = s.pending := by
  simp only [takeFrom]
  repeat' split
  all_goals simp_all

@[simp] theorem handRequest_keeps (src : Requester) (q : EjectionRequest) (s : State) :
    (handRequest src q s).timeBase = s.timeBase
      ∧ (handRequest src q s).bpu = s.bpu
      ∧ (handRequest src q s).liu = s.liu
      ∧ (handRequest src q s).capture = s.capture
      ∧ (handRequest src q s).oas = s.oas
      ∧ (handRequest src q s).vdu = s.vdu
      ∧ (handRequest src q s).vlc = s.vlc
      ∧ (handRequest src q s).tbs = s.tbs
      ∧ (handRequest src q s).cmu = s.cmu
      ∧ (handRequest src q s).lki = s.lki
      ∧ (handRequest src q s).rpu = s.rpu
      ∧ (handRequest src q s).pending = s.pending := by
  simp only [handRequest]
  repeat' split
  all_goals simp_all

@[simp] theorem takeAll_keeps (s : State) :
    (takeAll s).timeBase = s.timeBase
      ∧ (takeAll s).bpu = s.bpu
      ∧ (takeAll s).liu = s.liu
      ∧ (takeAll s).capture = s.capture
      ∧ (takeAll s).oas = s.oas
      ∧ (takeAll s).vdu = s.vdu
      ∧ (takeAll s).tbs = s.tbs
      ∧ (takeAll s).cmu = s.cmu
      ∧ (takeAll s).lki = s.lki
      ∧ (takeAll s).pending = s.pending := by
  unfold takeAll
  have h := foldl_keeps (fun (t : State) (q : EjectionRequest) => requestEvent q t)
    (fun t : State => (t.timeBase, t.bpu, t.liu, t.capture, t.oas, t.vdu, t.tbs, t.cmu, t.lki,
      t.pending))
    (by intro t i; simp)
  simp only [Prod.mk.injEq] at h
  simp_all

@[simp] theorem dropRecords_keeps (s : State) :
    (dropRecords s).timeBase = s.timeBase
      ∧ (dropRecords s).bpu = s.bpu
      ∧ (dropRecords s).liu = s.liu
      ∧ (dropRecords s).capture = s.capture
      ∧ (dropRecords s).oas = s.oas
      ∧ (dropRecords s).vdu = s.vdu
      ∧ (dropRecords s).tbs = s.tbs
      ∧ (dropRecords s).cmu = s.cmu
      ∧ (dropRecords s).lki = s.lki
      ∧ (dropRecords s).pending = s.pending := by
  simp only [dropRecords]
  all_goals simp_all

@[simp] theorem flush_keeps (s : State) :
    (flush s).timeBase = s.timeBase
      ∧ (flush s).bpu = s.bpu
      ∧ (flush s).liu = s.liu
      ∧ (flush s).capture = s.capture
      ∧ (flush s).oas = s.oas
      ∧ (flush s).vdu = s.vdu
      ∧ (flush s).tbs = s.tbs
      ∧ (flush s).cmu = s.cmu
      ∧ (flush s).lki = s.lki
      ∧ (flush s).pending = s.pending := by
  simp only [flush]
  all_goals simp_all

end Sys2Proof.Machine
end

