-- ==== Sys2Proof/Laws/Verdict.lean ====
section
/-! SUPPORT. What the operations of the Verdict Unit leave unchanged: one lemma each. -/

namespace Sys2Proof.Machine

@[simp] theorem vduTake_keeps (s : State) :
    (vduTake s).timeBase = s.timeBase
      ∧ (vduTake s).bpu = s.bpu
      ∧ (vduTake s).liu = s.liu
      ∧ (vduTake s).capture = s.capture
      ∧ (vduTake s).oas = s.oas
      ∧ (vduTake s).ejs = s.ejs
      ∧ (vduTake s).vlc = s.vlc
      ∧ (vduTake s).tbs = s.tbs
      ∧ (vduTake s).cmu = s.cmu
      ∧ (vduTake s).lki = s.lki
      ∧ (vduTake s).rpu = s.rpu
      ∧ (vduTake s).pending = s.pending := by
  simp only [vduTake]
  repeat' split
  all_goals simp_all

@[simp] theorem closingMove_keeps (s : State) :
    (closingMove s).timeBase = s.timeBase
      ∧ (closingMove s).bpu = s.bpu
      ∧ (closingMove s).liu = s.liu
      ∧ (closingMove s).capture = s.capture
      ∧ (closingMove s).ejs = s.ejs
      ∧ (closingMove s).vlc = s.vlc
      ∧ (closingMove s).tbs = s.tbs
      ∧ (closingMove s).cmu = s.cmu
      ∧ (closingMove s).lki = s.lki
      ∧ (closingMove s).rpu = s.rpu
      ∧ (closingMove s).pending = s.pending := by
  simp only [closingMove]
  repeat' split
  all_goals simp_all

@[simp] theorem pumpN_keeps (n : Nat) (s : State) :
    (pumpN n s).timeBase = s.timeBase
      ∧ (pumpN n s).bpu = s.bpu
      ∧ (pumpN n s).liu = s.liu
      ∧ (pumpN n s).capture = s.capture
      ∧ (pumpN n s).ejs = s.ejs
      ∧ (pumpN n s).vlc = s.vlc
      ∧ (pumpN n s).tbs = s.tbs
      ∧ (pumpN n s).cmu = s.cmu
      ∧ (pumpN n s).lki = s.lki
      ∧ (pumpN n s).rpu = s.rpu
      ∧ (pumpN n s).pending = s.pending := by
  induction n generalizing s with
  | zero => simp [pumpN]
  | succ n ih =>
    unfold pumpN
    all_goals simp_all

@[simp] theorem pump_keeps (s : State) :
    (pump s).timeBase = s.timeBase
      ∧ (pump s).bpu = s.bpu
      ∧ (pump s).liu = s.liu
      ∧ (pump s).capture = s.capture
      ∧ (pump s).ejs = s.ejs
      ∧ (pump s).vlc = s.vlc
      ∧ (pump s).tbs = s.tbs
      ∧ (pump s).cmu = s.cmu
      ∧ (pump s).lki = s.lki
      ∧ (pump s).rpu = s.rpu
      ∧ (pump s).pending = s.pending := by
  simp only [pump]
  all_goals simp_all

@[simp] theorem settleReject_keeps (o : ObjectRecord) (w : Position × Position) (v : Option (Nat × Nat)) (s : State) :
    (settleReject o w v s).timeBase = s.timeBase
      ∧ (settleReject o w v s).bpu = s.bpu
      ∧ (settleReject o w v s).liu = s.liu
      ∧ (settleReject o w v s).capture = s.capture
      ∧ (settleReject o w v s).oas = s.oas
      ∧ (settleReject o w v s).vdu = s.vdu
      ∧ (settleReject o w v s).vlc = s.vlc
      ∧ (settleReject o w v s).tbs = s.tbs
      ∧ (settleReject o w v s).cmu = s.cmu
      ∧ (settleReject o w v s).lki = s.lki
      ∧ (settleReject o w v s).pending = s.pending := by
  simp only [settleReject]
  repeat' split
  all_goals simp_all

@[simp] theorem complete_keeps (o : ObjectRecord) (s : State) :
    (complete o s).timeBase = s.timeBase
      ∧ (complete o s).bpu = s.bpu
      ∧ (complete o s).liu = s.liu
      ∧ (complete o s).capture = s.capture
      ∧ (complete o s).oas = s.oas
      ∧ (complete o s).vlc = s.vlc
      ∧ (complete o s).tbs = s.tbs
      ∧ (complete o s).cmu = s.cmu
      ∧ (complete o s).pending = s.pending := by
  simp only [complete]
  repeat' split
  all_goals simp_all

@[simp] theorem evaluationCompletes_keeps (s : State) :
    (evaluationCompletes s).timeBase = s.timeBase
      ∧ (evaluationCompletes s).bpu = s.bpu
      ∧ (evaluationCompletes s).liu = s.liu
      ∧ (evaluationCompletes s).capture = s.capture
      ∧ (evaluationCompletes s).vlc = s.vlc
      ∧ (evaluationCompletes s).tbs = s.tbs
      ∧ (evaluationCompletes s).cmu = s.cmu
      ∧ (evaluationCompletes s).pending = s.pending := by
  simp only [evaluationCompletes]
  repeat' split
  all_goals simp_all

@[simp] theorem abandonVerdicts_keeps (s : State) :
    (abandonVerdicts s).timeBase = s.timeBase
      ∧ (abandonVerdicts s).bpu = s.bpu
      ∧ (abandonVerdicts s).liu = s.liu
      ∧ (abandonVerdicts s).capture = s.capture
      ∧ (abandonVerdicts s).oas = s.oas
      ∧ (abandonVerdicts s).ejs = s.ejs
      ∧ (abandonVerdicts s).vlc = s.vlc
      ∧ (abandonVerdicts s).tbs = s.tbs
      ∧ (abandonVerdicts s).cmu = s.cmu
      ∧ (abandonVerdicts s).lki = s.lki
      ∧ (abandonVerdicts s).pending = s.pending := by
  simp only [abandonVerdicts]
  all_goals simp_all

end Sys2Proof.Machine
end

