-- ==== Sys2Proof/Laws/Tables.lean ====
section
/-! SUPPORT. What the operations of the Table Store leave unchanged: one lemma each. -/

namespace Sys2Proof.Machine

@[simp] theorem State.setBank_keeps (s : State) (b : Bank) (p : ProductBank) :
    (s.setBank b p).timeBase = s.timeBase
      ∧ (s.setBank b p).bpu = s.bpu
      ∧ (s.setBank b p).liu = s.liu
      ∧ (s.setBank b p).capture = s.capture
      ∧ (s.setBank b p).oas = s.oas
      ∧ (s.setBank b p).vdu = s.vdu
      ∧ (s.setBank b p).ejs = s.ejs
      ∧ (s.setBank b p).vlc = s.vlc
      ∧ (s.setBank b p).cmu = s.cmu
      ∧ (s.setBank b p).lki = s.lki
      ∧ (s.setBank b p).rpu = s.rpu
      ∧ (s.setBank b p).pending = s.pending := by
  simp [State.setBank]

@[simp] theorem State.setStandby_keeps (s : State) (p : ProductBank) :
    (s.setStandby p).timeBase = s.timeBase
      ∧ (s.setStandby p).bpu = s.bpu
      ∧ (s.setStandby p).liu = s.liu
      ∧ (s.setStandby p).capture = s.capture
      ∧ (s.setStandby p).oas = s.oas
      ∧ (s.setStandby p).vdu = s.vdu
      ∧ (s.setStandby p).ejs = s.ejs
      ∧ (s.setStandby p).vlc = s.vlc
      ∧ (s.setStandby p).cmu = s.cmu
      ∧ (s.setStandby p).lki = s.lki
      ∧ (s.setStandby p).rpu = s.rpu
      ∧ (s.setStandby p).pending = s.pending := by
  simp [State.setStandby, State.setBank]

@[simp] theorem State.setBlock_keeps (s : State) (b : Bank) (n : Nat) (x : CctBlock) :
    (s.setBlock b n x).timeBase = s.timeBase
      ∧ (s.setBlock b n x).bpu = s.bpu
      ∧ (s.setBlock b n x).liu = s.liu
      ∧ (s.setBlock b n x).capture = s.capture
      ∧ (s.setBlock b n x).oas = s.oas
      ∧ (s.setBlock b n x).vdu = s.vdu
      ∧ (s.setBlock b n x).ejs = s.ejs
      ∧ (s.setBlock b n x).vlc = s.vlc
      ∧ (s.setBlock b n x).cmu = s.cmu
      ∧ (s.setBlock b n x).lki = s.lki
      ∧ (s.setBlock b n x).rpu = s.rpu
      ∧ (s.setBlock b n x).pending = s.pending := by
  simp [State.setBlock, State.setBank]

@[simp] theorem changeEntry_keeps (b : Bank) (index : Nat) (code : ClassCode) (s : State) :
    (changeEntry b index code s).timeBase = s.timeBase
      ∧ (changeEntry b index code s).bpu = s.bpu
      ∧ (changeEntry b index code s).liu = s.liu
      ∧ (changeEntry b index code s).capture = s.capture
      ∧ (changeEntry b index code s).oas = s.oas
      ∧ (changeEntry b index code s).vdu = s.vdu
      ∧ (changeEntry b index code s).ejs = s.ejs
      ∧ (changeEntry b index code s).vlc = s.vlc
      ∧ (changeEntry b index code s).cmu = s.cmu
      ∧ (changeEntry b index code s).lki = s.lki
      ∧ (changeEntry b index code s).rpu = s.rpu
      ∧ (changeEntry b index code s).pending = s.pending := by
  simp only [changeEntry]
  all_goals simp_all

@[simp] theorem copyBlock_keeps (p : CopyProgress) (s : State) :
    (copyBlock p s).timeBase = s.timeBase
      ∧ (copyBlock p s).bpu = s.bpu
      ∧ (copyBlock p s).liu = s.liu
      ∧ (copyBlock p s).capture = s.capture
      ∧ (copyBlock p s).oas = s.oas
      ∧ (copyBlock p s).vdu = s.vdu
      ∧ (copyBlock p s).ejs = s.ejs
      ∧ (copyBlock p s).vlc = s.vlc
      ∧ (copyBlock p s).cmu = s.cmu
      ∧ (copyBlock p s).lki = s.lki
      ∧ (copyBlock p s).rpu = s.rpu
      ∧ (copyBlock p s).pending = s.pending := by
  simp only [copyBlock]
  repeat' split
  all_goals simp_all

@[simp] theorem copyTables_keeps (p : CopyProgress) (s : State) :
    (copyTables p s).timeBase = s.timeBase
      ∧ (copyTables p s).bpu = s.bpu
      ∧ (copyTables p s).liu = s.liu
      ∧ (copyTables p s).capture = s.capture
      ∧ (copyTables p s).oas = s.oas
      ∧ (copyTables p s).vdu = s.vdu
      ∧ (copyTables p s).ejs = s.ejs
      ∧ (copyTables p s).vlc = s.vlc
      ∧ (copyTables p s).pending = s.pending
      ∧ (copyTables p s).cmu.engine = s.cmu.engine
      ∧ (copyTables p s).cmu.unit = s.cmu.unit
      ∧ (copyTables p s).cmu.cause = s.cmu.cause
      ∧ (copyTables p s).cmu.config = s.cmu.config
      ∧ (copyTables p s).cmu.causes = s.cmu.causes := by
  simp only [copyTables]
  all_goals simp_all

@[simp] theorem copyStep_keeps (s : State) :
    (copyStep s).timeBase = s.timeBase
      ∧ (copyStep s).bpu = s.bpu
      ∧ (copyStep s).liu = s.liu
      ∧ (copyStep s).capture = s.capture
      ∧ (copyStep s).oas = s.oas
      ∧ (copyStep s).vdu = s.vdu
      ∧ (copyStep s).ejs = s.ejs
      ∧ (copyStep s).vlc = s.vlc
      ∧ (copyStep s).pending = s.pending
      ∧ (copyStep s).cmu.engine = s.cmu.engine
      ∧ (copyStep s).cmu.unit = s.cmu.unit
      ∧ (copyStep s).cmu.cause = s.cmu.cause
      ∧ (copyStep s).cmu.config = s.cmu.config
      ∧ (copyStep s).cmu.causes = s.cmu.causes := by
  simp only [copyStep]
  repeat' split
  all_goals simp_all

@[simp] theorem scrubBlock_keeps (s : State) :
    (scrubBlock s).timeBase = s.timeBase
      ∧ (scrubBlock s).bpu = s.bpu
      ∧ (scrubBlock s).liu = s.liu
      ∧ (scrubBlock s).capture = s.capture
      ∧ (scrubBlock s).oas = s.oas
      ∧ (scrubBlock s).vdu = s.vdu
      ∧ (scrubBlock s).ejs = s.ejs
      ∧ (scrubBlock s).vlc = s.vlc
      ∧ (scrubBlock s).cmu = s.cmu
      ∧ (scrubBlock s).pending = s.pending := by
  simp only [scrubBlock]
  repeat' split
  all_goals simp_all

@[simp] theorem scrubCheck_keeps (s : State) :
    (scrubCheck s).timeBase = s.timeBase
      ∧ (scrubCheck s).bpu = s.bpu
      ∧ (scrubCheck s).liu = s.liu
      ∧ (scrubCheck s).capture = s.capture
      ∧ (scrubCheck s).oas = s.oas
      ∧ (scrubCheck s).vdu = s.vdu
      ∧ (scrubCheck s).ejs = s.ejs
      ∧ (scrubCheck s).vlc = s.vlc
      ∧ (scrubCheck s).cmu = s.cmu
      ∧ (scrubCheck s).pending = s.pending := by
  simp only [scrubCheck]
  all_goals simp_all

@[simp] theorem scrubIfDue_keeps (s : State) :
    (scrubIfDue s).timeBase = s.timeBase
      ∧ (scrubIfDue s).bpu = s.bpu
      ∧ (scrubIfDue s).liu = s.liu
      ∧ (scrubIfDue s).capture = s.capture
      ∧ (scrubIfDue s).oas = s.oas
      ∧ (scrubIfDue s).vdu = s.vdu
      ∧ (scrubIfDue s).ejs = s.ejs
      ∧ (scrubIfDue s).vlc = s.vlc
      ∧ (scrubIfDue s).cmu = s.cmu
      ∧ (scrubIfDue s).pending = s.pending := by
  simp only [scrubIfDue]
  repeat' split
  all_goals simp_all

@[simp] theorem scrubLine_keeps (s : State) :
    (scrubLine s).timeBase = s.timeBase
      ∧ (scrubLine s).bpu = s.bpu
      ∧ (scrubLine s).liu = s.liu
      ∧ (scrubLine s).capture = s.capture
      ∧ (scrubLine s).oas = s.oas
      ∧ (scrubLine s).vdu = s.vdu
      ∧ (scrubLine s).ejs = s.ejs
      ∧ (scrubLine s).vlc = s.vlc
      ∧ (scrubLine s).cmu = s.cmu
      ∧ (scrubLine s).pending = s.pending := by
  simp only [scrubLine]
  repeat' split
  all_goals simp_all

@[simp] theorem markMixed_keeps (s : State) :
    (markMixed s).timeBase = s.timeBase
      ∧ (markMixed s).bpu = s.bpu
      ∧ (markMixed s).liu = s.liu
      ∧ (markMixed s).capture = s.capture
      ∧ (markMixed s).ejs = s.ejs
      ∧ (markMixed s).vlc = s.vlc
      ∧ (markMixed s).tbs = s.tbs
      ∧ (markMixed s).cmu = s.cmu
      ∧ (markMixed s).lki = s.lki
      ∧ (markMixed s).rpu = s.rpu
      ∧ (markMixed s).pending = s.pending := by
  simp only [markMixed]
  all_goals simp_all

@[simp] theorem exchangeBanks_keeps (s : State) :
    (exchangeBanks s).timeBase = s.timeBase
      ∧ (exchangeBanks s).bpu = s.bpu
      ∧ (exchangeBanks s).liu = s.liu
      ∧ (exchangeBanks s).capture = s.capture
      ∧ (exchangeBanks s).oas = s.oas
      ∧ (exchangeBanks s).vdu = s.vdu
      ∧ (exchangeBanks s).ejs = s.ejs
      ∧ (exchangeBanks s).vlc = s.vlc
      ∧ (exchangeBanks s).cmu = s.cmu
      ∧ (exchangeBanks s).lki = s.lki
      ∧ (exchangeBanks s).pending = s.pending := by
  simp only [exchangeBanks]
  all_goals simp_all

@[simp] theorem swapQuietly_keeps (s : State) :
    (swapQuietly s).timeBase = s.timeBase
      ∧ (swapQuietly s).bpu = s.bpu
      ∧ (swapQuietly s).liu = s.liu
      ∧ (swapQuietly s).capture = s.capture
      ∧ (swapQuietly s).oas = s.oas
      ∧ (swapQuietly s).vdu = s.vdu
      ∧ (swapQuietly s).ejs = s.ejs
      ∧ (swapQuietly s).vlc = s.vlc
      ∧ (swapQuietly s).pending = s.pending
      ∧ (swapQuietly s).cmu.engine = s.cmu.engine
      ∧ (swapQuietly s).cmu.unit = s.cmu.unit
      ∧ (swapQuietly s).cmu.cause = s.cmu.cause
      ∧ (swapQuietly s).cmu.config = s.cmu.config
      ∧ (swapQuietly s).cmu.causes = s.cmu.causes := by
  simp only [swapQuietly]
  all_goals simp_all

@[simp] theorem swapForced_keeps (s : State) :
    (swapForced s).timeBase = s.timeBase
      ∧ (swapForced s).bpu = s.bpu
      ∧ (swapForced s).liu = s.liu
      ∧ (swapForced s).capture = s.capture
      ∧ (swapForced s).ejs = s.ejs
      ∧ (swapForced s).vlc = s.vlc
      ∧ (swapForced s).pending = s.pending
      ∧ (swapForced s).cmu.engine = s.cmu.engine
      ∧ (swapForced s).cmu.unit = s.cmu.unit
      ∧ (swapForced s).cmu.cause = s.cmu.cause
      ∧ (swapForced s).cmu.config = s.cmu.config
      ∧ (swapForced s).cmu.causes = s.cmu.causes := by
  simp only [swapForced]
  all_goals simp_all

@[simp] theorem swapAtQuietPoint_keeps (s : State) :
    (swapAtQuietPoint s).timeBase = s.timeBase
      ∧ (swapAtQuietPoint s).bpu = s.bpu
      ∧ (swapAtQuietPoint s).liu = s.liu
      ∧ (swapAtQuietPoint s).capture = s.capture
      ∧ (swapAtQuietPoint s).oas = s.oas
      ∧ (swapAtQuietPoint s).vdu = s.vdu
      ∧ (swapAtQuietPoint s).ejs = s.ejs
      ∧ (swapAtQuietPoint s).vlc = s.vlc
      ∧ (swapAtQuietPoint s).pending = s.pending
      ∧ (swapAtQuietPoint s).cmu.engine = s.cmu.engine
      ∧ (swapAtQuietPoint s).cmu.unit = s.cmu.unit
      ∧ (swapAtQuietPoint s).cmu.cause = s.cmu.cause
      ∧ (swapAtQuietPoint s).cmu.config = s.cmu.config
      ∧ (swapAtQuietPoint s).cmu.causes = s.cmu.causes := by
  simp only [swapAtQuietPoint]
  repeat' split
  all_goals simp_all

@[simp] theorem swapAtDeadline_keeps (s : State) :
    (swapAtDeadline s).timeBase = s.timeBase
      ∧ (swapAtDeadline s).bpu = s.bpu
      ∧ (swapAtDeadline s).liu = s.liu
      ∧ (swapAtDeadline s).capture = s.capture
      ∧ (swapAtDeadline s).ejs = s.ejs
      ∧ (swapAtDeadline s).vlc = s.vlc
      ∧ (swapAtDeadline s).pending = s.pending
      ∧ (swapAtDeadline s).cmu.engine = s.cmu.engine
      ∧ (swapAtDeadline s).cmu.unit = s.cmu.unit
      ∧ (swapAtDeadline s).cmu.cause = s.cmu.cause
      ∧ (swapAtDeadline s).cmu.config = s.cmu.config
      ∧ (swapAtDeadline s).cmu.causes = s.cmu.causes := by
  simp only [swapAtDeadline]
  repeat' split
  all_goals simp_all

@[simp] theorem swapCount_keeps (s : State) :
    (swapCount s).timeBase = s.timeBase
      ∧ (swapCount s).bpu = s.bpu
      ∧ (swapCount s).liu = s.liu
      ∧ (swapCount s).capture = s.capture
      ∧ (swapCount s).oas = s.oas
      ∧ (swapCount s).vdu = s.vdu
      ∧ (swapCount s).ejs = s.ejs
      ∧ (swapCount s).vlc = s.vlc
      ∧ (swapCount s).cmu = s.cmu
      ∧ (swapCount s).lki = s.lki
      ∧ (swapCount s).rpu = s.rpu
      ∧ (swapCount s).pending = s.pending := by
  simp only [swapCount]
  repeat' split
  all_goals simp_all

@[simp] theorem lineBoundary_keeps (s : State) :
    (lineBoundary s).timeBase = s.timeBase
      ∧ (lineBoundary s).bpu = s.bpu
      ∧ (lineBoundary s).liu = s.liu
      ∧ (lineBoundary s).capture = s.capture
      ∧ (lineBoundary s).ejs = s.ejs
      ∧ (lineBoundary s).vlc = s.vlc
      ∧ (lineBoundary s).pending = s.pending
      ∧ (lineBoundary s).cmu.engine = s.cmu.engine
      ∧ (lineBoundary s).cmu.unit = s.cmu.unit
      ∧ (lineBoundary s).cmu.cause = s.cmu.cause
      ∧ (lineBoundary s).cmu.config = s.cmu.config
      ∧ (lineBoundary s).cmu.causes = s.cmu.causes := by
  simp only [lineBoundary]
  all_goals simp_all

end Sys2Proof.Machine
end

