-- ==== Sys2Proof/Laws/Calibrate.lean ====
section
/-! SUPPORT. What the operations of the classifier and the calibration leave unchanged: one lemma each. -/

namespace Sys2Proof.Machine

@[simp] theorem countClassified_keeps (row : List Classified) (s : State) :
    (countClassified row s).timeBase = s.timeBase
      ∧ (countClassified row s).bpu = s.bpu
      ∧ (countClassified row s).liu = s.liu
      ∧ (countClassified row s).capture = s.capture
      ∧ (countClassified row s).oas = s.oas
      ∧ (countClassified row s).vdu = s.vdu
      ∧ (countClassified row s).ejs = s.ejs
      ∧ (countClassified row s).vlc = s.vlc
      ∧ (countClassified row s).tbs = s.tbs
      ∧ (countClassified row s).cmu = s.cmu
      ∧ (countClassified row s).lki = s.lki
      ∧ (countClassified row s).pending = s.pending := by
  simp only [countClassified]
  all_goals simp_all

@[simp] theorem endCalibrate_keeps (status : Status) (detail : Nat) (s : State) :
    (endCalibrate status detail s).timeBase = s.timeBase
      ∧ (endCalibrate status detail s).bpu = s.bpu
      ∧ (endCalibrate status detail s).liu = s.liu
      ∧ (endCalibrate status detail s).oas = s.oas
      ∧ (endCalibrate status detail s).vdu = s.vdu
      ∧ (endCalibrate status detail s).ejs = s.ejs
      ∧ (endCalibrate status detail s).vlc = s.vlc
      ∧ (endCalibrate status detail s).tbs = s.tbs
      ∧ (endCalibrate status detail s).pending = s.pending
      ∧ (endCalibrate status detail s).cmu.engine = s.cmu.engine
      ∧ (endCalibrate status detail s).cmu.unit = s.cmu.unit
      ∧ (endCalibrate status detail s).cmu.cause = s.cmu.cause
      ∧ (endCalibrate status detail s).cmu.config = s.cmu.config
      ∧ (endCalibrate status detail s).cmu.causes = s.cmu.causes := by
  simp only [endCalibrate]
  all_goals simp_all

@[simp] theorem completeCalibrate_keeps (k : Capture) (s : State) :
    (completeCalibrate k s).timeBase = s.timeBase
      ∧ (completeCalibrate k s).bpu = s.bpu
      ∧ (completeCalibrate k s).liu = s.liu
      ∧ (completeCalibrate k s).oas = s.oas
      ∧ (completeCalibrate k s).vdu = s.vdu
      ∧ (completeCalibrate k s).ejs = s.ejs
      ∧ (completeCalibrate k s).vlc = s.vlc
      ∧ (completeCalibrate k s).pending = s.pending
      ∧ (completeCalibrate k s).cmu.engine = s.cmu.engine
      ∧ (completeCalibrate k s).cmu.unit = s.cmu.unit
      ∧ (completeCalibrate k s).cmu.cause = s.cmu.cause
      ∧ (completeCalibrate k s).cmu.config = s.cmu.config
      ∧ (completeCalibrate k s).cmu.causes = s.cmu.causes := by
  simp only [completeCalibrate]
  repeat' split
  all_goals simp_all

@[simp] theorem calibrateIfDone_keeps (s : State) :
    (calibrateIfDone s).timeBase = s.timeBase
      ∧ (calibrateIfDone s).bpu = s.bpu
      ∧ (calibrateIfDone s).liu = s.liu
      ∧ (calibrateIfDone s).oas = s.oas
      ∧ (calibrateIfDone s).vdu = s.vdu
      ∧ (calibrateIfDone s).ejs = s.ejs
      ∧ (calibrateIfDone s).vlc = s.vlc
      ∧ (calibrateIfDone s).pending = s.pending
      ∧ (calibrateIfDone s).cmu.engine = s.cmu.engine
      ∧ (calibrateIfDone s).cmu.unit = s.cmu.unit
      ∧ (calibrateIfDone s).cmu.cause = s.cmu.cause
      ∧ (calibrateIfDone s).cmu.config = s.cmu.config
      ∧ (calibrateIfDone s).cmu.causes = s.cmu.causes := by
  simp only [calibrateIfDone]
  repeat' split
  all_goals simp_all

@[simp] theorem skipLine_keeps (s : State) :
    (skipLine s).timeBase = s.timeBase
      ∧ (skipLine s).bpu = s.bpu
      ∧ (skipLine s).liu = s.liu
      ∧ (skipLine s).oas = s.oas
      ∧ (skipLine s).vdu = s.vdu
      ∧ (skipLine s).ejs = s.ejs
      ∧ (skipLine s).vlc = s.vlc
      ∧ (skipLine s).tbs = s.tbs
      ∧ (skipLine s).pending = s.pending
      ∧ (skipLine s).cmu.engine = s.cmu.engine
      ∧ (skipLine s).cmu.unit = s.cmu.unit
      ∧ (skipLine s).cmu.cause = s.cmu.cause
      ∧ (skipLine s).cmu.config = s.cmu.config
      ∧ (skipLine s).cmu.causes = s.cmu.causes := by
  simp only [skipLine]
  repeat' split
  all_goals simp_all

@[simp] theorem skipLines_keeps (n : Nat) (s : State) :
    (skipLines n s).timeBase = s.timeBase
      ∧ (skipLines n s).bpu = s.bpu
      ∧ (skipLines n s).liu = s.liu
      ∧ (skipLines n s).oas = s.oas
      ∧ (skipLines n s).vdu = s.vdu
      ∧ (skipLines n s).ejs = s.ejs
      ∧ (skipLines n s).vlc = s.vlc
      ∧ (skipLines n s).tbs = s.tbs
      ∧ (skipLines n s).pending = s.pending
      ∧ (skipLines n s).cmu.engine = s.cmu.engine
      ∧ (skipLines n s).cmu.unit = s.cmu.unit
      ∧ (skipLines n s).cmu.cause = s.cmu.cause
      ∧ (skipLines n s).cmu.config = s.cmu.config
      ∧ (skipLines n s).cmu.causes = s.cmu.causes := by
  induction n generalizing s with
  | zero => simp [skipLines]
  | succ n ih =>
    unfold skipLines
    all_goals simp_all

@[simp] theorem captureOwn_keeps (slot : RingSlot) (s : State) :
    (captureOwn slot s).timeBase = s.timeBase
      ∧ (captureOwn slot s).bpu = s.bpu
      ∧ (captureOwn slot s).liu = s.liu
      ∧ (captureOwn slot s).oas = s.oas
      ∧ (captureOwn slot s).vdu = s.vdu
      ∧ (captureOwn slot s).ejs = s.ejs
      ∧ (captureOwn slot s).vlc = s.vlc
      ∧ (captureOwn slot s).pending = s.pending
      ∧ (captureOwn slot s).cmu.engine = s.cmu.engine
      ∧ (captureOwn slot s).cmu.unit = s.cmu.unit
      ∧ (captureOwn slot s).cmu.cause = s.cmu.cause
      ∧ (captureOwn slot s).cmu.config = s.cmu.config
      ∧ (captureOwn slot s).cmu.causes = s.cmu.causes := by
  simp only [captureOwn]
  repeat' split
  all_goals simp_all

@[simp] theorem captureSlot_keeps (slot : RingSlot) (s : State) :
    (captureSlot slot s).timeBase = s.timeBase
      ∧ (captureSlot slot s).bpu = s.bpu
      ∧ (captureSlot slot s).liu = s.liu
      ∧ (captureSlot slot s).oas = s.oas
      ∧ (captureSlot slot s).vdu = s.vdu
      ∧ (captureSlot slot s).ejs = s.ejs
      ∧ (captureSlot slot s).vlc = s.vlc
      ∧ (captureSlot slot s).pending = s.pending
      ∧ (captureSlot slot s).cmu.engine = s.cmu.engine
      ∧ (captureSlot slot s).cmu.unit = s.cmu.unit
      ∧ (captureSlot slot s).cmu.cause = s.cmu.cause
      ∧ (captureSlot slot s).cmu.config = s.cmu.config
      ∧ (captureSlot slot s).cmu.causes = s.cmu.causes := by
  simp only [captureSlot]
  all_goals simp_all

end Sys2Proof.Machine
end

