-- ==== Sys2Proof/Laws/Assembly.lean ====
section
/-! SUPPORT. What the operations of the Object Assembler leave unchanged: one lemma each. -/

namespace Sys2Proof.Machine

@[simp] theorem State.setSlot_keeps (s : State) (i : Nat) (x : OotSlot) :
    (s.setSlot i x).timeBase = s.timeBase
      ∧ (s.setSlot i x).bpu = s.bpu
      ∧ (s.setSlot i x).liu = s.liu
      ∧ (s.setSlot i x).capture = s.capture
      ∧ (s.setSlot i x).vdu = s.vdu
      ∧ (s.setSlot i x).ejs = s.ejs
      ∧ (s.setSlot i x).vlc = s.vlc
      ∧ (s.setSlot i x).tbs = s.tbs
      ∧ (s.setSlot i x).cmu = s.cmu
      ∧ (s.setSlot i x).lki = s.lki
      ∧ (s.setSlot i x).rpu = s.rpu
      ∧ (s.setSlot i x).pending = s.pending := by
  simp [State.setSlot]

@[simp] theorem absorbSlot_keeps (n : LineNo) (i j : Nat) (s : State) :
    (absorbSlot n i j s).timeBase = s.timeBase
      ∧ (absorbSlot n i j s).bpu = s.bpu
      ∧ (absorbSlot n i j s).liu = s.liu
      ∧ (absorbSlot n i j s).capture = s.capture
      ∧ (absorbSlot n i j s).vdu = s.vdu
      ∧ (absorbSlot n i j s).ejs = s.ejs
      ∧ (absorbSlot n i j s).vlc = s.vlc
      ∧ (absorbSlot n i j s).tbs = s.tbs
      ∧ (absorbSlot n i j s).cmu = s.cmu
      ∧ (absorbSlot n i j s).lki = s.lki
      ∧ (absorbSlot n i j s).pending = s.pending := by
  simp only [absorbSlot]
  repeat' split
  all_goals simp_all

@[simp] theorem setMerged_keeps (i : Nat) (s : State) :
    (setMerged i s).timeBase = s.timeBase
      ∧ (setMerged i s).bpu = s.bpu
      ∧ (setMerged i s).liu = s.liu
      ∧ (setMerged i s).capture = s.capture
      ∧ (setMerged i s).vdu = s.vdu
      ∧ (setMerged i s).ejs = s.ejs
      ∧ (setMerged i s).vlc = s.vlc
      ∧ (setMerged i s).tbs = s.tbs
      ∧ (setMerged i s).cmu = s.cmu
      ∧ (setMerged i s).lki = s.lki
      ∧ (setMerged i s).rpu = s.rpu
      ∧ (setMerged i s).pending = s.pending := by
  simp only [setMerged]
  repeat' split
  all_goals simp_all

@[simp] theorem extendSlot_keeps (l : LineInAssembly) (r : Run) (i : Nat) (s : State) :
    (extendSlot l r i s).timeBase = s.timeBase
      ∧ (extendSlot l r i s).bpu = s.bpu
      ∧ (extendSlot l r i s).liu = s.liu
      ∧ (extendSlot l r i s).capture = s.capture
      ∧ (extendSlot l r i s).vdu = s.vdu
      ∧ (extendSlot l r i s).ejs = s.ejs
      ∧ (extendSlot l r i s).vlc = s.vlc
      ∧ (extendSlot l r i s).tbs = s.tbs
      ∧ (extendSlot l r i s).cmu = s.cmu
      ∧ (extendSlot l r i s).lki = s.lki
      ∧ (extendSlot l r i s).rpu = s.rpu
      ∧ (extendSlot l r i s).pending = s.pending := by
  simp only [extendSlot]
  repeat' split
  all_goals simp_all

@[simp] theorem createObject_keeps (l : LineInAssembly) (r : Run) (i : Nat) (s : State) :
    (createObject l r i s).timeBase = s.timeBase
      ∧ (createObject l r i s).bpu = s.bpu
      ∧ (createObject l r i s).liu = s.liu
      ∧ (createObject l r i s).capture = s.capture
      ∧ (createObject l r i s).vdu = s.vdu
      ∧ (createObject l r i s).ejs = s.ejs
      ∧ (createObject l r i s).vlc = s.vlc
      ∧ (createObject l r i s).tbs = s.tbs
      ∧ (createObject l r i s).cmu = s.cmu
      ∧ (createObject l r i s).lki = s.lki
      ∧ (createObject l r i s).pending = s.pending := by
  simp only [createObject]
  all_goals simp_all

@[simp] theorem blindRequest_keeps (l : LineInAssembly) (r : Run) (s : State) :
    (blindRequest l r s).timeBase = s.timeBase
      ∧ (blindRequest l r s).bpu = s.bpu
      ∧ (blindRequest l r s).liu = s.liu
      ∧ (blindRequest l r s).capture = s.capture
      ∧ (blindRequest l r s).oas = s.oas
      ∧ (blindRequest l r s).vdu = s.vdu
      ∧ (blindRequest l r s).vlc = s.vlc
      ∧ (blindRequest l r s).tbs = s.tbs
      ∧ (blindRequest l r s).cmu = s.cmu
      ∧ (blindRequest l r s).lki = s.lki
      ∧ (blindRequest l r s).pending = s.pending := by
  simp only [blindRequest]
  repeat' split
  all_goals simp_all

@[simp] theorem findsNoSlot_keeps (l : LineInAssembly) (r : Run) (full : Bool) (s : State) :
    (findsNoSlot l r full s).timeBase = s.timeBase
      ∧ (findsNoSlot l r full s).bpu = s.bpu
      ∧ (findsNoSlot l r full s).liu = s.liu
      ∧ (findsNoSlot l r full s).capture = s.capture
      ∧ (findsNoSlot l r full s).oas = s.oas
      ∧ (findsNoSlot l r full s).vdu = s.vdu
      ∧ (findsNoSlot l r full s).vlc = s.vlc
      ∧ (findsNoSlot l r full s).tbs = s.tbs
      ∧ (findsNoSlot l r full s).cmu = s.cmu
      ∧ (findsNoSlot l r full s).lki = s.lki
      ∧ (findsNoSlot l r full s).pending = s.pending := by
  simp only [findsNoSlot]
  repeat' split
  all_goals simp_all

@[simp] theorem absorbAll_keeps (n : LineNo) (v : Nat) (l : List Nat) (s : State) :
    (l.foldl (fun u x => absorbSlot n v x u) s).timeBase = s.timeBase
      ∧ (l.foldl (fun u x => absorbSlot n v x u) s).bpu = s.bpu
      ∧ (l.foldl (fun u x => absorbSlot n v x u) s).liu = s.liu
      ∧ (l.foldl (fun u x => absorbSlot n v x u) s).capture = s.capture
      ∧ (l.foldl (fun u x => absorbSlot n v x u) s).vdu = s.vdu
      ∧ (l.foldl (fun u x => absorbSlot n v x u) s).ejs = s.ejs
      ∧ (l.foldl (fun u x => absorbSlot n v x u) s).vlc = s.vlc
      ∧ (l.foldl (fun u x => absorbSlot n v x u) s).tbs = s.tbs
      ∧ (l.foldl (fun u x => absorbSlot n v x u) s).cmu = s.cmu
      ∧ (l.foldl (fun u x => absorbSlot n v x u) s).lki = s.lki
      ∧ (l.foldl (fun u x => absorbSlot n v x u) s).pending = s.pending := by
  induction l generalizing s with
  | nil => simp
  | cons x l ih => simp [ih]

@[simp] theorem linkRuns_keeps (l : LineInAssembly) (runs : List Run) (done : List PlrRun) (full : Bool) (s : State) :
    (linkRuns l runs done full s).2.timeBase = s.timeBase
      ∧ (linkRuns l runs done full s).2.bpu = s.bpu
      ∧ (linkRuns l runs done full s).2.liu = s.liu
      ∧ (linkRuns l runs done full s).2.capture = s.capture
      ∧ (linkRuns l runs done full s).2.vdu = s.vdu
      ∧ (linkRuns l runs done full s).2.vlc = s.vlc
      ∧ (linkRuns l runs done full s).2.tbs = s.tbs
      ∧ (linkRuns l runs done full s).2.cmu = s.cmu
      ∧ (linkRuns l runs done full s).2.lki = s.lki
      ∧ (linkRuns l runs done full s).2.pending = s.pending := by
  induction runs generalizing done full s with
  | nil => simp [linkRuns]
  | cons r rest ih =>
    unfold linkRuns
    repeat' split
    all_goals simp [ih]

@[simp] theorem closeObject_keeps (mark : ObjectFlags → ObjectFlags) (i : Nat) (s : State) :
    (closeObject mark i s).timeBase = s.timeBase
      ∧ (closeObject mark i s).bpu = s.bpu
      ∧ (closeObject mark i s).liu = s.liu
      ∧ (closeObject mark i s).capture = s.capture
      ∧ (closeObject mark i s).ejs = s.ejs
      ∧ (closeObject mark i s).vlc = s.vlc
      ∧ (closeObject mark i s).tbs = s.tbs
      ∧ (closeObject mark i s).cmu = s.cmu
      ∧ (closeObject mark i s).lki = s.lki
      ∧ (closeObject mark i s).rpu = s.rpu
      ∧ (closeObject mark i s).pending = s.pending := by
  simp only [closeObject]
  repeat' split
  all_goals simp_all

@[simp] theorem closeAllObjects_keeps (s : State) :
    (closeAllObjects s).timeBase = s.timeBase
      ∧ (closeAllObjects s).bpu = s.bpu
      ∧ (closeAllObjects s).liu = s.liu
      ∧ (closeAllObjects s).capture = s.capture
      ∧ (closeAllObjects s).ejs = s.ejs
      ∧ (closeAllObjects s).vlc = s.vlc
      ∧ (closeAllObjects s).tbs = s.tbs
      ∧ (closeAllObjects s).cmu = s.cmu
      ∧ (closeAllObjects s).lki = s.lki
      ∧ (closeAllObjects s).rpu = s.rpu
      ∧ (closeAllObjects s).pending = s.pending := by
  unfold closeAllObjects
  have h := foldl_keeps (fun (t : State) (i : Nat) =>
      closeObject (fun f => { f with lineLoss := true }) i t)
    (fun t : State => (t.timeBase, t.bpu, t.liu, t.capture, t.ejs, t.vlc, t.tbs, t.cmu, t.lki,
      t.rpu, t.pending))
    (by intro t i; simp)
  simp only [Prod.mk.injEq] at h
  simp_all

@[simp] theorem emptyPlr_keeps (s : State) :
    (emptyPlr s).timeBase = s.timeBase
      ∧ (emptyPlr s).bpu = s.bpu
      ∧ (emptyPlr s).liu = s.liu
      ∧ (emptyPlr s).capture = s.capture
      ∧ (emptyPlr s).vdu = s.vdu
      ∧ (emptyPlr s).ejs = s.ejs
      ∧ (emptyPlr s).vlc = s.vlc
      ∧ (emptyPlr s).tbs = s.tbs
      ∧ (emptyPlr s).cmu = s.cmu
      ∧ (emptyPlr s).lki = s.lki
      ∧ (emptyPlr s).rpu = s.rpu
      ∧ (emptyPlr s).pending = s.pending := by
  simp only [emptyPlr]
  all_goals simp_all

@[simp] theorem closeAllRequest_keeps (s : State) :
    (closeAllRequest s).timeBase = s.timeBase
      ∧ (closeAllRequest s).bpu = s.bpu
      ∧ (closeAllRequest s).liu = s.liu
      ∧ (closeAllRequest s).capture = s.capture
      ∧ (closeAllRequest s).ejs = s.ejs
      ∧ (closeAllRequest s).vlc = s.vlc
      ∧ (closeAllRequest s).tbs = s.tbs
      ∧ (closeAllRequest s).cmu = s.cmu
      ∧ (closeAllRequest s).lki = s.lki
      ∧ (closeAllRequest s).rpu = s.rpu
      ∧ (closeAllRequest s).pending = s.pending := by
  simp only [closeAllRequest]
  all_goals simp_all

@[simp] theorem takeCloseAll_keeps (s : State) :
    (takeCloseAll s).timeBase = s.timeBase
      ∧ (takeCloseAll s).bpu = s.bpu
      ∧ (takeCloseAll s).liu = s.liu
      ∧ (takeCloseAll s).capture = s.capture
      ∧ (takeCloseAll s).ejs = s.ejs
      ∧ (takeCloseAll s).vlc = s.vlc
      ∧ (takeCloseAll s).tbs = s.tbs
      ∧ (takeCloseAll s).cmu = s.cmu
      ∧ (takeCloseAll s).lki = s.lki
      ∧ (takeCloseAll s).rpu = s.rpu
      ∧ (takeCloseAll s).pending = s.pending := by
  simp only [takeCloseAll]
  repeat' split
  all_goals simp_all

@[simp] theorem applyLostLine_keeps (s : State) :
    (applyLostLine s).timeBase = s.timeBase
      ∧ (applyLostLine s).bpu = s.bpu
      ∧ (applyLostLine s).liu = s.liu
      ∧ (applyLostLine s).capture = s.capture
      ∧ (applyLostLine s).ejs = s.ejs
      ∧ (applyLostLine s).vlc = s.vlc
      ∧ (applyLostLine s).tbs = s.tbs
      ∧ (applyLostLine s).cmu = s.cmu
      ∧ (applyLostLine s).lki = s.lki
      ∧ (applyLostLine s).pending = s.pending := by
  simp only [applyLostLine]
  repeat' split
  all_goals simp_all

@[simp] theorem applyLostLines_keeps (n : Nat) (s : State) :
    (applyLostLines n s).timeBase = s.timeBase
      ∧ (applyLostLines n s).bpu = s.bpu
      ∧ (applyLostLines n s).liu = s.liu
      ∧ (applyLostLines n s).capture = s.capture
      ∧ (applyLostLines n s).ejs = s.ejs
      ∧ (applyLostLines n s).vlc = s.vlc
      ∧ (applyLostLines n s).tbs = s.tbs
      ∧ (applyLostLines n s).cmu = s.cmu
      ∧ (applyLostLines n s).lki = s.lki
      ∧ (applyLostLines n s).pending = s.pending := by
  induction n generalizing s with
  | zero => simp [applyLostLines]
  | succ n ih =>
    unfold applyLostLines
    all_goals simp_all

@[simp] theorem truncate_keeps (overflow : Bool) (runs : List PlrRun) (s : State) :
    (truncate overflow runs s).timeBase = s.timeBase
      ∧ (truncate overflow runs s).bpu = s.bpu
      ∧ (truncate overflow runs s).liu = s.liu
      ∧ (truncate overflow runs s).capture = s.capture
      ∧ (truncate overflow runs s).vdu = s.vdu
      ∧ (truncate overflow runs s).ejs = s.ejs
      ∧ (truncate overflow runs s).vlc = s.vlc
      ∧ (truncate overflow runs s).tbs = s.tbs
      ∧ (truncate overflow runs s).cmu = s.cmu
      ∧ (truncate overflow runs s).lki = s.lki
      ∧ (truncate overflow runs s).rpu = s.rpu
      ∧ (truncate overflow runs s).pending = s.pending := by
  simp only [truncate]
  repeat' split
  all_goals simp_all

@[simp] theorem closeAtEnd_keeps (runs : List PlrRun) (i : Nat) (s : State) :
    (closeAtEnd runs i s).timeBase = s.timeBase
      ∧ (closeAtEnd runs i s).bpu = s.bpu
      ∧ (closeAtEnd runs i s).liu = s.liu
      ∧ (closeAtEnd runs i s).capture = s.capture
      ∧ (closeAtEnd runs i s).ejs = s.ejs
      ∧ (closeAtEnd runs i s).vlc = s.vlc
      ∧ (closeAtEnd runs i s).tbs = s.tbs
      ∧ (closeAtEnd runs i s).cmu = s.cmu
      ∧ (closeAtEnd runs i s).lki = s.lki
      ∧ (closeAtEnd runs i s).rpu = s.rpu
      ∧ (closeAtEnd runs i s).pending = s.pending := by
  simp only [closeAtEnd]
  repeat' split
  all_goals simp_all

@[simp] theorem endLine_keeps (overflow : Bool) (runs : List PlrRun) (s : State) :
    (endLine overflow runs s).timeBase = s.timeBase
      ∧ (endLine overflow runs s).bpu = s.bpu
      ∧ (endLine overflow runs s).liu = s.liu
      ∧ (endLine overflow runs s).capture = s.capture
      ∧ (endLine overflow runs s).ejs = s.ejs
      ∧ (endLine overflow runs s).vlc = s.vlc
      ∧ (endLine overflow runs s).tbs = s.tbs
      ∧ (endLine overflow runs s).cmu = s.cmu
      ∧ (endLine overflow runs s).lki = s.lki
      ∧ (endLine overflow runs s).rpu = s.rpu
      ∧ (endLine overflow runs s).pending = s.pending := by
  unfold endLine
  have h := foldl_keeps (fun (x : State) (i : Nat) => closeAtEnd runs i x)
    (fun t : State => (t.timeBase, t.bpu, t.liu, t.capture, t.ejs, t.vlc, t.tbs, t.cmu, t.lki,
      t.rpu, t.pending))
    (by intro t i; simp)
  simp only [Prod.mk.injEq] at h
  simp_all

@[simp] theorem assembleLine_keeps (l : LineInAssembly) (s : State) :
    (assembleLine l s).timeBase = s.timeBase
      ∧ (assembleLine l s).bpu = s.bpu
      ∧ (assembleLine l s).liu = s.liu
      ∧ (assembleLine l s).capture = s.capture
      ∧ (assembleLine l s).vlc = s.vlc
      ∧ (assembleLine l s).cmu = s.cmu
      ∧ (assembleLine l s).pending = s.pending := by
  simp only [assembleLine]
  all_goals simp_all

@[simp] theorem applyLine_keeps (l : LineInAssembly) (s : State) :
    (applyLine l s).timeBase = s.timeBase
      ∧ (applyLine l s).bpu = s.bpu
      ∧ (applyLine l s).liu = s.liu
      ∧ (applyLine l s).capture = s.capture
      ∧ (applyLine l s).vlc = s.vlc
      ∧ (applyLine l s).cmu = s.cmu
      ∧ (applyLine l s).pending = s.pending := by
  simp only [applyLine]
  all_goals simp_all

@[simp] theorem abandonOpen_keeps (s : State) :
    (abandonOpen s).timeBase = s.timeBase
      ∧ (abandonOpen s).bpu = s.bpu
      ∧ (abandonOpen s).liu = s.liu
      ∧ (abandonOpen s).capture = s.capture
      ∧ (abandonOpen s).vdu = s.vdu
      ∧ (abandonOpen s).ejs = s.ejs
      ∧ (abandonOpen s).vlc = s.vlc
      ∧ (abandonOpen s).tbs = s.tbs
      ∧ (abandonOpen s).cmu = s.cmu
      ∧ (abandonOpen s).lki = s.lki
      ∧ (abandonOpen s).pending = s.pending := by
  simp only [abandonOpen]
  all_goals simp_all

@[simp] theorem abandonClosing_keeps (s : State) :
    (abandonClosing s).timeBase = s.timeBase
      ∧ (abandonClosing s).bpu = s.bpu
      ∧ (abandonClosing s).liu = s.liu
      ∧ (abandonClosing s).capture = s.capture
      ∧ (abandonClosing s).vdu = s.vdu
      ∧ (abandonClosing s).ejs = s.ejs
      ∧ (abandonClosing s).vlc = s.vlc
      ∧ (abandonClosing s).tbs = s.tbs
      ∧ (abandonClosing s).cmu = s.cmu
      ∧ (abandonClosing s).lki = s.lki
      ∧ (abandonClosing s).pending = s.pending := by
  simp only [abandonClosing]
  all_goals simp_all

@[simp] theorem emptyAssembler_keeps (s : State) :
    (emptyAssembler s).timeBase = s.timeBase
      ∧ (emptyAssembler s).bpu = s.bpu
      ∧ (emptyAssembler s).liu = s.liu
      ∧ (emptyAssembler s).capture = s.capture
      ∧ (emptyAssembler s).vdu = s.vdu
      ∧ (emptyAssembler s).ejs = s.ejs
      ∧ (emptyAssembler s).vlc = s.vlc
      ∧ (emptyAssembler s).tbs = s.tbs
      ∧ (emptyAssembler s).cmu = s.cmu
      ∧ (emptyAssembler s).lki = s.lki
      ∧ (emptyAssembler s).pending = s.pending := by
  simp only [emptyAssembler]
  all_goals simp_all

end Sys2Proof.Machine
end

