-- ==== Sys2Proof/Laws/Intake.lean ====
section
/-! SUPPORT. What the operations of the Line Intake Unit leave unchanged: one lemma each. -/

namespace Sys2Proof.Machine

@[simp] theorem emptyRing_keeps (s : State) :
    (emptyRing s).timeBase = s.timeBase
      ∧ (emptyRing s).bpu = s.bpu
      ∧ (emptyRing s).capture = s.capture
      ∧ (emptyRing s).ejs = s.ejs
      ∧ (emptyRing s).vlc = s.vlc
      ∧ (emptyRing s).tbs = s.tbs
      ∧ (emptyRing s).cmu = s.cmu
      ∧ (emptyRing s).lki = s.lki
      ∧ (emptyRing s).rpu = s.rpu
      ∧ (emptyRing s).pending = s.pending := by
  simp only [emptyRing]
  all_goals simp_all

@[simp] theorem freeSlot_keeps (index : Nat) (s : State) :
    (freeSlot index s).timeBase = s.timeBase
      ∧ (freeSlot index s).bpu = s.bpu
      ∧ (freeSlot index s).capture = s.capture
      ∧ (freeSlot index s).oas = s.oas
      ∧ (freeSlot index s).vdu = s.vdu
      ∧ (freeSlot index s).ejs = s.ejs
      ∧ (freeSlot index s).vlc = s.vlc
      ∧ (freeSlot index s).tbs = s.tbs
      ∧ (freeSlot index s).cmu = s.cmu
      ∧ (freeSlot index s).lki = s.lki
      ∧ (freeSlot index s).rpu = s.rpu
      ∧ (freeSlot index s).pending = s.pending := by
  simp only [freeSlot]
  all_goals simp_all

@[simp] theorem setRingSlot_keeps (slot : RingSlot) (s : State) :
    (setRingSlot slot s).timeBase = s.timeBase
      ∧ (setRingSlot slot s).bpu = s.bpu
      ∧ (setRingSlot slot s).capture = s.capture
      ∧ (setRingSlot slot s).oas = s.oas
      ∧ (setRingSlot slot s).vdu = s.vdu
      ∧ (setRingSlot slot s).ejs = s.ejs
      ∧ (setRingSlot slot s).vlc = s.vlc
      ∧ (setRingSlot slot s).tbs = s.tbs
      ∧ (setRingSlot slot s).cmu = s.cmu
      ∧ (setRingSlot slot s).lki = s.lki
      ∧ (setRingSlot slot s).rpu = s.rpu
      ∧ (setRingSlot slot s).pending = s.pending := by
  simp only [setRingSlot]
  all_goals simp_all

@[simp] theorem takeRow_keeps (slot : RingSlot) (s : State) :
    (takeRow slot s).timeBase = s.timeBase
      ∧ (takeRow slot s).bpu = s.bpu
      ∧ (takeRow slot s).capture = s.capture
      ∧ (takeRow slot s).vdu = s.vdu
      ∧ (takeRow slot s).ejs = s.ejs
      ∧ (takeRow slot s).vlc = s.vlc
      ∧ (takeRow slot s).tbs = s.tbs
      ∧ (takeRow slot s).cmu = s.cmu
      ∧ (takeRow slot s).lki = s.lki
      ∧ (takeRow slot s).pending = s.pending := by
  simp only [takeRow]
  all_goals simp_all

@[simp] theorem takeSlot_keeps (slot : RingSlot) (s : State) :
    (takeSlot slot s).timeBase = s.timeBase
      ∧ (takeSlot slot s).bpu = s.bpu
      ∧ (takeSlot slot s).capture = s.capture
      ∧ (takeSlot slot s).ejs = s.ejs
      ∧ (takeSlot slot s).vlc = s.vlc
      ∧ (takeSlot slot s).pending = s.pending
      ∧ (takeSlot slot s).cmu.engine = s.cmu.engine
      ∧ (takeSlot slot s).cmu.unit = s.cmu.unit
      ∧ (takeSlot slot s).cmu.cause = s.cmu.cause
      ∧ (takeSlot slot s).cmu.config = s.cmu.config
      ∧ (takeSlot slot s).cmu.causes = s.cmu.causes := by
  simp only [takeSlot]
  repeat' split
  all_goals simp_all

@[simp] theorem deliverSlot_keeps (slot : RingSlot) (s : State) :
    (deliverSlot slot s).timeBase = s.timeBase
      ∧ (deliverSlot slot s).bpu = s.bpu
      ∧ (deliverSlot slot s).ejs = s.ejs
      ∧ (deliverSlot slot s).vlc = s.vlc
      ∧ (deliverSlot slot s).pending = s.pending
      ∧ (deliverSlot slot s).cmu.engine = s.cmu.engine
      ∧ (deliverSlot slot s).cmu.unit = s.cmu.unit
      ∧ (deliverSlot slot s).cmu.cause = s.cmu.cause
      ∧ (deliverSlot slot s).cmu.config = s.cmu.config
      ∧ (deliverSlot slot s).cmu.causes = s.cmu.causes := by
  simp only [deliverSlot]
  repeat' split
  all_goals simp_all

@[simp] theorem deliverOne_keeps (s : State) :
    (deliverOne s).timeBase = s.timeBase
      ∧ (deliverOne s).bpu = s.bpu
      ∧ (deliverOne s).ejs = s.ejs
      ∧ (deliverOne s).vlc = s.vlc
      ∧ (deliverOne s).pending = s.pending
      ∧ (deliverOne s).cmu.engine = s.cmu.engine
      ∧ (deliverOne s).cmu.unit = s.cmu.unit
      ∧ (deliverOne s).cmu.cause = s.cmu.cause
      ∧ (deliverOne s).cmu.config = s.cmu.config
      ∧ (deliverOne s).cmu.causes = s.cmu.causes := by
  simp only [deliverOne]
  repeat' split
  all_goals simp_all

@[simp] theorem deliverN_keeps (n : Nat) (s : State) :
    (deliverN n s).timeBase = s.timeBase
      ∧ (deliverN n s).bpu = s.bpu
      ∧ (deliverN n s).ejs = s.ejs
      ∧ (deliverN n s).vlc = s.vlc
      ∧ (deliverN n s).pending = s.pending
      ∧ (deliverN n s).cmu.engine = s.cmu.engine
      ∧ (deliverN n s).cmu.unit = s.cmu.unit
      ∧ (deliverN n s).cmu.cause = s.cmu.cause
      ∧ (deliverN n s).cmu.config = s.cmu.config
      ∧ (deliverN n s).cmu.causes = s.cmu.causes := by
  induction n generalizing s with
  | zero => simp [deliverN]
  | succ n ih =>
    unfold deliverN
    all_goals simp_all

@[simp] theorem deliver_keeps (s : State) :
    (deliver s).timeBase = s.timeBase
      ∧ (deliver s).bpu = s.bpu
      ∧ (deliver s).ejs = s.ejs
      ∧ (deliver s).vlc = s.vlc
      ∧ (deliver s).pending = s.pending
      ∧ (deliver s).cmu.engine = s.cmu.engine
      ∧ (deliver s).cmu.unit = s.cmu.unit
      ∧ (deliver s).cmu.cause = s.cmu.cause
      ∧ (deliver s).cmu.config = s.cmu.config
      ∧ (deliver s).cmu.causes = s.cmu.causes := by
  simp only [deliver]
  all_goals simp_all

@[simp] theorem leaveLocked_keeps (before : SyncState) (s : State) :
    (leaveLocked before s).timeBase = s.timeBase
      ∧ (leaveLocked before s).bpu = s.bpu
      ∧ (leaveLocked before s).liu = s.liu
      ∧ (leaveLocked before s).oas = s.oas
      ∧ (leaveLocked before s).vdu = s.vdu
      ∧ (leaveLocked before s).ejs = s.ejs
      ∧ (leaveLocked before s).vlc = s.vlc
      ∧ (leaveLocked before s).tbs = s.tbs
      ∧ (leaveLocked before s).pending = s.pending
      ∧ (leaveLocked before s).cmu.engine = s.cmu.engine
      ∧ (leaveLocked before s).cmu.unit = s.cmu.unit
      ∧ (leaveLocked before s).cmu.cause = s.cmu.cause
      ∧ (leaveLocked before s).cmu.config = s.cmu.config
      ∧ (leaveLocked before s).cmu.causes = s.cmu.causes := by
  simp only [leaveLocked]
  repeat' split
  all_goals simp_all

@[simp] theorem requestCloseAll_keeps (s : State) :
    (requestCloseAll s).timeBase = s.timeBase
      ∧ (requestCloseAll s).bpu = s.bpu
      ∧ (requestCloseAll s).liu = s.liu
      ∧ (requestCloseAll s).capture = s.capture
      ∧ (requestCloseAll s).ejs = s.ejs
      ∧ (requestCloseAll s).vlc = s.vlc
      ∧ (requestCloseAll s).tbs = s.tbs
      ∧ (requestCloseAll s).cmu = s.cmu
      ∧ (requestCloseAll s).lki = s.lki
      ∧ (requestCloseAll s).rpu = s.rpu
      ∧ (requestCloseAll s).pending = s.pending := by
  simp only [requestCloseAll]
  repeat' split
  all_goals simp_all

@[simp] theorem enterHunt1_keeps (cause : HuntCause) (offset : LineNo) (s : State) :
    (enterHunt1 cause offset s).timeBase = s.timeBase
      ∧ (enterHunt1 cause offset s).bpu = s.bpu
      ∧ (enterHunt1 cause offset s).ejs = s.ejs
      ∧ (enterHunt1 cause offset s).vlc = s.vlc
      ∧ (enterHunt1 cause offset s).tbs = s.tbs
      ∧ (enterHunt1 cause offset s).pending = s.pending
      ∧ (enterHunt1 cause offset s).cmu.engine = s.cmu.engine
      ∧ (enterHunt1 cause offset s).cmu.unit = s.cmu.unit
      ∧ (enterHunt1 cause offset s).cmu.cause = s.cmu.cause
      ∧ (enterHunt1 cause offset s).cmu.config = s.cmu.config
      ∧ (enterHunt1 cause offset s).cmu.causes = s.cmu.causes := by
  simp only [enterHunt1]
  all_goals simp_all

@[simp] theorem lossEvent_keeps (s : State) :
    (lossEvent s).timeBase = s.timeBase
      ∧ (lossEvent s).bpu = s.bpu
      ∧ (lossEvent s).ejs = s.ejs
      ∧ (lossEvent s).vlc = s.vlc
      ∧ (lossEvent s).tbs = s.tbs
      ∧ (lossEvent s).pending = s.pending
      ∧ (lossEvent s).cmu.engine = s.cmu.engine
      ∧ (lossEvent s).cmu.unit = s.cmu.unit
      ∧ (lossEvent s).cmu.cause = s.cmu.cause
      ∧ (lossEvent s).cmu.config = s.cmu.config
      ∧ (lossEvent s).cmu.causes = s.cmu.causes := by
  simp only [lossEvent]
  repeat' split
  all_goals simp_all

@[simp] theorem syncLoss_keeps (s : State) :
    (syncLoss s).timeBase = s.timeBase
      ∧ (syncLoss s).bpu = s.bpu
      ∧ (syncLoss s).ejs = s.ejs
      ∧ (syncLoss s).vlc = s.vlc
      ∧ (syncLoss s).tbs = s.tbs
      ∧ (syncLoss s).pending = s.pending
      ∧ (syncLoss s).cmu.engine = s.cmu.engine
      ∧ (syncLoss s).cmu.unit = s.cmu.unit
      ∧ (syncLoss s).cmu.cause = s.cmu.cause
      ∧ (syncLoss s).cmu.config = s.cmu.config
      ∧ (syncLoss s).cmu.causes = s.cmu.causes := by
  simp only [syncLoss]
  repeat' split
  all_goals simp_all

@[simp] theorem syncPartial_keeps (s : State) :
    (syncPartial s).timeBase = s.timeBase
      ∧ (syncPartial s).bpu = s.bpu
      ∧ (syncPartial s).capture = s.capture
      ∧ (syncPartial s).oas = s.oas
      ∧ (syncPartial s).vdu = s.vdu
      ∧ (syncPartial s).ejs = s.ejs
      ∧ (syncPartial s).vlc = s.vlc
      ∧ (syncPartial s).tbs = s.tbs
      ∧ (syncPartial s).cmu = s.cmu
      ∧ (syncPartial s).lki = s.lki
      ∧ (syncPartial s).rpu = s.rpu
      ∧ (syncPartial s).pending = s.pending := by
  simp only [syncPartial]
  repeat' split
  all_goals simp_all

@[simp] theorem lock_keeps (s : State) :
    (lock s).timeBase = s.timeBase
      ∧ (lock s).bpu = s.bpu
      ∧ (lock s).capture = s.capture
      ∧ (lock s).oas = s.oas
      ∧ (lock s).vdu = s.vdu
      ∧ (lock s).ejs = s.ejs
      ∧ (lock s).vlc = s.vlc
      ∧ (lock s).tbs = s.tbs
      ∧ (lock s).cmu = s.cmu
      ∧ (lock s).pending = s.pending := by
  simp only [lock]
  all_goals simp_all

@[simp] theorem huntComplete_keeps (s : State) :
    (huntComplete s).timeBase = s.timeBase
      ∧ (huntComplete s).bpu = s.bpu
      ∧ (huntComplete s).capture = s.capture
      ∧ (huntComplete s).oas = s.oas
      ∧ (huntComplete s).vdu = s.vdu
      ∧ (huntComplete s).ejs = s.ejs
      ∧ (huntComplete s).vlc = s.vlc
      ∧ (huntComplete s).tbs = s.tbs
      ∧ (huntComplete s).cmu = s.cmu
      ∧ (huntComplete s).pending = s.pending := by
  simp only [huntComplete]
  repeat' split
  all_goals simp_all

@[simp] theorem syncComplete_keeps (s : State) :
    (syncComplete s).timeBase = s.timeBase
      ∧ (syncComplete s).bpu = s.bpu
      ∧ (syncComplete s).capture = s.capture
      ∧ (syncComplete s).oas = s.oas
      ∧ (syncComplete s).vdu = s.vdu
      ∧ (syncComplete s).ejs = s.ejs
      ∧ (syncComplete s).vlc = s.vlc
      ∧ (syncComplete s).tbs = s.tbs
      ∧ (syncComplete s).cmu = s.cmu
      ∧ (syncComplete s).pending = s.pending := by
  simp only [syncComplete]
  repeat' split
  all_goals simp_all

@[simp] theorem enterHunt2_keeps (s : State) :
    (enterHunt2 s).timeBase = s.timeBase
      ∧ (enterHunt2 s).bpu = s.bpu
      ∧ (enterHunt2 s).capture = s.capture
      ∧ (enterHunt2 s).oas = s.oas
      ∧ (enterHunt2 s).vdu = s.vdu
      ∧ (enterHunt2 s).ejs = s.ejs
      ∧ (enterHunt2 s).vlc = s.vlc
      ∧ (enterHunt2 s).tbs = s.tbs
      ∧ (enterHunt2 s).cmu = s.cmu
      ∧ (enterHunt2 s).pending = s.pending := by
  simp only [enterHunt2]
  all_goals simp_all

@[simp] theorem enterFailed_keeps (s : State) :
    (enterFailed s).timeBase = s.timeBase
      ∧ (enterFailed s).bpu = s.bpu
      ∧ (enterFailed s).capture = s.capture
      ∧ (enterFailed s).ejs = s.ejs
      ∧ (enterFailed s).vlc = s.vlc
      ∧ (enterFailed s).tbs = s.tbs
      ∧ (enterFailed s).pending = s.pending
      ∧ (enterFailed s).cmu.engine = s.cmu.engine
      ∧ (enterFailed s).cmu.unit = s.cmu.unit
      ∧ (enterFailed s).cmu.cause = s.cmu.cause
      ∧ (enterFailed s).cmu.executing = s.cmu.executing
      ∧ (enterFailed s).cmu.config = s.cmu.config := by
  simp only [enterFailed]
  all_goals simp_all

@[simp] theorem huntTimeout_keeps (s : State) :
    (huntTimeout s).timeBase = s.timeBase
      ∧ (huntTimeout s).bpu = s.bpu
      ∧ (huntTimeout s).capture = s.capture
      ∧ (huntTimeout s).ejs = s.ejs
      ∧ (huntTimeout s).vlc = s.vlc
      ∧ (huntTimeout s).tbs = s.tbs
      ∧ (huntTimeout s).pending = s.pending
      ∧ (huntTimeout s).cmu.engine = s.cmu.engine
      ∧ (huntTimeout s).cmu.unit = s.cmu.unit
      ∧ (huntTimeout s).cmu.cause = s.cmu.cause
      ∧ (huntTimeout s).cmu.executing = s.cmu.executing
      ∧ (huntTimeout s).cmu.config = s.cmu.config := by
  simp only [huntTimeout]
  repeat' split
  all_goals simp_all

@[simp] theorem huntAdvance_keeps (s : State) :
    (huntAdvance s).timeBase = s.timeBase
      ∧ (huntAdvance s).bpu = s.bpu
      ∧ (huntAdvance s).capture = s.capture
      ∧ (huntAdvance s).ejs = s.ejs
      ∧ (huntAdvance s).vlc = s.vlc
      ∧ (huntAdvance s).tbs = s.tbs
      ∧ (huntAdvance s).pending = s.pending
      ∧ (huntAdvance s).cmu.engine = s.cmu.engine
      ∧ (huntAdvance s).cmu.unit = s.cmu.unit
      ∧ (huntAdvance s).cmu.cause = s.cmu.cause
      ∧ (huntAdvance s).cmu.executing = s.cmu.executing
      ∧ (huntAdvance s).cmu.config = s.cmu.config := by
  simp only [huntAdvance]
  repeat' split
  all_goals simp_all

@[simp] theorem settle_keeps (x : RingSlot) (s : State) :
    (settle x s).timeBase = s.timeBase
      ∧ (settle x s).bpu = s.bpu
      ∧ (settle x s).ejs = s.ejs
      ∧ (settle x s).vlc = s.vlc
      ∧ (settle x s).tbs = s.tbs
      ∧ (settle x s).pending = s.pending
      ∧ (settle x s).cmu.engine = s.cmu.engine
      ∧ (settle x s).cmu.unit = s.cmu.unit
      ∧ (settle x s).cmu.cause = s.cmu.cause
      ∧ (settle x s).cmu.config = s.cmu.config
      ∧ (settle x s).cmu.causes = s.cmu.causes := by
  simp only [settle]
  repeat' split
  all_goals simp_all

@[simp] theorem settleOldest_keeps (s : State) :
    (settleOldest s).timeBase = s.timeBase
      ∧ (settleOldest s).bpu = s.bpu
      ∧ (settleOldest s).ejs = s.ejs
      ∧ (settleOldest s).vlc = s.vlc
      ∧ (settleOldest s).pending = s.pending
      ∧ (settleOldest s).cmu.engine = s.cmu.engine
      ∧ (settleOldest s).cmu.unit = s.cmu.unit
      ∧ (settleOldest s).cmu.cause = s.cmu.cause
      ∧ (settleOldest s).cmu.config = s.cmu.config
      ∧ (settleOldest s).cmu.causes = s.cmu.causes := by
  simp only [settleOldest]
  repeat' split
  all_goals simp_all

@[simp] theorem settleN_keeps (n : Nat) (s : State) :
    (settleN n s).timeBase = s.timeBase
      ∧ (settleN n s).bpu = s.bpu
      ∧ (settleN n s).ejs = s.ejs
      ∧ (settleN n s).vlc = s.vlc
      ∧ (settleN n s).pending = s.pending
      ∧ (settleN n s).cmu.engine = s.cmu.engine
      ∧ (settleN n s).cmu.unit = s.cmu.unit
      ∧ (settleN n s).cmu.cause = s.cmu.cause
      ∧ (settleN n s).cmu.config = s.cmu.config
      ∧ (settleN n s).cmu.causes = s.cmu.causes := by
  induction n generalizing s with
  | zero => simp [settleN]
  | succ n ih =>
    unfold settleN
    all_goals simp_all

@[simp] theorem settleDue_keeps (s : State) :
    (settleDue s).timeBase = s.timeBase
      ∧ (settleDue s).bpu = s.bpu
      ∧ (settleDue s).ejs = s.ejs
      ∧ (settleDue s).vlc = s.vlc
      ∧ (settleDue s).pending = s.pending
      ∧ (settleDue s).cmu.engine = s.cmu.engine
      ∧ (settleDue s).cmu.unit = s.cmu.unit
      ∧ (settleDue s).cmu.cause = s.cmu.cause
      ∧ (settleDue s).cmu.config = s.cmu.config
      ∧ (settleDue s).cmu.causes = s.cmu.causes := by
  simp only [settleDue]
  all_goals simp_all

@[simp] theorem allocate_keeps (s : State) :
    (allocate s).timeBase = s.timeBase
      ∧ (allocate s).bpu = s.bpu
      ∧ (allocate s).capture = s.capture
      ∧ (allocate s).oas = s.oas
      ∧ (allocate s).vdu = s.vdu
      ∧ (allocate s).ejs = s.ejs
      ∧ (allocate s).vlc = s.vlc
      ∧ (allocate s).tbs = s.tbs
      ∧ (allocate s).cmu = s.cmu
      ∧ (allocate s).lki = s.lki
      ∧ (allocate s).pending = s.pending := by
  simp only [allocate]
  repeat' split
  all_goals simp_all

@[simp] theorem intakeTrigger_keeps (s : State) :
    (intakeTrigger s).timeBase = s.timeBase
      ∧ (intakeTrigger s).bpu = s.bpu
      ∧ (intakeTrigger s).ejs = s.ejs
      ∧ (intakeTrigger s).vlc = s.vlc
      ∧ (intakeTrigger s).pending = s.pending
      ∧ (intakeTrigger s).cmu.engine = s.cmu.engine
      ∧ (intakeTrigger s).cmu.unit = s.cmu.unit
      ∧ (intakeTrigger s).cmu.cause = s.cmu.cause
      ∧ (intakeTrigger s).cmu.config = s.cmu.config := by
  simp only [intakeTrigger]
  repeat' split
  all_goals simp_all

@[simp] theorem realign_keeps (m : LineNo) (s : State) :
    (realign m s).timeBase = s.timeBase
      ∧ (realign m s).bpu = s.bpu
      ∧ (realign m s).capture = s.capture
      ∧ (realign m s).oas = s.oas
      ∧ (realign m s).vdu = s.vdu
      ∧ (realign m s).ejs = s.ejs
      ∧ (realign m s).vlc = s.vlc
      ∧ (realign m s).tbs = s.tbs
      ∧ (realign m s).cmu = s.cmu
      ∧ (realign m s).lki = s.lki
      ∧ (realign m s).rpu = s.rpu
      ∧ (realign m s).pending = s.pending := by
  simp only [realign]
  repeat' split
  all_goals simp_all

@[simp] theorem fillSlot_keeps (part : List (Nat × Sample)) (x : RingSlot) (s : State) :
    (fillSlot part x s).timeBase = s.timeBase
      ∧ (fillSlot part x s).bpu = s.bpu
      ∧ (fillSlot part x s).ejs = s.ejs
      ∧ (fillSlot part x s).vlc = s.vlc
      ∧ (fillSlot part x s).pending = s.pending
      ∧ (fillSlot part x s).cmu.engine = s.cmu.engine
      ∧ (fillSlot part x s).cmu.unit = s.cmu.unit
      ∧ (fillSlot part x s).cmu.cause = s.cmu.cause
      ∧ (fillSlot part x s).cmu.config = s.cmu.config
      ∧ (fillSlot part x s).cmu.causes = s.cmu.causes := by
  simp only [fillSlot]
  repeat' split
  all_goals simp_all

@[simp] theorem matchFrame_keeps (m : LineNo) (part : List (Nat × Sample)) (s : State) :
    (matchFrame m part s).timeBase = s.timeBase
      ∧ (matchFrame m part s).bpu = s.bpu
      ∧ (matchFrame m part s).ejs = s.ejs
      ∧ (matchFrame m part s).vlc = s.vlc
      ∧ (matchFrame m part s).pending = s.pending
      ∧ (matchFrame m part s).cmu.engine = s.cmu.engine
      ∧ (matchFrame m part s).cmu.unit = s.cmu.unit
      ∧ (matchFrame m part s).cmu.cause = s.cmu.cause
      ∧ (matchFrame m part s).cmu.config = s.cmu.config
      ∧ (matchFrame m part s).cmu.causes = s.cmu.causes := by
  simp only [matchFrame]
  repeat' split
  all_goals simp_all

@[simp] theorem intakeFrame_keeps (payload : List Byte) (s : State) :
    (intakeFrame payload s).timeBase = s.timeBase
      ∧ (intakeFrame payload s).bpu = s.bpu
      ∧ (intakeFrame payload s).ejs = s.ejs
      ∧ (intakeFrame payload s).vlc = s.vlc
      ∧ (intakeFrame payload s).pending = s.pending
      ∧ (intakeFrame payload s).cmu.engine = s.cmu.engine
      ∧ (intakeFrame payload s).cmu.unit = s.cmu.unit
      ∧ (intakeFrame payload s).cmu.cause = s.cmu.cause
      ∧ (intakeFrame payload s).cmu.config = s.cmu.config
      ∧ (intakeFrame payload s).cmu.causes = s.cmu.causes := by
  simp only [intakeFrame]
  repeat' split
  all_goals simp_all

@[simp] theorem assemblyCompletes_keeps (s : State) :
    (assemblyCompletes s).timeBase = s.timeBase
      ∧ (assemblyCompletes s).bpu = s.bpu
      ∧ (assemblyCompletes s).vlc = s.vlc
      ∧ (assemblyCompletes s).pending = s.pending
      ∧ (assemblyCompletes s).cmu.engine = s.cmu.engine
      ∧ (assemblyCompletes s).cmu.unit = s.cmu.unit
      ∧ (assemblyCompletes s).cmu.cause = s.cmu.cause
      ∧ (assemblyCompletes s).cmu.config = s.cmu.config
      ∧ (assemblyCompletes s).cmu.causes = s.cmu.causes := by
  simp only [assemblyCompletes]
  repeat' split
  all_goals simp_all

@[simp] theorem abandonLine_keeps (s : State) :
    (abandonLine s).timeBase = s.timeBase
      ∧ (abandonLine s).bpu = s.bpu
      ∧ (abandonLine s).capture = s.capture
      ∧ (abandonLine s).vdu = s.vdu
      ∧ (abandonLine s).ejs = s.ejs
      ∧ (abandonLine s).vlc = s.vlc
      ∧ (abandonLine s).tbs = s.tbs
      ∧ (abandonLine s).cmu = s.cmu
      ∧ (abandonLine s).lki = s.lki
      ∧ (abandonLine s).rpu = s.rpu
      ∧ (abandonLine s).pending = s.pending := by
  simp only [abandonLine]
  repeat' split
  all_goals simp_all

@[simp] theorem closeAllFirst_keeps (s : State) :
    (closeAllFirst s).timeBase = s.timeBase
      ∧ (closeAllFirst s).bpu = s.bpu
      ∧ (closeAllFirst s).ejs = s.ejs
      ∧ (closeAllFirst s).vlc = s.vlc
      ∧ (closeAllFirst s).pending = s.pending
      ∧ (closeAllFirst s).cmu.engine = s.cmu.engine
      ∧ (closeAllFirst s).cmu.unit = s.cmu.unit
      ∧ (closeAllFirst s).cmu.cause = s.cmu.cause
      ∧ (closeAllFirst s).cmu.config = s.cmu.config
      ∧ (closeAllFirst s).cmu.causes = s.cmu.causes := by
  simp only [closeAllFirst]
  repeat' split
  all_goals simp_all

end Sys2Proof.Machine
end

