-- ==== Sys2Proof/Laws/Engine.lean ====
section
/-! SUPPORT. What the operations of the engine states leave unchanged: one lemma each. -/

namespace Sys2Proof.Machine

@[simp] theorem State.setEngine_keeps (s : State) (e : EngineState) :
    (s.setEngine e).timeBase = s.timeBase
      ∧ (s.setEngine e).bpu = s.bpu
      ∧ (s.setEngine e).liu = s.liu
      ∧ (s.setEngine e).capture = s.capture
      ∧ (s.setEngine e).oas = s.oas
      ∧ (s.setEngine e).vdu = s.vdu
      ∧ (s.setEngine e).ejs = s.ejs
      ∧ (s.setEngine e).vlc = s.vlc
      ∧ (s.setEngine e).tbs = s.tbs
      ∧ (s.setEngine e).lki = s.lki
      ∧ (s.setEngine e).rpu = s.rpu
      ∧ (s.setEngine e).pending = s.pending
      ∧ (s.setEngine e).cmu.unit = s.cmu.unit
      ∧ (s.setEngine e).cmu.cause = s.cmu.cause
      ∧ (s.setEngine e).cmu.executing = s.cmu.executing
      ∧ (s.setEngine e).cmu.config = s.cmu.config
      ∧ (s.setEngine e).cmu.causes = s.cmu.causes := by
  simp [State.setEngine]

@[simp] theorem endAborted_keeps (s : State) :
    (endAborted s).timeBase = s.timeBase
      ∧ (endAborted s).bpu = s.bpu
      ∧ (endAborted s).liu = s.liu
      ∧ (endAborted s).oas = s.oas
      ∧ (endAborted s).vdu = s.vdu
      ∧ (endAborted s).ejs = s.ejs
      ∧ (endAborted s).pending = s.pending
      ∧ (endAborted s).cmu.engine = s.cmu.engine
      ∧ (endAborted s).cmu.unit = s.cmu.unit
      ∧ (endAborted s).cmu.cause = s.cmu.cause
      ∧ (endAborted s).cmu.config = s.cmu.config
      ∧ (endAborted s).cmu.causes = s.cmu.causes := by
  simp only [endAborted]
  repeat' split
  all_goals simp_all

@[simp] theorem faultEffects_keeps (c : FaultCause) (s : State) :
    (faultEffects c s).timeBase = s.timeBase
      ∧ (faultEffects c s).bpu = s.bpu
      ∧ (faultEffects c s).capture = s.capture
      ∧ (faultEffects c s).tbs = s.tbs
      ∧ (faultEffects c s).lki = s.lki
      ∧ (faultEffects c s).pending = s.pending
      ∧ (faultEffects c s).cmu.unit = s.cmu.unit
      ∧ (faultEffects c s).cmu.executing = s.cmu.executing
      ∧ (faultEffects c s).cmu.config = s.cmu.config := by
  simp only [faultEffects]
  all_goals simp_all

@[simp] theorem enterFault_keeps (c : FaultCause) (s : State) :
    (enterFault c s).timeBase = s.timeBase
      ∧ (enterFault c s).bpu = s.bpu
      ∧ (enterFault c s).pending = s.pending
      ∧ (enterFault c s).cmu.unit = s.cmu.unit
      ∧ (enterFault c s).cmu.config = s.cmu.config := by
  simp only [enterFault]
  all_goals simp_all

@[simp] theorem takeLater_keeps (c : FaultCause) (s : State) :
    (takeLater c s).timeBase = s.timeBase
      ∧ (takeLater c s).bpu = s.bpu
      ∧ (takeLater c s).liu = s.liu
      ∧ (takeLater c s).capture = s.capture
      ∧ (takeLater c s).oas = s.oas
      ∧ (takeLater c s).vdu = s.vdu
      ∧ (takeLater c s).ejs = s.ejs
      ∧ (takeLater c s).vlc = s.vlc
      ∧ (takeLater c s).tbs = s.tbs
      ∧ (takeLater c s).lki = s.lki
      ∧ (takeLater c s).pending = s.pending
      ∧ (takeLater c s).cmu.engine = s.cmu.engine
      ∧ (takeLater c s).cmu.unit = s.cmu.unit
      ∧ (takeLater c s).cmu.cause = s.cmu.cause
      ∧ (takeLater c s).cmu.executing = s.cmu.executing
      ∧ (takeLater c s).cmu.config = s.cmu.config := by
  simp only [takeLater]
  repeat' split
  all_goals simp_all

@[simp] theorem takeCause_keeps (c : FaultCause) (s : State) :
    (takeCause c s).timeBase = s.timeBase
      ∧ (takeCause c s).bpu = s.bpu
      ∧ (takeCause c s).pending = s.pending
      ∧ (takeCause c s).cmu.unit = s.cmu.unit
      ∧ (takeCause c s).cmu.config = s.cmu.config := by
  simp only [takeCause]
  repeat' split
  all_goals simp_all

@[simp] theorem runOut_keeps (s : State) :
    (runOut s).timeBase = s.timeBase
      ∧ (runOut s).bpu = s.bpu
      ∧ (runOut s).liu = s.liu
      ∧ (runOut s).capture = s.capture
      ∧ (runOut s).oas = s.oas
      ∧ (runOut s).vdu = s.vdu
      ∧ (runOut s).ejs = s.ejs
      ∧ (runOut s).vlc = s.vlc
      ∧ (runOut s).tbs = s.tbs
      ∧ (runOut s).pending = s.pending
      ∧ (runOut s).cmu.unit = s.cmu.unit
      ∧ (runOut s).cmu.cause = s.cmu.cause
      ∧ (runOut s).cmu.config = s.cmu.config := by
  simp only [runOut]
  all_goals simp_all

@[simp] theorem drainRunsOut_keeps (s : State) :
    (drainRunsOut s).timeBase = s.timeBase
      ∧ (drainRunsOut s).bpu = s.bpu
      ∧ (drainRunsOut s).liu = s.liu
      ∧ (drainRunsOut s).capture = s.capture
      ∧ (drainRunsOut s).oas = s.oas
      ∧ (drainRunsOut s).vdu = s.vdu
      ∧ (drainRunsOut s).ejs = s.ejs
      ∧ (drainRunsOut s).vlc = s.vlc
      ∧ (drainRunsOut s).tbs = s.tbs
      ∧ (drainRunsOut s).pending = s.pending
      ∧ (drainRunsOut s).cmu.unit = s.cmu.unit
      ∧ (drainRunsOut s).cmu.cause = s.cmu.cause
      ∧ (drainRunsOut s).cmu.config = s.cmu.config := by
  simp only [drainRunsOut]
  repeat' split
  all_goals simp_all

@[simp] theorem finish_keeps (s : State) :
    (finish s).timeBase = s.timeBase
      ∧ (finish s).bpu = s.bpu
      ∧ (finish s).pending = s.pending
      ∧ (finish s).cmu.unit = s.cmu.unit
      ∧ (finish s).cmu.config = s.cmu.config := by
  simp only [finish]
  repeat' split
  all_goals simp_all

@[simp] theorem startSorting_keeps (s : State) :
    (startSorting s).timeBase = s.timeBase
      ∧ (startSorting s).bpu = s.bpu
      ∧ (startSorting s).ejs = s.ejs
      ∧ (startSorting s).vlc = s.vlc
      ∧ (startSorting s).pending = s.pending
      ∧ (startSorting s).cmu.unit = s.cmu.unit
      ∧ (startSorting s).cmu.cause = s.cmu.cause
      ∧ (startSorting s).cmu.config = s.cmu.config
      ∧ (startSorting s).cmu.causes = s.cmu.causes := by
  simp only [startSorting]
  all_goals simp_all

@[simp] theorem stopSorting_keeps (tag : Word16) (s : State) :
    (stopSorting tag s).timeBase = s.timeBase
      ∧ (stopSorting tag s).bpu = s.bpu
      ∧ (stopSorting tag s).ejs = s.ejs
      ∧ (stopSorting tag s).vlc = s.vlc
      ∧ (stopSorting tag s).pending = s.pending
      ∧ (stopSorting tag s).cmu.unit = s.cmu.unit
      ∧ (stopSorting tag s).cmu.cause = s.cmu.cause
      ∧ (stopSorting tag s).cmu.config = s.cmu.config
      ∧ (stopSorting tag s).cmu.causes = s.cmu.causes := by
  simp only [stopSorting]
  all_goals simp_all

@[simp] theorem flushDrain_keeps (s : State) :
    (flushDrain s).timeBase = s.timeBase
      ∧ (flushDrain s).bpu = s.bpu
      ∧ (flushDrain s).liu = s.liu
      ∧ (flushDrain s).capture = s.capture
      ∧ (flushDrain s).tbs = s.tbs
      ∧ (flushDrain s).lki = s.lki
      ∧ (flushDrain s).pending = s.pending
      ∧ (flushDrain s).cmu.unit = s.cmu.unit
      ∧ (flushDrain s).cmu.cause = s.cmu.cause
      ∧ (flushDrain s).cmu.executing = s.cmu.executing
      ∧ (flushDrain s).cmu.config = s.cmu.config := by
  simp only [flushDrain]
  all_goals simp_all

@[simp] theorem abortExecuting_keeps (s : State) :
    (abortExecuting s).timeBase = s.timeBase
      ∧ (abortExecuting s).bpu = s.bpu
      ∧ (abortExecuting s).liu = s.liu
      ∧ (abortExecuting s).pending = s.pending
      ∧ (abortExecuting s).cmu.unit = s.cmu.unit
      ∧ (abortExecuting s).cmu.cause = s.cmu.cause
      ∧ (abortExecuting s).cmu.config = s.cmu.config := by
  simp only [abortExecuting]
  repeat' split
  all_goals simp_all

@[simp] theorem clearFault_keeps (s : State) :
    (clearFault s).timeBase = s.timeBase
      ∧ (clearFault s).ejs = s.ejs
      ∧ (clearFault s).tbs = s.tbs
      ∧ (clearFault s).pending = s.pending
      ∧ (clearFault s).cmu.unit = s.cmu.unit
      ∧ (clearFault s).cmu.config = s.cmu.config := by
  simp only [clearFault]
  all_goals simp_all

@[simp] theorem configureBelt_keeps (old new : Configuration) (s : State) :
    (configureBelt old new s).timeBase = s.timeBase
      ∧ (configureBelt old new s).liu = s.liu
      ∧ (configureBelt old new s).capture = s.capture
      ∧ (configureBelt old new s).oas = s.oas
      ∧ (configureBelt old new s).vdu = s.vdu
      ∧ (configureBelt old new s).ejs = s.ejs
      ∧ (configureBelt old new s).vlc = s.vlc
      ∧ (configureBelt old new s).tbs = s.tbs
      ∧ (configureBelt old new s).cmu = s.cmu
      ∧ (configureBelt old new s).lki = s.lki
      ∧ (configureBelt old new s).rpu = s.rpu
      ∧ (configureBelt old new s).pending = s.pending := by
  simp only [configureBelt]
  repeat' split
  all_goals simp_all

@[simp] theorem configureDebt_keeps (new : Configuration) (s : State) :
    (configureDebt new s).timeBase = s.timeBase
      ∧ (configureDebt new s).liu = s.liu
      ∧ (configureDebt new s).capture = s.capture
      ∧ (configureDebt new s).oas = s.oas
      ∧ (configureDebt new s).vdu = s.vdu
      ∧ (configureDebt new s).ejs = s.ejs
      ∧ (configureDebt new s).vlc = s.vlc
      ∧ (configureDebt new s).tbs = s.tbs
      ∧ (configureDebt new s).cmu = s.cmu
      ∧ (configureDebt new s).pending = s.pending := by
  simp only [configureDebt]
  repeat' split
  all_goals simp_all

@[simp] theorem configureIntake_keeps (old new : Configuration) (s : State) :
    (configureIntake old new s).timeBase = s.timeBase
      ∧ (configureIntake old new s).bpu = s.bpu
      ∧ (configureIntake old new s).capture = s.capture
      ∧ (configureIntake old new s).ejs = s.ejs
      ∧ (configureIntake old new s).vlc = s.vlc
      ∧ (configureIntake old new s).tbs = s.tbs
      ∧ (configureIntake old new s).cmu = s.cmu
      ∧ (configureIntake old new s).lki = s.lki
      ∧ (configureIntake old new s).rpu = s.rpu
      ∧ (configureIntake old new s).pending = s.pending := by
  simp only [configureIntake]
  repeat' split
  all_goals simp_all

@[simp] theorem configureScrub_keeps (old new : Configuration) (s : State) :
    (configureScrub old new s).timeBase = s.timeBase
      ∧ (configureScrub old new s).bpu = s.bpu
      ∧ (configureScrub old new s).liu = s.liu
      ∧ (configureScrub old new s).capture = s.capture
      ∧ (configureScrub old new s).oas = s.oas
      ∧ (configureScrub old new s).vdu = s.vdu
      ∧ (configureScrub old new s).ejs = s.ejs
      ∧ (configureScrub old new s).vlc = s.vlc
      ∧ (configureScrub old new s).cmu = s.cmu
      ∧ (configureScrub old new s).lki = s.lki
      ∧ (configureScrub old new s).rpu = s.rpu
      ∧ (configureScrub old new s).pending = s.pending := by
  simp only [configureScrub]
  repeat' split
  all_goals simp_all

@[simp] theorem configure_keeps (new : Configuration) (s : State) :
    (configure new s).timeBase = s.timeBase
      ∧ (configure new s).capture = s.capture
      ∧ (configure new s).ejs = s.ejs
      ∧ (configure new s).vlc = s.vlc
      ∧ (configure new s).pending = s.pending
      ∧ (configure new s).cmu.engine = s.cmu.engine
      ∧ (configure new s).cmu.unit = s.cmu.unit
      ∧ (configure new s).cmu.cause = s.cmu.cause
      ∧ (configure new s).cmu.executing = s.cmu.executing
      ∧ (configure new s).cmu.causes = s.cmu.causes := by
  simp only [configure]
  all_goals simp_all

end Sys2Proof.Machine
end

