-- ==== Sys2Proof/Laws/Belt.lean ====
section
/-! SUPPORT. What the operations of the Belt Position Unit leave unchanged: one lemma each. -/

namespace Sys2Proof.Machine

@[simp] theorem mismatch_keeps (counted : Option Nat) (s : State) :
    (mismatch counted s).timeBase = s.timeBase
      ∧ (mismatch counted s).liu = s.liu
      ∧ (mismatch counted s).capture = s.capture
      ∧ (mismatch counted s).oas = s.oas
      ∧ (mismatch counted s).vdu = s.vdu
      ∧ (mismatch counted s).ejs = s.ejs
      ∧ (mismatch counted s).vlc = s.vlc
      ∧ (mismatch counted s).tbs = s.tbs
      ∧ (mismatch counted s).pending = s.pending
      ∧ (mismatch counted s).cmu.engine = s.cmu.engine
      ∧ (mismatch counted s).cmu.unit = s.cmu.unit
      ∧ (mismatch counted s).cmu.cause = s.cmu.cause
      ∧ (mismatch counted s).cmu.executing = s.cmu.executing
      ∧ (mismatch counted s).cmu.config = s.cmu.config := by
  simp only [mismatch]
  repeat' split
  all_goals simp_all

@[simp] theorem restartIndex_keeps (s : State) :
    (restartIndex s).timeBase = s.timeBase
      ∧ (restartIndex s).liu = s.liu
      ∧ (restartIndex s).capture = s.capture
      ∧ (restartIndex s).oas = s.oas
      ∧ (restartIndex s).vdu = s.vdu
      ∧ (restartIndex s).ejs = s.ejs
      ∧ (restartIndex s).vlc = s.vlc
      ∧ (restartIndex s).tbs = s.tbs
      ∧ (restartIndex s).cmu = s.cmu
      ∧ (restartIndex s).lki = s.lki
      ∧ (restartIndex s).rpu = s.rpu
      ∧ (restartIndex s).pending = s.pending := by
  simp only [restartIndex]
  all_goals simp_all

@[simp] theorem missingIndexTest_keeps (s : State) :
    (missingIndexTest s).timeBase = s.timeBase
      ∧ (missingIndexTest s).liu = s.liu
      ∧ (missingIndexTest s).capture = s.capture
      ∧ (missingIndexTest s).oas = s.oas
      ∧ (missingIndexTest s).vdu = s.vdu
      ∧ (missingIndexTest s).ejs = s.ejs
      ∧ (missingIndexTest s).vlc = s.vlc
      ∧ (missingIndexTest s).tbs = s.tbs
      ∧ (missingIndexTest s).pending = s.pending
      ∧ (missingIndexTest s).cmu.engine = s.cmu.engine
      ∧ (missingIndexTest s).cmu.unit = s.cmu.unit
      ∧ (missingIndexTest s).cmu.cause = s.cmu.cause
      ∧ (missingIndexTest s).cmu.executing = s.cmu.executing
      ∧ (missingIndexTest s).cmu.config = s.cmu.config := by
  simp only [missingIndexTest]
  repeat' split
  all_goals simp_all

@[simp] theorem indexEdge_keeps (s : State) :
    (indexEdge s).timeBase = s.timeBase
      ∧ (indexEdge s).liu = s.liu
      ∧ (indexEdge s).capture = s.capture
      ∧ (indexEdge s).oas = s.oas
      ∧ (indexEdge s).vdu = s.vdu
      ∧ (indexEdge s).ejs = s.ejs
      ∧ (indexEdge s).vlc = s.vlc
      ∧ (indexEdge s).tbs = s.tbs
      ∧ (indexEdge s).pending = s.pending
      ∧ (indexEdge s).cmu.engine = s.cmu.engine
      ∧ (indexEdge s).cmu.unit = s.cmu.unit
      ∧ (indexEdge s).cmu.cause = s.cmu.cause
      ∧ (indexEdge s).cmu.executing = s.cmu.executing
      ∧ (indexEdge s).cmu.config = s.cmu.config := by
  simp only [indexEdge]
  repeat' split
  all_goals simp_all

@[simp] theorem beltTrigger_keeps (s : State) :
    (beltTrigger s).timeBase = s.timeBase
      ∧ (beltTrigger s).liu = s.liu
      ∧ (beltTrigger s).capture = s.capture
      ∧ (beltTrigger s).oas = s.oas
      ∧ (beltTrigger s).vdu = s.vdu
      ∧ (beltTrigger s).ejs = s.ejs
      ∧ (beltTrigger s).vlc = s.vlc
      ∧ (beltTrigger s).tbs = s.tbs
      ∧ (beltTrigger s).cmu = s.cmu
      ∧ (beltTrigger s).lki = s.lki
      ∧ (beltTrigger s).pending = s.pending := by
  simp only [beltTrigger]
  repeat' split
  all_goals simp_all

@[simp] theorem lineTrigger_keeps (s : State) :
    (lineTrigger s).timeBase = s.timeBase
      ∧ (lineTrigger s).ejs = s.ejs
      ∧ (lineTrigger s).vlc = s.vlc
      ∧ (lineTrigger s).pending = s.pending
      ∧ (lineTrigger s).cmu.engine = s.cmu.engine
      ∧ (lineTrigger s).cmu.unit = s.cmu.unit
      ∧ (lineTrigger s).cmu.cause = s.cmu.cause
      ∧ (lineTrigger s).cmu.config = s.cmu.config := by
  simp only [lineTrigger]
  all_goals simp_all

@[simp] theorem lineTriggerTest_keeps (s : State) :
    (lineTriggerTest s).timeBase = s.timeBase
      ∧ (lineTriggerTest s).ejs = s.ejs
      ∧ (lineTriggerTest s).vlc = s.vlc
      ∧ (lineTriggerTest s).pending = s.pending
      ∧ (lineTriggerTest s).cmu.engine = s.cmu.engine
      ∧ (lineTriggerTest s).cmu.unit = s.cmu.unit
      ∧ (lineTriggerTest s).cmu.cause = s.cmu.cause
      ∧ (lineTriggerTest s).cmu.config = s.cmu.config := by
  simp only [lineTriggerTest]
  repeat' split
  all_goals simp_all

@[simp] theorem stepTravel_keeps (s : State) :
    (stepTravel s).timeBase = s.timeBase
      ∧ (stepTravel s).liu = s.liu
      ∧ (stepTravel s).capture = s.capture
      ∧ (stepTravel s).oas = s.oas
      ∧ (stepTravel s).vdu = s.vdu
      ∧ (stepTravel s).ejs = s.ejs
      ∧ (stepTravel s).vlc = s.vlc
      ∧ (stepTravel s).tbs = s.tbs
      ∧ (stepTravel s).cmu = s.cmu
      ∧ (stepTravel s).lki = s.lki
      ∧ (stepTravel s).rpu = s.rpu
      ∧ (stepTravel s).pending = s.pending := by
  simp only [stepTravel]
  all_goals simp_all

@[simp] theorem advance_keeps (s : State) :
    (advance s).timeBase = s.timeBase
      ∧ (advance s).pending = s.pending
      ∧ (advance s).cmu.engine = s.cmu.engine
      ∧ (advance s).cmu.unit = s.cmu.unit
      ∧ (advance s).cmu.cause = s.cmu.cause
      ∧ (advance s).cmu.config = s.cmu.config := by
  simp only [advance]
  all_goals simp_all

@[simp] theorem forwardEdge_keeps (s : State) :
    (forwardEdge s).timeBase = s.timeBase
      ∧ (forwardEdge s).pending = s.pending
      ∧ (forwardEdge s).cmu.engine = s.cmu.engine
      ∧ (forwardEdge s).cmu.unit = s.cmu.unit
      ∧ (forwardEdge s).cmu.cause = s.cmu.cause
      ∧ (forwardEdge s).cmu.config = s.cmu.config := by
  simp only [forwardEdge]
  repeat' split
  all_goals simp_all

@[simp] theorem reverseLimitHit_keeps (s : State) :
    (reverseLimitHit s).timeBase = s.timeBase
      ∧ (reverseLimitHit s).bpu = s.bpu
      ∧ (reverseLimitHit s).liu = s.liu
      ∧ (reverseLimitHit s).capture = s.capture
      ∧ (reverseLimitHit s).oas = s.oas
      ∧ (reverseLimitHit s).vdu = s.vdu
      ∧ (reverseLimitHit s).ejs = s.ejs
      ∧ (reverseLimitHit s).vlc = s.vlc
      ∧ (reverseLimitHit s).tbs = s.tbs
      ∧ (reverseLimitHit s).pending = s.pending
      ∧ (reverseLimitHit s).cmu.engine = s.cmu.engine
      ∧ (reverseLimitHit s).cmu.unit = s.cmu.unit
      ∧ (reverseLimitHit s).cmu.cause = s.cmu.cause
      ∧ (reverseLimitHit s).cmu.executing = s.cmu.executing
      ∧ (reverseLimitHit s).cmu.config = s.cmu.config := by
  simp only [reverseLimitHit]
  all_goals simp_all

@[simp] theorem reverseEdge_keeps (s : State) :
    (reverseEdge s).timeBase = s.timeBase
      ∧ (reverseEdge s).liu = s.liu
      ∧ (reverseEdge s).capture = s.capture
      ∧ (reverseEdge s).oas = s.oas
      ∧ (reverseEdge s).vdu = s.vdu
      ∧ (reverseEdge s).ejs = s.ejs
      ∧ (reverseEdge s).vlc = s.vlc
      ∧ (reverseEdge s).tbs = s.tbs
      ∧ (reverseEdge s).pending = s.pending
      ∧ (reverseEdge s).cmu.engine = s.cmu.engine
      ∧ (reverseEdge s).cmu.unit = s.cmu.unit
      ∧ (reverseEdge s).cmu.cause = s.cmu.cause
      ∧ (reverseEdge s).cmu.executing = s.cmu.executing
      ∧ (reverseEdge s).cmu.config = s.cmu.config := by
  simp only [reverseEdge]
  repeat' split
  all_goals simp_all

@[simp] theorem decodePair_keeps (old new : Bool × Bool) (s : State) :
    (decodePair old new s).timeBase = s.timeBase
      ∧ (decodePair old new s).pending = s.pending
      ∧ (decodePair old new s).cmu.engine = s.cmu.engine
      ∧ (decodePair old new s).cmu.unit = s.cmu.unit
      ∧ (decodePair old new s).cmu.cause = s.cmu.cause
      ∧ (decodePair old new s).cmu.config = s.cmu.config := by
  simp only [decodePair]
  repeat' split
  all_goals simp_all

@[simp] theorem acceptA_keeps (level : Bool) (s : State) :
    (acceptA level s).timeBase = s.timeBase
      ∧ (acceptA level s).liu = s.liu
      ∧ (acceptA level s).capture = s.capture
      ∧ (acceptA level s).oas = s.oas
      ∧ (acceptA level s).vdu = s.vdu
      ∧ (acceptA level s).ejs = s.ejs
      ∧ (acceptA level s).vlc = s.vlc
      ∧ (acceptA level s).tbs = s.tbs
      ∧ (acceptA level s).cmu = s.cmu
      ∧ (acceptA level s).lki = s.lki
      ∧ (acceptA level s).rpu = s.rpu
      ∧ (acceptA level s).pending = s.pending := by
  simp only [acceptA]
  repeat' split
  all_goals simp_all

@[simp] theorem acceptB_keeps (level : Bool) (s : State) :
    (acceptB level s).timeBase = s.timeBase
      ∧ (acceptB level s).liu = s.liu
      ∧ (acceptB level s).capture = s.capture
      ∧ (acceptB level s).oas = s.oas
      ∧ (acceptB level s).vdu = s.vdu
      ∧ (acceptB level s).ejs = s.ejs
      ∧ (acceptB level s).vlc = s.vlc
      ∧ (acceptB level s).tbs = s.tbs
      ∧ (acceptB level s).cmu = s.cmu
      ∧ (acceptB level s).lki = s.lki
      ∧ (acceptB level s).rpu = s.rpu
      ∧ (acceptB level s).pending = s.pending := by
  simp only [acceptB]
  repeat' split
  all_goals simp_all

@[simp] theorem acceptZ_keeps (level : Bool) (s : State) :
    (acceptZ level s).timeBase = s.timeBase
      ∧ (acceptZ level s).liu = s.liu
      ∧ (acceptZ level s).capture = s.capture
      ∧ (acceptZ level s).oas = s.oas
      ∧ (acceptZ level s).vdu = s.vdu
      ∧ (acceptZ level s).ejs = s.ejs
      ∧ (acceptZ level s).vlc = s.vlc
      ∧ (acceptZ level s).tbs = s.tbs
      ∧ (acceptZ level s).cmu = s.cmu
      ∧ (acceptZ level s).lki = s.lki
      ∧ (acceptZ level s).rpu = s.rpu
      ∧ (acceptZ level s).pending = s.pending := by
  simp only [acceptZ]
  repeat' split
  all_goals simp_all

@[simp] theorem timeA_keeps (level : Bool) (s : State) :
    (timeA level s).timeBase = s.timeBase
      ∧ (timeA level s).liu = s.liu
      ∧ (timeA level s).capture = s.capture
      ∧ (timeA level s).oas = s.oas
      ∧ (timeA level s).vdu = s.vdu
      ∧ (timeA level s).ejs = s.ejs
      ∧ (timeA level s).vlc = s.vlc
      ∧ (timeA level s).tbs = s.tbs
      ∧ (timeA level s).cmu = s.cmu
      ∧ (timeA level s).lki = s.lki
      ∧ (timeA level s).rpu = s.rpu
      ∧ (timeA level s).pending = s.pending := by
  simp [timeA]

@[simp] theorem timeB_keeps (level : Bool) (s : State) :
    (timeB level s).timeBase = s.timeBase
      ∧ (timeB level s).liu = s.liu
      ∧ (timeB level s).capture = s.capture
      ∧ (timeB level s).oas = s.oas
      ∧ (timeB level s).vdu = s.vdu
      ∧ (timeB level s).ejs = s.ejs
      ∧ (timeB level s).vlc = s.vlc
      ∧ (timeB level s).tbs = s.tbs
      ∧ (timeB level s).cmu = s.cmu
      ∧ (timeB level s).lki = s.lki
      ∧ (timeB level s).rpu = s.rpu
      ∧ (timeB level s).pending = s.pending := by
  simp [timeB]

@[simp] theorem timeZ_keeps (level : Bool) (s : State) :
    (timeZ level s).timeBase = s.timeBase
      ∧ (timeZ level s).liu = s.liu
      ∧ (timeZ level s).capture = s.capture
      ∧ (timeZ level s).oas = s.oas
      ∧ (timeZ level s).vdu = s.vdu
      ∧ (timeZ level s).ejs = s.ejs
      ∧ (timeZ level s).vlc = s.vlc
      ∧ (timeZ level s).tbs = s.tbs
      ∧ (timeZ level s).cmu = s.cmu
      ∧ (timeZ level s).lki = s.lki
      ∧ (timeZ level s).rpu = s.rpu
      ∧ (timeZ level s).pending = s.pending := by
  simp [timeZ]

@[simp] theorem stallExpires_keeps (s : State) :
    (stallExpires s).timeBase = s.timeBase
      ∧ (stallExpires s).liu = s.liu
      ∧ (stallExpires s).capture = s.capture
      ∧ (stallExpires s).oas = s.oas
      ∧ (stallExpires s).vdu = s.vdu
      ∧ (stallExpires s).ejs = s.ejs
      ∧ (stallExpires s).vlc = s.vlc
      ∧ (stallExpires s).tbs = s.tbs
      ∧ (stallExpires s).cmu = s.cmu
      ∧ (stallExpires s).lki = s.lki
      ∧ (stallExpires s).rpu = s.rpu
      ∧ (stallExpires s).pending = s.pending := by
  simp only [stallExpires]
  repeat' split
  all_goals simp_all

end Sys2Proof.Machine
end

