-- ==== Sys2Proof/Laws/Link.lean ====
section
/-! SUPPORT. What the operations of the Link Interface leave unchanged: one lemma each. -/

namespace Sys2Proof.Machine

@[simp] theorem joinForward_keeps (f : Frame) (s : State) :
    (joinForward f s).timeBase = s.timeBase
      ∧ (joinForward f s).bpu = s.bpu
      ∧ (joinForward f s).liu = s.liu
      ∧ (joinForward f s).capture = s.capture
      ∧ (joinForward f s).oas = s.oas
      ∧ (joinForward f s).vdu = s.vdu
      ∧ (joinForward f s).ejs = s.ejs
      ∧ (joinForward f s).vlc = s.vlc
      ∧ (joinForward f s).tbs = s.tbs
      ∧ (joinForward f s).cmu = s.cmu
      ∧ (joinForward f s).pending = s.pending := by
  simp only [joinForward]
  repeat' split
  all_goals simp_all

@[simp] theorem forward_keeps (f : Frame) (s : State) :
    (forward f s).timeBase = s.timeBase
      ∧ (forward f s).bpu = s.bpu
      ∧ (forward f s).liu = s.liu
      ∧ (forward f s).capture = s.capture
      ∧ (forward f s).oas = s.oas
      ∧ (forward f s).vdu = s.vdu
      ∧ (forward f s).ejs = s.ejs
      ∧ (forward f s).vlc = s.vlc
      ∧ (forward f s).tbs = s.tbs
      ∧ (forward f s).cmu = s.cmu
      ∧ (forward f s).pending = s.pending := by
  simp only [forward]
  repeat' split
  all_goals simp_all

@[simp] theorem arrive_keeps (s : State) :
    (arrive s).timeBase = s.timeBase
      ∧ (arrive s).bpu = s.bpu
      ∧ (arrive s).liu = s.liu
      ∧ (arrive s).capture = s.capture
      ∧ (arrive s).oas = s.oas
      ∧ (arrive s).vdu = s.vdu
      ∧ (arrive s).ejs = s.ejs
      ∧ (arrive s).vlc = s.vlc
      ∧ (arrive s).tbs = s.tbs
      ∧ (arrive s).cmu = s.cmu
      ∧ (arrive s).pending = s.pending := by
  simp only [arrive]
  all_goals simp_all

@[simp] theorem dropDi_keeps (s : State) :
    (dropDi s).timeBase = s.timeBase
      ∧ (dropDi s).bpu = s.bpu
      ∧ (dropDi s).liu = s.liu
      ∧ (dropDi s).capture = s.capture
      ∧ (dropDi s).oas = s.oas
      ∧ (dropDi s).vdu = s.vdu
      ∧ (dropDi s).ejs = s.ejs
      ∧ (dropDi s).vlc = s.vlc
      ∧ (dropDi s).tbs = s.tbs
      ∧ (dropDi s).cmu = s.cmu
      ∧ (dropDi s).pending = s.pending := by
  simp only [dropDi]
  all_goals simp_all

@[simp] theorem renumber_keeps (old n : Nat) (s : State) :
    (renumber old n s).timeBase = s.timeBase
      ∧ (renumber old n s).bpu = s.bpu
      ∧ (renumber old n s).liu = s.liu
      ∧ (renumber old n s).capture = s.capture
      ∧ (renumber old n s).oas = s.oas
      ∧ (renumber old n s).vdu = s.vdu
      ∧ (renumber old n s).ejs = s.ejs
      ∧ (renumber old n s).vlc = s.vlc
      ∧ (renumber old n s).tbs = s.tbs
      ∧ (renumber old n s).pending = s.pending
      ∧ (renumber old n s).cmu.engine = s.cmu.engine
      ∧ (renumber old n s).cmu.cause = s.cmu.cause
      ∧ (renumber old n s).cmu.executing = s.cmu.executing
      ∧ (renumber old n s).cmu.config = s.cmu.config := by
  simp only [renumber]
  all_goals simp_all

@[simp] theorem number_keeps (n : Nat) (s : State) :
    (number n s).timeBase = s.timeBase
      ∧ (number n s).bpu = s.bpu
      ∧ (number n s).ejs = s.ejs
      ∧ (number n s).vlc = s.vlc
      ∧ (number n s).tbs = s.tbs
      ∧ (number n s).pending = s.pending
      ∧ (number n s).cmu.cause = s.cmu.cause
      ∧ (number n s).cmu.config = s.cmu.config
      ∧ (number n s).cmu.causes = s.cmu.causes := by
  simp only [number]
  all_goals simp_all

@[simp] theorem honourPause_keeps (s : State) :
    (honourPause s).timeBase = s.timeBase
      ∧ (honourPause s).bpu = s.bpu
      ∧ (honourPause s).liu = s.liu
      ∧ (honourPause s).capture = s.capture
      ∧ (honourPause s).oas = s.oas
      ∧ (honourPause s).vdu = s.vdu
      ∧ (honourPause s).ejs = s.ejs
      ∧ (honourPause s).vlc = s.vlc
      ∧ (honourPause s).tbs = s.tbs
      ∧ (honourPause s).cmu = s.cmu
      ∧ (honourPause s).pending = s.pending := by
  simp only [honourPause]
  all_goals simp_all

@[simp] theorem setPauseDue_keeps (s : State) :
    (setPauseDue s).timeBase = s.timeBase
      ∧ (setPauseDue s).bpu = s.bpu
      ∧ (setPauseDue s).liu = s.liu
      ∧ (setPauseDue s).capture = s.capture
      ∧ (setPauseDue s).oas = s.oas
      ∧ (setPauseDue s).vdu = s.vdu
      ∧ (setPauseDue s).ejs = s.ejs
      ∧ (setPauseDue s).vlc = s.vlc
      ∧ (setPauseDue s).tbs = s.tbs
      ∧ (setPauseDue s).cmu = s.cmu
      ∧ (setPauseDue s).pending = s.pending := by
  simp only [setPauseDue]
  all_goals simp_all

@[simp] theorem enterPass_keeps (f : Frame) (s : State) :
    (enterPass f s).timeBase = s.timeBase
      ∧ (enterPass f s).bpu = s.bpu
      ∧ (enterPass f s).liu = s.liu
      ∧ (enterPass f s).capture = s.capture
      ∧ (enterPass f s).oas = s.oas
      ∧ (enterPass f s).vdu = s.vdu
      ∧ (enterPass f s).ejs = s.ejs
      ∧ (enterPass f s).vlc = s.vlc
      ∧ (enterPass f s).tbs = s.tbs
      ∧ (enterPass f s).cmu = s.cmu
      ∧ (enterPass f s).pending = s.pending := by
  simp only [enterPass]
  repeat' split
  all_goals simp_all

@[simp] theorem receiveRi_keeps (f : Frame) (s : State) :
    (receiveRi f s).timeBase = s.timeBase
      ∧ (receiveRi f s).bpu = s.bpu
      ∧ (receiveRi f s).liu = s.liu
      ∧ (receiveRi f s).capture = s.capture
      ∧ (receiveRi f s).oas = s.oas
      ∧ (receiveRi f s).vdu = s.vdu
      ∧ (receiveRi f s).ejs = s.ejs
      ∧ (receiveRi f s).vlc = s.vlc
      ∧ (receiveRi f s).tbs = s.tbs
      ∧ (receiveRi f s).cmu = s.cmu
      ∧ (receiveRi f s).pending = s.pending := by
  simp only [receiveRi]
  repeat' split
  all_goals simp_all

@[simp] theorem cutOff_keeps (s : State) :
    (cutOff s).timeBase = s.timeBase
      ∧ (cutOff s).bpu = s.bpu
      ∧ (cutOff s).liu = s.liu
      ∧ (cutOff s).capture = s.capture
      ∧ (cutOff s).oas = s.oas
      ∧ (cutOff s).vdu = s.vdu
      ∧ (cutOff s).ejs = s.ejs
      ∧ (cutOff s).vlc = s.vlc
      ∧ (cutOff s).tbs = s.tbs
      ∧ (cutOff s).cmu = s.cmu
      ∧ (cutOff s).pending = s.pending := by
  simp only [cutOff]
  repeat' split
  all_goals simp_all

@[simp] theorem linkGoesDown_keeps (s : State) :
    (linkGoesDown s).timeBase = s.timeBase
      ∧ (linkGoesDown s).bpu = s.bpu
      ∧ (linkGoesDown s).liu = s.liu
      ∧ (linkGoesDown s).capture = s.capture
      ∧ (linkGoesDown s).oas = s.oas
      ∧ (linkGoesDown s).vdu = s.vdu
      ∧ (linkGoesDown s).ejs = s.ejs
      ∧ (linkGoesDown s).vlc = s.vlc
      ∧ (linkGoesDown s).tbs = s.tbs
      ∧ (linkGoesDown s).pending = s.pending
      ∧ (linkGoesDown s).cmu.engine = s.cmu.engine
      ∧ (linkGoesDown s).cmu.unit = s.cmu.unit
      ∧ (linkGoesDown s).cmu.cause = s.cmu.cause
      ∧ (linkGoesDown s).cmu.executing = s.cmu.executing
      ∧ (linkGoesDown s).cmu.config = s.cmu.config := by
  simp only [linkGoesDown]
  all_goals simp_all

@[simp] theorem silenceExpires_keeps (s : State) :
    (silenceExpires s).timeBase = s.timeBase
      ∧ (silenceExpires s).bpu = s.bpu
      ∧ (silenceExpires s).liu = s.liu
      ∧ (silenceExpires s).capture = s.capture
      ∧ (silenceExpires s).oas = s.oas
      ∧ (silenceExpires s).vdu = s.vdu
      ∧ (silenceExpires s).ejs = s.ejs
      ∧ (silenceExpires s).vlc = s.vlc
      ∧ (silenceExpires s).tbs = s.tbs
      ∧ (silenceExpires s).pending = s.pending
      ∧ (silenceExpires s).cmu.engine = s.cmu.engine
      ∧ (silenceExpires s).cmu.unit = s.cmu.unit
      ∧ (silenceExpires s).cmu.cause = s.cmu.cause
      ∧ (silenceExpires s).cmu.executing = s.cmu.executing
      ∧ (silenceExpires s).cmu.config = s.cmu.config := by
  simp only [silenceExpires]
  repeat' split
  all_goals simp_all

@[simp] theorem receiveSymbols_keeps (sym : Symbols) (s : State) :
    (receiveSymbols sym s).timeBase = s.timeBase
      ∧ (receiveSymbols sym s).bpu = s.bpu
      ∧ (receiveSymbols sym s).liu = s.liu
      ∧ (receiveSymbols sym s).capture = s.capture
      ∧ (receiveSymbols sym s).oas = s.oas
      ∧ (receiveSymbols sym s).vdu = s.vdu
      ∧ (receiveSymbols sym s).ejs = s.ejs
      ∧ (receiveSymbols sym s).vlc = s.vlc
      ∧ (receiveSymbols sym s).tbs = s.tbs
      ∧ (receiveSymbols sym s).cmu = s.cmu
      ∧ (receiveSymbols sym s).pending = s.pending := by
  simp only [receiveSymbols]
  repeat' split
  all_goals simp_all

@[simp] theorem pauseExpires_keeps (s : State) :
    (pauseExpires s).timeBase = s.timeBase
      ∧ (pauseExpires s).bpu = s.bpu
      ∧ (pauseExpires s).liu = s.liu
      ∧ (pauseExpires s).capture = s.capture
      ∧ (pauseExpires s).oas = s.oas
      ∧ (pauseExpires s).vdu = s.vdu
      ∧ (pauseExpires s).ejs = s.ejs
      ∧ (pauseExpires s).vlc = s.vlc
      ∧ (pauseExpires s).tbs = s.tbs
      ∧ (pauseExpires s).cmu = s.cmu
      ∧ (pauseExpires s).pending = s.pending := by
  simp only [pauseExpires]
  repeat' split
  all_goals simp_all

@[simp] theorem repeatExpires_keeps (s : State) :
    (repeatExpires s).timeBase = s.timeBase
      ∧ (repeatExpires s).bpu = s.bpu
      ∧ (repeatExpires s).liu = s.liu
      ∧ (repeatExpires s).capture = s.capture
      ∧ (repeatExpires s).oas = s.oas
      ∧ (repeatExpires s).vdu = s.vdu
      ∧ (repeatExpires s).ejs = s.ejs
      ∧ (repeatExpires s).vlc = s.vlc
      ∧ (repeatExpires s).tbs = s.tbs
      ∧ (repeatExpires s).cmu = s.cmu
      ∧ (repeatExpires s).pending = s.pending := by
  simp only [repeatExpires]
  repeat' split
  all_goals simp_all

@[simp] theorem doBoundary_keeps (s : State) :
    (doBoundary s).timeBase = s.timeBase
      ∧ (doBoundary s).bpu = s.bpu
      ∧ (doBoundary s).liu = s.liu
      ∧ (doBoundary s).capture = s.capture
      ∧ (doBoundary s).oas = s.oas
      ∧ (doBoundary s).vdu = s.vdu
      ∧ (doBoundary s).ejs = s.ejs
      ∧ (doBoundary s).vlc = s.vlc
      ∧ (doBoundary s).tbs = s.tbs
      ∧ (doBoundary s).cmu = s.cmu
      ∧ (doBoundary s).pending = s.pending := by
  simp only [doBoundary]
  all_goals simp_all

@[simp] theorem roEnds_keeps (s : State) :
    (roEnds s).timeBase = s.timeBase
      ∧ (roEnds s).bpu = s.bpu
      ∧ (roEnds s).liu = s.liu
      ∧ (roEnds s).capture = s.capture
      ∧ (roEnds s).oas = s.oas
      ∧ (roEnds s).vdu = s.vdu
      ∧ (roEnds s).ejs = s.ejs
      ∧ (roEnds s).vlc = s.vlc
      ∧ (roEnds s).tbs = s.tbs
      ∧ (roEnds s).cmu = s.cmu
      ∧ (roEnds s).pending = s.pending := by
  simp only [roEnds]
  all_goals simp_all

end Sys2Proof.Machine
end

