-- ==== Sys2Proof/Laws/Commands.lean ====
section
/-! SUPPORT. Spec lemmas of the shared operations a command goes through: the end of an event, the
hearing of a frame, and the reception of a command that passes its tests. -/

namespace Sys2Proof.Machine

/-- At rest the Command Unit takes nothing at the end of an event. -/
theorem finish_of_atRest {s : State} (h : s.atRest) : finish s = s := by
  obtain ⟨hc, hd⟩ := h
  unfold finish
  split
  · simp [hc]
  · rename_i he
    simp [hc, hd he]
  · rfl
  · rfl
  · rfl

/-- In OFFLINE, STANDBY and FAULT the Command Unit takes nothing at the end of an event. -/
theorem finish_of_idle {s : State} (h₁ : s.cmu.engine ≠ .sorting) (h₂ : s.cmu.engine ≠ .draining) :
    finish s = s := by
  unfold finish
  split <;> first | rfl | contradiction

/-- Hearing a frame changes the link and the counters only. -/
@[simp] theorem heard_keeps (f : Frame) (s : State) :
    (s.heard f).timeBase = s.timeBase
      ∧ (s.heard f).bpu = s.bpu
      ∧ (s.heard f).liu = s.liu
      ∧ (s.heard f).capture = s.capture
      ∧ (s.heard f).oas = s.oas
      ∧ (s.heard f).vdu = s.vdu
      ∧ (s.heard f).ejs = s.ejs
      ∧ (s.heard f).vlc = s.vlc
      ∧ (s.heard f).tbs = s.tbs
      ∧ (s.heard f).cmu = s.cmu
      ∧ (s.heard f).pending = s.pending := by
  simp [State.heard]

@[simp] theorem heardCommand_keeps (c : Command) (h : Header) (p : List Byte) (s : State) :
    (s.heardCommand c h p).timeBase = s.timeBase
      ∧ (s.heardCommand c h p).bpu = s.bpu
      ∧ (s.heardCommand c h p).liu = s.liu
      ∧ (s.heardCommand c h p).capture = s.capture
      ∧ (s.heardCommand c h p).oas = s.oas
      ∧ (s.heardCommand c h p).vdu = s.vdu
      ∧ (s.heardCommand c h p).ejs = s.ejs
      ∧ (s.heardCommand c h p).vlc = s.vlc
      ∧ (s.heardCommand c h p).tbs = s.tbs
      ∧ (s.heardCommand c h p).cmu = s.cmu
      ∧ (s.heardCommand c h p).pending = s.pending := by
  simp [State.heardCommand]

@[simp] theorem bumpBy_rq (c : Counter) (n : Nat) (s : State) : (bumpBy c n s).rpu.rq = s.rpu.rq := rfl

@[simp] theorem bump_rq (c : Counter) (s : State) : (bump c s).rpu.rq = s.rpu.rq := rfl

@[simp] theorem doKick_rq (s : State) : (doKick s).rpu.rq = s.rpu.rq := by
  unfold doKick doChoose
  repeat' split
  all_goals simp

@[simp] theorem forward_rq (f : Frame) (s : State) : (forward f s).rpu.rq = s.rpu.rq := by
  unfold forward joinForward
  repeat' split
  all_goals simp

@[simp] theorem arrive_rq (s : State) : (arrive s).rpu.rq = s.rpu.rq := by simp [arrive]

/-- Hearing a frame leaves the Report Queue as it is. -/
@[simp] theorem heard_rq (f : Frame) (s : State) : (s.heard f).rpu.rq = s.rpu.rq := by
  simp [State.heard]

/-- The destination filter reads the Command Unit alone. -/
theorem passesFilter_congr (h : Header) {s t : State} (e : t.cmu = s.cmu) :
    passesFilter h t = passesFilter h s := by simp [passesFilter, e]

/-- The command gate reads the Report Queue alone. -/
theorem gateClosed_congr {s t : State} (e : t.rpu.rq = s.rpu.rq) : gateClosed t = gateClosed s := by
  unfold gateClosed Rpu.responses
  rw [e]

/-- Hearing a frame does not change whether a command is received. -/
theorem receives_heard (h : Header) (f : Frame) (s : State) :
    (s.heard f).receives h ↔ s.receives h := by
  unfold State.receives
  rw [passesFilter_congr h (s := s) (t := s.heard f) (by simp),
    gateClosed_congr (s := s) (t := s.heard f) (by simp)]

/-- An allowed length fits the envelope. -/
theorem lengthOk_le (c : Command) (n : Nat) (h : c.lengthOk n = true) : n ≤ maxPayload := by
  cases c <;>
    simp only [Command.lengthOk, listLength, Bool.and_eq_true, decide_eq_true_eq] at h <;>
    simp only [maxPayload] at * <;> omega

/-- The command code names its command. -/
@[simp] theorem ofCode_code (c : Command) : Command.ofCode (BitVec.ofNat 8 c.code).toNat = some c := by
  cases c <;> rfl

/-- A good frame heard, its local action, and the end of the event. -/
theorem receiveDi_of_fits (f : Frame) (s : State) (h : f.payload.length ≤ maxPayload) :
    receiveDi f s = finish (localAction f (s.heard f)) := by
  simp [receiveDi, h, State.heard]

/-- The local action on a CMD frame. -/
theorem localAction_cmd (h : Header) (payload : List Byte) (s : State) :
    localAction (cmdFrame h payload) s = commandFrame h payload s := by
  simp [localAction, cmdFrame]

/-- A CMD frame that is received goes to the Command Unit. -/
theorem commandFrame_of_receives {h : Header} {s : State} (payload : List Byte) (hr : s.receives h) :
    commandFrame h payload s = receiveCommand h.tag payload s := by
  simp [commandFrame, hr.1, hr.2]

/-- A command of a known code goes to its tests. -/
theorem receiveCommand_code (c : Command) (tag : Word16) (p : List Byte) (s : State) :
    receiveCommand tag (BitVec.ofNat 8 c.code :: p) s = testCommand c tag p s := by
  simp only [receiveCommand, ofCode_code]

/-- A command that passes tests 1 ~ 5 is accepted. -/
theorem testCommand_of_admits {c : Command} {p : List Byte} {s : State} (tag : Word16)
    (h : s.admits c p) : testCommand c tag p s = acceptCommand c tag p s := by
  obtain ⟨hl, ht, hb, hp⟩ := h
  unfold testCommand
  simp only [hl, ht, Bool.not_true, Bool.false_eq_true, if_false]
  cases hs : c.sequenced with
  | false => simp [hp]
  | true => simp [hb hs, hp]

/-- A command that is received goes to its tests in the state in which its frame has been heard. -/
theorem receiveDi_of_receives {c : Command} {h : Header} {p : List Byte} {s : State}
    (hr : s.receives h) (hl : p.length + 1 ≤ maxPayload) :
    receiveDi (commandOf c h p) s = finish (testCommand c h.tag p (s.heardCommand c h p)) := by
  rw [receiveDi_of_fits _ _ (by simpa [commandOf, cmdFrame] using hl)]
  rw [show localAction (commandOf c h p) (s.heard (commandOf c h p))
      = commandFrame h (BitVec.ofNat 8 c.code :: p) (s.heard (commandOf c h p)) from
        localAction_cmd _ _ _]
  rw [commandFrame_of_receives _ ((receives_heard _ _ _).2 hr), receiveCommand_code]
  rfl

/-- A command that is received and passes its tests takes its effect in the state in which its frame has
been heard. -/
theorem receiveDi_of_accepts {c : Command} {h : Header} {p : List Byte} {s : State}
    (ha : s.accepts c h p) :
    receiveDi (commandOf c h p) s = finish (acceptCommand c h.tag p (s.heardCommand c h p)) := by
  rw [receiveDi_of_receives ha.1 (lengthOk_le c _ ha.2.1)]
  rw [testCommand_of_admits h.tag (s := s.heardCommand c h p)]
  obtain ⟨_, hl, ht, hb, hp⟩ := ha
  exact ⟨hl, by simpa using ht, by simpa using hb, hp⟩

end Sys2Proof.Machine
end

