-- ==== Sys2Proof/Laws/Judging.lean ====
section
/-! SUPPORT. The one move and the one take between the closing order list, the Verdict Queue and the
Verdict Unit: each keeps the closing order law and the order in which the closed objects are judged. The
close of an OPEN slot, which puts its object last. -/

namespace Sys2Proof.Machine

theorem getD_set_free_eq (l : List OotSlot) (i : Nat) : (l.set i .free).getD i .free = .free := by
  simp only [List.getD_eq_getElem?_getD, List.getElem?_set_self']
  cases l[i]? <;> rfl

theorem getD_set_of_ne (l : List OotSlot) (x : OotSlot) {i j : Nat} (h : i ≠ j) :
    (l.set i x).getD j .free = l.getD j .free := by
  simp [List.getD_eq_getElem?_getD, List.getElem?_set_ne h]

/-- The take leaves the closed objects in their order: the VQ head becomes the one under evaluation. -/
@[simp] theorem vduTake_toJudge (s : State) : (vduTake s).toJudge = s.toJudge := by
  unfold vduTake
  split <;> simp_all [State.toJudge]

@[simp] theorem vduTake_closingLaw (s : State) : (vduTake s).closingLaw ↔ s.closingLaw := by
  unfold vduTake
  split <;> simp [State.closingLaw]

/-- A slot on the list is CLOSING under the closing order law. -/
theorem State.closingLaw.closing {s : State} (h : s.closingLaw) {i : Nat} (hi : i ∈ s.oas.closingOrder) :
    ∃ o, s.oas.oot.getD i .free = .closing o := by
  have hx := (h.2 i).1 hi
  revert hx
  cases s.oas.oot.getD i .free with
  | closing o => exact fun _ => ⟨o, rfl⟩
  | free => exact fun hx => absurd hx Bool.false_ne_true
  | opened o => exact fun hx => absurd hx Bool.false_ne_true

/-- What the move does: nothing, or the head of the list joins the VQ tail. -/
theorem closingMove_cases (s : State) (h : s.closingLaw) :
    ((s.oas.closingOrder = [] ∨ 16 ≤ s.vdu.vq.length) ∧ closingMove s = s)
      ∨ ∃ i rest o, s.oas.closingOrder = i :: rest ∧ s.oas.oot.getD i .free = .closing o
          ∧ s.vdu.vq.length < 16
          ∧ closingMove s
            = (s.setOas { s.oas with closingOrder := rest, oot := s.oas.oot.set i .free }).setVdu
                { s.vdu with vq := s.vdu.vq ++ [o] } := by
  cases hc : s.oas.closingOrder with
  | nil => exact .inl ⟨.inl rfl, by simp [closingMove, hc]⟩
  | cons i rest =>
    obtain ⟨o, ho⟩ := h.closing (i := i) (by simp [hc])
    by_cases hq : s.vdu.vq.length < 16
    · exact .inr ⟨i, rest, o, rfl, ho, hq, by simp only [closingMove, hc, hq, if_pos, ho]⟩
    · exact .inl ⟨.inr (by omega), by simp only [closingMove, hc, hq, if_neg, not_false_eq_true]⟩

theorem closingMove_closingLaw (s : State) (h : s.closingLaw) : (closingMove s).closingLaw := by
  rcases closingMove_cases s h with ⟨_, e⟩ | ⟨i, rest, o, hc, ho, _, e⟩
  · rwa [e]
  · obtain ⟨hn, hm⟩ := h
    rw [hc, List.nodup_cons] at hn
    rw [e]
    refine ⟨hn.2, fun j => ?_⟩
    show j ∈ rest ↔ ((s.oas.oot.set i .free).getD j .free).isClosing = true
    by_cases hj : i = j
    · subst hj
      rw [getD_set_free_eq]
      exact iff_of_false hn.1 Bool.false_ne_true
    · have := hm j
      simp only [hc, List.mem_cons, Ne.symm hj, false_or] at this
      rw [getD_set_of_ne _ _ hj, this]

/-- The move leaves the closed objects in their order. -/
theorem closingMove_toJudge (s : State) (h : s.closingLaw) : (closingMove s).toJudge = s.toJudge := by
  rcases closingMove_cases s h with ⟨_, e⟩ | ⟨i, rest, o, hc, ho, _, e⟩
  · rw [e]
  · have hn := h.1
    rw [hc, List.nodup_cons] at hn
    have hr : rest.filterMap (fun j => ((s.oas.oot.set i .free).getD j .free).closed?)
        = rest.filterMap (fun j => (s.oas.oot.getD j .free).closed?) :=
      List.filterMap_congr fun j hj => by
        have hij : i ≠ j := fun e => hn.1 (e ▸ hj)
        rw [getD_set_of_ne _ _ hij]
    have hi : (s.oas.oot.getD i .free).closed? = some o := by rw [ho]; rfl
    rw [e]
    simp only [State.toJudge, State.setVdu, State.setOas, hc, List.filterMap_cons, hi, hr,
      List.append_assoc, List.singleton_append]

/-- An OPEN slot stands in the table and on no closing order list. -/
theorem State.closingLaw.opened {s : State} {i : Nat} {o : ObjectRecord} (h : s.closingLaw)
    (ho : s.oas.oot.getD i .free = .opened o) : i < s.oas.oot.length ∧ i ∉ s.oas.closingOrder := by
  constructor
  · by_contra hge
    simp [List.getD_eq_getElem?_getD, List.getElem?_eq_none (Nat.le_of_not_lt hge)] at ho
  · rw [h.2, ho]
    exact Bool.false_ne_true

/-- The close of an OPEN slot puts it last on the list and keeps the closing order law. -/
theorem closingLaw_close {s : State} {i : Nat} {o x : ObjectRecord} (h : s.closingLaw)
    (ho : s.oas.oot.getD i .free = .opened o) :
    (s.setOas
      { s.oas with
        oot := s.oas.oot.set i (.closing x)
        closingOrder := s.oas.closingOrder ++ [i] }).closingLaw := by
  obtain ⟨hlt, hi⟩ := h.opened ho
  obtain ⟨hn, hm⟩ := h
  refine ⟨hn.append (List.nodup_singleton i) (by simpa using hi), fun j => ?_⟩
  by_cases hj : i = j
  · subst hj
    simp [List.getD_eq_getElem?_getD, hlt, OotSlot.isClosing]
  · simp only [State.setOas, List.mem_append, List.mem_singleton, Ne.symm hj, or_false,
      getD_set_of_ne _ _ hj, hm j]

/-- The closed object is judged after every object closed before it. -/
theorem toJudge_close {s : State} {i : Nat} {o x : ObjectRecord} (h : s.closingLaw)
    (ho : s.oas.oot.getD i .free = .opened o) :
    (s.setOas
      { s.oas with
        oot := s.oas.oot.set i (.closing x)
        closingOrder := s.oas.closingOrder ++ [i] }).toJudge = s.toJudge ++ [x] := by
  obtain ⟨hlt, hi⟩ := h.opened ho
  have hx : ((s.oas.oot.set i (.closing x)).getD i .free).closed? = some x := by
    simp [List.getD_eq_getElem?_getD, hlt, OotSlot.closed?]
  have hr : s.oas.closingOrder.filterMap
        (fun j => ((s.oas.oot.set i (.closing x)).getD j .free).closed?)
      = s.oas.closingOrder.filterMap (fun j => (s.oas.oot.getD j .free).closed?) :=
    List.filterMap_congr fun j hj => by
      have hij : i ≠ j := fun e => hi (e ▸ hj)
      rw [getD_set_of_ne _ _ hij]
  simp only [State.toJudge, State.setOas, List.filterMap_append, hr, List.filterMap_cons, hx,
    List.filterMap_nil, List.append_assoc]

end Sys2Proof.Machine
end

