-- ==== Sys2Proof/Tests/Slice0.lean ====
section
/-! SUPPORT. Tests of the model: an ill-formed command for each check, values the spec works out, and for
each statement a state and operands that meet its hypotheses together, at the values where its clauses
meet. -/

namespace Sys2Proof.Tests

open Sys2Proof Sys2Proof.Machine

set_option Elab.async false

/-! ## Small states -/

/-- A header addressed to all engines. -/
def toAll : Header := { destKind := 0x03, destValue := 0, source := 0, tag := 0x1234, flags := 0 }

/-- A header addressed to no engine. -/
def toNone : Header := { destKind := 0x07, destValue := 0, source := 0, tag := 0, flags := 0 }

/-- A window of four columns, with pitch 4. -/
def fourColumns : Configuration := { Configuration.powerOn with ownFirst := 0, ownLast := 3, guard := 0 }

/-- A numbered engine in an engine state, with the window of four columns. -/
def inEngine (e : EngineState) : State :=
  State.reset.setCmu { State.reset.cmu with engine := e, unit := some 0, config := fourColumns }

def standby : State := inEngine .standby
def sorting : State := inEngine .sorting
def draining : State := inEngine .draining
def faulted : State := inEngine .fault

/-- With a command executing. -/
def running (c : Command) (s : State) : State :=
  s.setCmu { s.cmu with executing := some { command := c, tag := 7 } }

/-- With the sync state given. -/
def synced (x : SyncState) (s : State) : State := s.setLiu { s.liu with sync := x }

/-- With the belt unit changed. -/
def belt (f : Bpu → Bpu) (s : State) : State := s.setBpu (f s.bpu)

/-- With the configuration changed. -/
def configured (f : Configuration → Configuration) (s : State) : State :=
  s.setCmu { s.cmu with config := f s.cmu.config }

/-- With the link changed. -/
def linked (f : Lki → Lki) (s : State) : State := s.setLki (f s.lki)

/-- With the Valve Port's state changed. -/
def ported (f : Vlc → Vlc) (s : State) : State := s.setVlc (f s.vlc)

/-- With the Table Store changed. -/
def stored (f : Tbs → Tbs) (s : State) : State := s.setTbs (f s.tbs)

/-- With the Ejection Scheduler changed. -/
def scheduled (f : Ejs → Ejs) (s : State) : State := s.setEjs (f s.ejs)

/-- With the ring changed. -/
def ringed (f : Liu → Liu) (s : State) : State := s.setLiu (f s.liu)

/-- With the assembler changed. -/
def assembled (f : Oas → Oas) (s : State) : State := s.setOas (f s.oas)

/-- With the Verdict Unit changed. -/
def judged (f : Vdu → Vdu) (s : State) : State := s.setVdu (f s.vdu)

/-- With the reports given. -/
def reported (l : List Report) (s : State) : State := s.setRpu { s.rpu with rq := l }

/-- The state a command leads to; the state itself where it stops. -/
def after (c : Instr) (s : State) : State :=
  match exec c s with
  | .next t => t
  | .fault _ => s
  | .refused _ => s

def black : Sample := { r := 0, g := 0, b := 0, n := 0 }

/-- Slot 0 filling for line 1, of four columns; the latest line is 1. -/
def filling : RingSlot where
  index := 0
  state := .filling
  line := 1
  position := 4
  samples := [none, none, none, none]
  lostBefore := 0
  nosync := false
  due := false

/-- The tests of an accepted command, as a Bool. -/
def acceptsTest (c : Command) (h : Header) (p : List Byte) (s : State) : Bool :=
  passesFilter h s && !gateClosed s && c.lengthOk (p.length + 1) && c.takenIn s.cmu.engine
    && (!c.sequenced || decide (s.cmu.executing = none))
    && decide (firstFailing (c.paramTests p) = none)

theorem accepts_of_test {c : Command} {h : Header} {p : List Byte} {s : State}
    (t : acceptsTest c h p s = true) : s.accepts c h p := by
  simp only [acceptsTest, Bool.and_eq_true, Bool.not_eq_true', Bool.or_eq_true, decide_eq_true_eq] at t
  obtain ⟨⟨⟨⟨⟨h1, h2⟩, h3⟩, h4⟩, h5⟩, h6⟩ := t
  exact ⟨⟨h1, h2⟩, h3, h4, fun hs => by rcases h5 with h | h <;> simp_all, h6⟩

/-- A command with its parameter bytes, and the state that is to accept it. -/
abbrev Attempt := State × Command × List Byte

/-- Every command of the list, addressed to all engines, is accepted by its state. -/
def AllAccepted (l : List Attempt) : Prop := ∀ x ∈ l, x.1.accepts x.2.1 toAll x.2.2

theorem allAccepted_of_test {l : List Attempt}
    (t : l.all (fun x => acceptsTest x.2.1 toAll x.2.2 x.1) = true) : AllAccepted l :=
  fun x hx => accepts_of_test (List.all_eq_true.1 t x hx)

/-- The test that nothing is left for the Command Unit, as a Bool. -/
def atRestTest (s : State) : Bool :=
  decide (s.cmu.causes = []) && (decide (s.cmu.engine ≠ .draining) || !s.drained)

theorem atRest_of_test {s : State} (t : atRestTest s = true) : s.atRest := by
  simp only [atRestTest, Bool.and_eq_true, Bool.or_eq_true, decide_eq_true_eq,
    Bool.not_eq_true'] at t
  exact ⟨t.1, fun he => by rcases t.2 with h | h <;> simp_all⟩

/-- The closing order law over the slots the table has, as a Bool. -/
def closingTest (s : State) : Bool :=
  decide s.oas.closingOrder.Nodup
    && s.oas.closingOrder.all (fun i => (s.oas.oot.getD i .free).isClosing)
    && (List.range s.oas.oot.length).all
      (fun i => !(s.oas.oot.getD i .free).isClosing || s.oas.closingOrder.contains i)

theorem closingLaw_of_test {s : State} (t : closingTest s = true) : s.closingLaw := by
  simp only [closingTest, Bool.and_eq_true, decide_eq_true_eq, List.all_eq_true, List.mem_range,
    Bool.or_eq_true, Bool.not_eq_true', List.contains_iff_mem] at t
  refine ⟨t.1.1, fun i => ⟨t.1.2 i, fun hi => ?_⟩⟩
  by_cases hlt : i < s.oas.oot.length
  · exact (t.2 i hlt).resolve_left (by rw [hi]; decide)
  · rw [List.getD_eq_default _ _ (Nat.le_of_not_lt hlt)] at hi
    exact absurd hi Bool.false_ne_true

/-- With the change of each channel the operand names seen on its pin and timed. -/
def timing (acc : Accepted) (s : State) : State :=
  match acc with
  | .a level => belt (fun b => { b with inA := level, timA := some 0 }) s
  | .b level => belt (fun b => { b with inB := level, timB := some 0 }) s
  | .ab levelA levelB =>
      belt (fun b => { b with inA := levelA, timA := some 0, inB := levelB, timB := some 0 }) s
  | .z level => belt (fun b => { b with inZ := level, timZ := some 0 }) s

/-- The state the acceptance of a timed change leads to. -/
def accepted (acc : Accepted) (s : State) : State := after (.encoderEdgeAccepted acc) (timing acc s)

/-! ## Ill-formed commands, one for each check -/

theorem test_payload_too_long :
    (Instr.lineFrame toAll (List.replicate 4105 0)).wellFormed = false := by decide +kernel

theorem test_params_too_long : (Instr.nop toAll (List.replicate 4104 0)).wellFormed = false := by
  decide +kernel

theorem test_known_code_is_no_bad_opcode : (Instr.badOpcode toAll [0x01]).wellFormed = false := by
  decide +kernel

theorem test_recheck_is_no_bad_mark :
    (Instr.blockMarkBad toAll [0, 0, 1]).wellFormed = false
      ∧ (Instr.blockMarkRecheck toAll [0, 0, 0]).wellFormed = false := by decide +kernel

theorem test_enable_is_no_disable :
    (Instr.valveControlDisable toAll [0, 1]).wellFormed = false
      ∧ (Instr.valveControlEnable toAll [0, 0]).wellFormed = false := by decide +kernel

theorem test_good_bytes_are_no_bad_frame :
    (Instr.frameNotGood .di pauseFrame.bytes false).wellFormed = false
      ∧ (Instr.frameNotGood .di pauseFrame.bytes true).wellFormed = true := by decide +kernel

theorem test_no_such_valve :
    (Instr.holdoffExpiry 64).wellFormed = false ∧ (Instr.valveTrip 64).wellFormed = false
      ∧ (Instr.holdoffExpiry 63).wellFormed = true := by decide +kernel

theorem test_no_such_entry :
    (Instr.cctEntryChange .a 32768 0).wellFormed = false
      ∧ (Instr.cctEntryChange .a 32767 0).wellFormed = true := by decide +kernel

/-! ## Values of the spec -/

/-- The CRC of the nine ASCII digits, the usual check of this polynomial (R179). -/
theorem test_crc_of_digits :
    crc32 [0x31, 0x32, 0x33, 0x34, 0x35, 0x36, 0x37, 0x38, 0x39] = 0xCBF43926 := by decide +kernel

/-- The check word of the nine ASCII digits for the polynomial and start of R144. -/
theorem test_check_of_digits :
    checkWord [0x31, 0x32, 0x33, 0x34, 0x35, 0x36, 0x37, 0x38, 0x39] = 0x29B1 := by decide +kernel

/-- With the power-on values a corrected value is the raw value (R42, note 2). -/
theorem test_raw_value_kept :
    ∀ v < 256, ({ dark := 0, gain := 256 } : ChannelCal).correct v = v := by decide +kernel

/-- A pair steps forward low-low, high-low, high-high, low-high (R4). -/
theorem test_forward_order :
    nextForward (false, false) = (true, false) ∧ nextForward (true, false) = (true, true)
      ∧ nextForward (true, true) = (false, true) ∧ nextForward (false, true) = (false, false) := by
  decide +kernel

/-- At the power-on values a valve held on from 0 trips at the 1,000th tick (R128, note). -/
theorem test_thousandth_tick :
    (Valve.tick 4 4000 { Valve.reset with state := .on, thermal := 3996 }).tripDue = true
      ∧ (Valve.tick 4 4000 { Valve.reset with state := .on, thermal := 3992 }).tripDue = false := by
  decide +kernel

/-- A row of classes with two runs (R61). -/
theorem test_two_runs :
    (scanRuns 10 none [0, 3, 3, 0, 5]).map (fun r => (r.first, r.last)) = [(11, 12), (14, 14)] := by
  decide +kernel

/-- The first advance makes the belt MOVING, with travel 1 (R7, R20). -/
theorem test_first_advance :
    (accepted (.a true) State.reset).bpu.travel = 1
      ∧ (accepted (.a true) State.reset).bpu.beltState = .moving := by
  decide +kernel

/-- A change that has reverted, or that no filter times, is not accepted (R3; log 9). -/
theorem test_reverted_change_is_not_accepted :
    (after (.encoderEdgeAccepted (.a true))
        (after (.encoderInputChange .a false) (timing (.a true) State.reset))).bpu.travel = 0
      ∧ (after (.encoderEdgeAccepted (.a true)) State.reset).bpu.fltA = false := by
  decide +kernel

/-- An ENUM numbers an OFFLINE engine and goes on with its hop count raised (R180, R183). -/
theorem test_enum :
    (after (.enum toAll [3]) State.reset).cmu.unit = some 3
      ∧ (after (.enum toAll [3]) State.reset).lki.doFrame.map (fun f => f.payload) = some [4] := by
  decide +kernel

/-- NOP's response carries its tag and the engine state (R166). -/
theorem test_nop_answers :
    (after (.nop toAll []) standby).lki.roFrame.map (fun f => (f.ftype, f.hdr.tag, f.payload.take 3))
      = some (0x81, 0x1234, [0x01, 0x00, 0x01]) := by
  decide +kernel

/-! ## The hypotheses of each statement are met -/

theorem hyp_StepRunsTheFrontCommand :
    (State.reset.setPending [.thermalTick, .vqTake]).pending = .thermalTick :: [.vqTake] := rfl

theorem hyp_IdleStepPassesOneTimeUnit : State.reset.pending = [] := rfl

/-- The shortest and the longest payload that is no link reset. -/
theorem hyp_LinkResetByPayloadLength :
    ([0] : List Byte).length ≠ 0 ∧ ([0] : List Byte).length ≤ maxPayload
      ∧ (List.replicate 4104 (0 : Byte)).length ≠ 0
      ∧ (List.replicate 4104 (0 : Byte)).length ≤ maxPayload := by decide +kernel

theorem hyp_PositionsAndLead :
    State.reset.bpu.period = none ∧ State.reset.cmu.config.valveLatency = 0
      ∧ (belt (fun b => { b with period := some 1 }) State.reset).bpu.period = some 1
      ∧ (configured (fun c => { c with valveLatency := 255, linePitch := 64 })
          (belt (fun b => { b with period := some 1 }) State.reset)).lead = 65535 := by
  decide +kernel

theorem hyp_EdgesThatKeepTravel :
    (timing (.a true) State.reset).bpu.timed (.a true)
      ∧ (timing (.ab true true) State.reset).bpu.timed (.ab true true)
      ∧ (Accepted.a true).pairAfter State.reset.bpu = nextForward State.reset.bpu.pair
      ∧ 0 < (belt (fun b => { b with debt := 1 }) (timing (.a true) State.reset)).bpu.debt
      ∧ (accepted (.a true) (belt (fun b => { b with debt := 1 }) State.reset)).bpu.debt = 0
      ∧ (accepted (.ab true true) State.reset).counter .encoderGlitches = 1 := by
  unfold Bpu.timed
  decide +kernel

/-- One advance short of the line trigger and at it, and at the missing index. -/
theorem hyp_ForwardEdgeAdvancesTravel :
    (timing (.a true) State.reset).bpu.timed (.a true)
      ∧ (Accepted.a true).pairAfter State.reset.bpu = nextForward State.reset.bpu.pair
      ∧ State.reset.bpu.debt = 0
      ∧ (belt (fun b => { b with pitch := 2 }) State.reset).bpu.pitch + 1
          < State.reset.cmu.config.linePitch
      ∧ State.reset.cmu.config.linePitch
          ≤ (belt (fun b => { b with pitch := 3 }) State.reset).bpu.pitch + 1
      ∧ (accepted (.a true)
          (configured (fun c => { c with revCounts := 100, revTolerance := 8 })
            (belt (fun b => { b with armed := true, indexAdvances := 108 }) State.reset))).bpu.indexAdvances
          = 0 := by
  unfold Bpu.timed
  decide +kernel

theorem hyp_ReverseEdgeRaisesDebt :
    (timing (.b true) sorting).bpu.timed (.b true)
      ∧ nextForward ((Accepted.b true).pairAfter sorting.bpu) = sorting.bpu.pair
      ∧ (belt (fun b => { b with debt := 255 }) sorting).bpu.debt + 1
          = sorting.cmu.config.reverseLimit
      ∧ atRestTest (belt (fun b => { b with debt := 255 }) sorting) = true
      ∧ sorting.cmu.engine = .sorting
      ∧ (belt (fun b => { b with debt := 256 }) sorting).bpu.debt + 1
          ≠ sorting.cmu.config.reverseLimit
      ∧ (accepted (.b true) (belt (fun b => { b with debt := 255 }) sorting)).cmu.engine = .fault
      ∧ (accepted (.b true) (belt (fun b => { b with debt := 256 }) sorting)).bpu.debt = 256 := by
  unfold Bpu.timed
  decide +kernel

/-- The index advance count at the ends of the tolerance and beyond them. -/
theorem hyp_IndexEdgeComparesOrArms :
    (timing (.z true) State.reset).bpu.timed (.z true)
      ∧ (timing (.z false) (belt (fun b => { b with fltZ := true }) State.reset)).bpu.timed (.z false)
      ∧ [91, 92, 108, 109].map (fun n =>
          (accepted (.z true)
            (configured (fun c => { c with revCounts := 100, revTolerance := 8 })
              (belt (fun b => { b with armed := true, indexAdvances := n, mismatchRun := 1 })
                State.reset))).bpu.mismatchRun) = [2, 0, 0, 2] := by
  unfold Bpu.timed
  decide +kernel

theorem hyp_InputChangesAreFiltered :
    State.reset.bpu.inA ≠ true ∧ State.reset.bpu.fltA ≠ true ∧ State.reset.cmu.config.edgeFilter ≠ 0
      ∧ (belt (fun b => { b with inA := true }) State.reset).bpu.inA ≠ false
      ∧ (belt (fun b => { b with inA := true }) State.reset).bpu.fltA = false
      ∧ (configured (fun c => { c with edgeFilter := 0 }) State.reset).cmu.config.edgeFilter = 0
      ∧ State.reset.bpu.inB ≠ true ∧ State.reset.bpu.fltB ≠ true
      ∧ (belt (fun b => { b with inB := true }) State.reset).bpu.inB ≠ false
      ∧ (belt (fun b => { b with inB := true }) State.reset).bpu.fltB = false
      ∧ State.reset.bpu.inZ ≠ true ∧ State.reset.bpu.fltZ ≠ true
      ∧ (belt (fun b => { b with inZ := true }) State.reset).bpu.inZ ≠ false
      ∧ (belt (fun b => { b with inZ := true }) State.reset).bpu.fltZ = false
      ∧ ¬ State.reset.bpu.timed (.a true) ∧ ¬ (timing (.b true) State.reset).bpu.timed (.b false)
      ∧ ¬ (belt (fun b => { b with timZ := some 0 }) State.reset).bpu.timed (.z true)
      ∧ (accepted (.ab true true) (belt (fun b => { b with fltB := true }) State.reset)).bpu.travel
          = (accepted (.a true) (belt (fun b => { b with fltB := true }) State.reset)).bpu.travel := by
  unfold Bpu.timed
  decide +kernel

/-- A moving belt with a valve ON. -/
def oneValveOn : State :=
  ported (fun v => { v with valves := v.valves.set 5 { Valve.reset with state := .on, refCount := 1 } })
    (belt (fun b => { b with stallFlag := false, stallTimer := some 0 }) sorting)

theorem hyp_StallExpiryStopsTheBelt :
    oneValveOn.bpu.stallTimer = some 0 ∧ oneValveOn.bpu.beltState = .moving
      ∧ oneValveOn.vlc.tests 5 = false ∧ atRestTest oneValveOn = true
      ∧ ((after .stallTimerExpiry oneValveOn).valve 5).state = .holdoff := by decide +kernel

/-- The count at the limit and one below it. -/
theorem hyp_MissingIndexIsAMismatch :
    atRestTest sorting = true
      ∧ (after .missingIndex
          (configured (fun c => { c with revCounts := 100, revTolerance := 8 })
            (belt (fun b => { b with armed := true, indexAdvances := 109, mismatchRun := 2 })
              sorting))).cmu.engine = .fault
      ∧ (after .missingIndex
          (configured (fun c => { c with revCounts := 100, revTolerance := 8 })
            (belt (fun b => { b with armed := true, indexAdvances := 108 })
              sorting))).bpu.indexAdvances = 108
      ∧ State.reset.bpu.armed = false ∧ State.reset.cmu.config.revCounts = 0 := by decide +kernel

theorem hyp_LineTriggerAtLinePitch :
    sorting.cmu.config.linePitch ≤ (belt (fun b => { b with pitch := 4 }) sorting).bpu.pitch
      ∧ sorting.rpu.counters.length = 54
      ∧ (after .lineTrigger (belt (fun b => { b with pitch := 4 }) sorting)).counter .lineTriggers = 1
      ∧ (belt (fun b => { b with pitch := 3 }) sorting).bpu.pitch < sorting.cmu.config.linePitch
      ∧ atRestTest (belt (fun b => { b with pitch := 3 }) sorting) = true := by decide +kernel

/-- A frame of a type with no local action. -/
def passing : Frame := { ftype := 0x81, hdr := toNone, payload := [1] }

theorem hyp_FramesAreForwarded :
    passing.payload.length ≤ maxPayload ∧ passing.ftype ∉ [0x01, 0x02, 0x03, 0x04, 0x05]
      ∧ forwardOf passing = some passing
      ∧ (linked (fun l => { l with doFrame := some passing, forwardQueue := [passing] })
          State.reset).lki.doFrame.isSome = true
      ∧ (linked (fun l => { l with doFrame := some passing, forwardQueue := [passing] })
          State.reset).lki.forwardQueue.length < 2
      ∧ 2 ≤ (linked (fun l => { l with doFrame := some passing, forwardQueue := [passing, passing] })
          State.reset).lki.forwardQueue.length
      ∧ State.reset.lki.doFrame = none ∧ State.reset.lki.forwardQueue = []
      ∧ State.reset.lki.pauseDue = false ∧ State.reset.lki.link = .down
      ∧ (linked (fun l => { l with pauseDue := true, link := .up }) State.reset).lki.pauseDue = true := by
  decide +kernel

theorem hyp_FramesThatAreNotGoodAreDropped :
    receiveBytes [0, 0] = none ∧ receiveBytes pauseFrame.bytes = some pauseFrame := by decide +kernel

/-- The hop counts at the ends of the table's rows. -/
theorem hyp_EnumNumbersTheEngine :
    State.reset.cmu.unit = none ∧ (0 : Byte).toNat ≤ 7 ∧ (7 : Byte).toNat ≤ 7
      ∧ 8 ≤ (8 : Byte).toNat ∧ 8 ≤ (255 : Byte).toNat
      ∧ sorting.cmu.unit = some (0 : Byte).toNat ∧ (7 : Byte).toNat ≠ 0 ∧ atRestTest sorting = true
      ∧ (after (.enum toAll [7]) sorting).cmu.cause = some .chainChanged
      ∧ (after (.enum toAll [0]) sorting).cmu.engine = .sorting
      ∧ (after (.enum toAll [8]) sorting).cmu.unit = some 0
      ∧ ([] : List Byte).length ≠ 1 ∧ ([] : List Byte).length ≤ maxPayload := by decide +kernel

theorem hyp_PauseHoldsReturnOut :
    ([0] : List Byte).length ≠ 0 ∧ ([0] : List Byte).length ≤ maxPayload
      ∧ (after (.pause toAll []) State.reset).lki.pauseTimer.isSome = true
      ∧ State.reset.lki.pauseTimer = none := by decide +kernel

/-- The Pass Buffer at 2, 3 and 4 frames, and both sources waiting. -/
def waiting (n : Nat) : State :=
  linked (fun l => { l with passBuffer := List.replicate n passing, roFrame := some passing,
                            repeatTimer := some 0 }) standby

theorem hyp_ReturnLaneAlternates :
    passing.payload.length ≤ maxPayload
      ∧ 4 ≤ (waiting 4).lki.passBuffer.length
      ∧ (waiting 3).lki.passBuffer.length < 4 ∧ (waiting 3).lki.passBuffer.length ≠ 2
      ∧ (waiting 2).lki.passBuffer.length = 2
      ∧ (waiting 3).lki.repeatTimer.isSome = true ∧ 3 ≤ (waiting 3).lki.passBuffer.length
      ∧ (waiting 2).lki.passBuffer.length < 3 ∧ State.reset.lki.repeatTimer = none
      ∧ (waiting 1).lki.pauseTimer = none ∧ (waiting 0).lki.passBuffer = []
      ∧ (waiting 0).rpu.rq = []
      ∧ (waiting 1).lki.passBuffer = passing :: [] ∧ (waiting 1).lki.preference = .pass
      ∧ (reported [.notice 0 (.enumOverflow 8)] (waiting 0)).rpu.rq = .notice 0 (.enumOverflow 8) :: []
      ∧ (linked (fun l => { l with pauseTimer := some 1 }) (waiting 1)).lki.pauseTimer.isSome = true := by
  decide +kernel

theorem hyp_SilenceTakesTheLinkDown :
    (linked (fun l => { l with link := .up }) sorting).lki.link = .up
      ∧ sorting.lki.diOpen = false
      ∧ (linked (fun l => { l with link := .up, diOpen := true }) sorting).lki.diOpen = true
      ∧ sorting.lki.link = .down
      ∧ (linked (fun l => { l with diOpen := true }) sorting).lki.diOpen = true
      ∧ (after .silenceTimerExpiry (linked (fun l => { l with diOpen := true }) sorting)).counter
          .crcErrors = 1
      ∧ atRestTest (linked (fun l => { l with link := .up }) sorting) = true
      ∧ standby.cmu.engine ≠ .sorting ∧ standby.cmu.engine ≠ .draining
      ∧ (after .silenceTimerExpiry (linked (fun l => { l with link := .up }) sorting)).cmu.cause
          = some .linkDown := by decide +kernel

/-- A response, a notice and an object report to fill the Report Queue with. -/
def aResponse : Report :=
  .response { unit := 0, tag := 0, code := 1, status := .ok, detail := 0, data := [] }

def aNotice : Report := .notice 0 (.enumOverflow 8)

/-- An object record of one column. -/
def kernel : ObjectRecord where
  number := 0
  startLine := 1
  startPos := 4
  lastLine := 1
  lastPos := 4
  colMin := 1
  colMax := 1
  area := 1
  histogram := [0, 0, 0, 1, 0, 0, 0, 0, 0, 0, 0, 0, 0, 0, 0, 0]
  generation := 0
  flags := ObjectFlags.none

def anObjectReport : Report :=
  .objectReport 0
    { object := kernel, verdict := .accept, source := .default, generation := 0, result := .none
      window := none, valves := none, travel := 0 }

theorem hyp_ReportQueueAdmission :
    (reported [aResponse] standby).rpu.responses < 2
      ∧ (let s := reported (List.replicate 2 aResponse ++ List.replicate 26 anObjectReport) standby
        2 ≤ s.rpu.responses ∧ 26 ≤ s.rpu.generalUsed
          ∧ s.rpu.rq
              = (List.replicate 2 aResponse ++ List.replicate 25 anObjectReport) ++ anObjectReport :: []
          ∧ anObjectReport.isObjectReport = true)
      ∧ (let s := reported (List.replicate 2 aResponse ++ List.replicate 30 aNotice) standby
        2 ≤ s.rpu.responses ∧ 26 ≤ s.rpu.generalUsed ∧ s.rpu.objectReports = 0 ∧ 4 < s.rpu.notices
          ∧ 4 ≤ s.rpu.notices
          ∧ s.rpu.rq = (List.replicate 2 aResponse ++ List.replicate 29 aNotice) ++ aNotice :: []
          ∧ aNotice.isNotice = true)
      ∧ State.reset.cmu.unit = none ∧ standby.cmu.unit = some 0
      ∧ (reported [aNotice, aNotice, aNotice] standby).rpu.notices < 4
      ∧ standby.rpu.generalUsed < 26
      ∧ (waiting 0).lki.roFrame.isSome = true
      ∧ (running .stop draining).cmu.executing = some { command := .stop, tag := 7 } := by
  decide +kernel

theorem hyp_CommandsAreTestedInOrder :
    passesFilter toAll standby = true ∧ gateClosed standby = false
      ∧ ([] : List Byte).length + 1 ≤ maxPayload
      ∧ Command.nop.lengthOk (([0] : List Byte).length + 1) = false
      ∧ Command.start.lengthOk 1 = true ∧ Command.start.takenIn sorting.cmu.engine = false
      ∧ Command.bankCopy.takenIn (running .bankSwap sorting).cmu.engine = true
      ∧ Command.bankCopy.lengthOk 1 = true ∧ Command.bankCopy.sequenced = true
      ∧ (running .bankSwap sorting).cmu.executing = some { command := .bankSwap, tag := 7 }
      ∧ Command.valveTest.takenIn standby.cmu.engine = true ∧ standby.cmu.executing = none
      ∧ Command.valveTest.lengthOk 3 = true
      ∧ firstFailing (Command.valveTest.paramTests [64, 1]) = some 1
      ∧ firstFailing (Command.valveTest.paramTests [63, 0]) = some 2
      ∧ firstFailing (Command.valveTest.paramTests [63, 1]) = none
      ∧ Command.ofCode (0xFF : Byte).toNat = none
      ∧ 26 ≤ (reported (List.replicate 26 aResponse) standby).rpu.responses
      ∧ passesFilter toAll (reported (List.replicate 26 aResponse) standby) = true
      ∧ passesFilter toNone standby = false := by decide +kernel

theorem hyp_ReadingCommandsAnswer :
    AllAccepted [(standby, .nop, []), (standby, .readStatus, []), (standby, .readConfig, []),
      (standby, .blockRead, [1, 127]), (standby, .readCounters, [0]), (standby, .readCounters, [1])] :=
  allAccepted_of_test (by decide +kernel)

theorem hyp_AbortEndsTheExecutingCommand :
    AllAccepted [(standby, .abort, []), (running .calibrate standby, .abort, []),
        (running .stop draining, .abort, []),
        (running .bankCopy (stored (fun t => { t with copy := some { next := 3, badCopies := 0 } })
          standby), .abort, []),
        (running .bankSwap sorting, .abort, []),
        (running .valveTest (ported (fun v => { v with test := some { valve := 5, left := 1 } })
          standby), .abort, [])]
      ∧ State.reset.rpu.counters.length = 54 :=
  ⟨allAccepted_of_test (by decide +kernel), rfl⟩

theorem hyp_ResyncEntersHunt1 : (synced .locked standby).accepts .resync toAll [] :=
  accepts_of_test (by decide +kernel)

/-- A window that stays, one that changes, and a debt above the new reverse_limit and at it. -/
theorem hyp_ConfigureReplacesTheRecord :
    AllAccepted [(standby, .configure, fourColumns.bytes),
        (configured (fun c => { c with guard := 3 }) standby, .configure, fourColumns.bytes),
        (belt (fun b => { b with debt := 256 }) standby, .configure,
          { fourColumns with reverseLimit := 10 }.bytes)]
      ∧ (configured (fun c => { c with ownLast := 5 }) standby).cmu.config.window ≠ fourColumns.window
      ∧ [9, 10, 11].map (fun n =>
          let t := after (.configure toAll { fourColumns with reverseLimit := 10 }.bytes)
            (belt (fun b => { b with debt := n }) standby)
          (t.bpu.debt, t.counter .reverseLimitHits)) = [(9, 0), (10, 0), (10, 1)] :=
  ⟨allAccepted_of_test (by decide +kernel), by decide +kernel⟩

/-- A bank with every block VALID. -/
def filledBank : ProductBank :=
  { ProductBank.powerOn with cct := List.replicate 128 (CctBlock.filled 0) }

/-- A filled block's check word is the one computed from its codes. -/
theorem filledBank_check :
    blockCheck (filledBank.block 127).codes = (filledBank.block 127).check := by
  have h : filledBank.block 127 = CctBlock.filled 0 := by
    simp only [filledBank, ProductBank.block, List.getD_eq_getElem?_getD, List.getElem?_replicate]
    rfl
  rw [h]
  simp only [CctBlock.filled]

/-- The parameters of a CCT_WRITE of block 127 with the codes of class 3 and their check word. -/
def cctParams : List Byte := 127 :: List.replicate 256 3 ++ le 2 (blockCheck (List.replicate 256 3)).toNat

/-- The check word the parameters carry is the one computed from the codes. -/
theorem cctParams_check :
    (blockCheck (((cctParams.drop 1).take 256).map
      (fun x => (Fin.ofNat 16 x.toNat : ClassCode)))).toNat = u16 cctParams 257 := by
  have h : ∀ (l : List Byte) (w : Word16), l.length = 256 →
      u16 (127 :: l ++ le 2 w.toNat) 257 = w.toNat := by
    intro l w hl
    have a0 : (127 :: l ++ le 2 w.toNat)[257]? = some (BitVec.ofNat 8 w.toNat) := by
      rw [List.getElem?_append_right (by simp [hl])]
      simp only [List.length_cons, hl, Nat.sub_self]
      rfl
    have a1 : (127 :: l ++ le 2 w.toNat)[257 + 1]? = some (BitVec.ofNat 8 (w.toNat / 256)) := by
      rw [List.getElem?_append_right (by simp [hl])]
      simp only [List.length_cons, hl, Nat.add_sub_cancel_left]
      rfl
    simp only [u16, u8, List.getD_eq_getElem?_getD, a0, a1, Option.getD_some, BitVec.toNat_ofNat]
    have := w.isLt
    omega
  rw [cctParams, h _ _ List.length_replicate]
  refine congrArg (fun l => BitVec.toNat (blockCheck l)) ?_
  rw [List.cons_append, List.drop_succ_cons, List.drop_zero,
    List.take_append_of_le_length (by rw [List.length_replicate])]
  simp only [List.take_replicate, List.map_replicate]
  rfl

theorem hyp_BlocksAreWrittenAndMarked :
    AllAccepted [(standby, .cctWrite, cctParams), (standby, .cctWrite, 127 :: List.replicate 258 3),
        (standby, .blockMark, [0, 127, 0]), (standby, .blockMark, [1, 0, 1])]
      ∧ (blockCheck (((cctParams.drop 1).take 256).map
            (fun x => (Fin.ofNat 16 x.toNat : ClassCode)))).toNat = u16 cctParams 257
      ∧ blockCheck (filledBank.block 127).codes = (filledBank.block 127).check
      ∧ ((standby.tbs.bank .a).block 127).state = .unwritten
      ∧ (filledBank.block 127).state ≠ .unwritten :=
  ⟨allAccepted_of_test (by decide +kernel), cctParams_check, filledBank_check, by decide +kernel⟩

theorem hyp_TableWritesReachTheirEntries :
    AllAccepted [(standby, .cctFill, [0, 127, 15]), (standby, .nbtWrite, [15, 1, 10, 20, 3]),
      (standby, .rrtWrite, 15 :: List.replicate 17 0), (standby, .rrtWrite, 16 :: List.replicate 17 0),
      (standby, .vmtWrite, [0x3F, 2, 1, 0, 63]),
      (standby, .ccalWrite, [0x3F, 2, 1, 0] ++ [1, 2, 3, 4] ++ [0, 1, 0, 1, 0, 1, 0, 1]),
      (standby, .rrtWrite, [15, 1, 4, 3, 1, 2, 1, 1, 6, 5, 1, 8, 7, 10, 9, 12, 11, 1])] :=
  allAccepted_of_test (by decide +kernel)

/-- The bytes of a rule record and of a column's calibration, each field at its place (12.2). -/
theorem test_table_entry_layouts :
    ruleOf [15, 1, 4, 3, 1, 2, 1, 1, 6, 5, 1, 8, 7, 10, 9, 12, 11, 1]
        = { enabled := true, mask := 0x0304, measure := .share, threshold := 0x0102
            coincidence := some { mask := 0x0506, measure := .share, threshold := 0x0708 }
            areaMin := 0x090A, areaMax := 0x0B0C, action := .reject }
      ∧ ccalEntry [1, 2, 3, 4, 5, 1, 6, 1, 7, 1, 8, 1]
        = { r := { dark := 1, gain := 0x0105 }, g := { dark := 2, gain := 0x0106 }
            b := { dark := 3, gain := 0x0107 }, n := { dark := 4, gain := 0x0108 } } := by decide +kernel

theorem hyp_BankCopyStepsThroughTheBank :
    sorting.accepts .bankCopy toAll [] ∧ sorting.tbs.copy = none
      ∧ (stored (fun t => { t with copy := some { next := 127, badCopies := 0 } }) sorting).tbs.copy
          = some { next := 127, badCopies := 0 }
      ∧ (running .bankCopy sorting).cmu.executing = some { command := .bankCopy, tag := 7 }
      ∧ (after .bankCopyStep
          (running .bankCopy
            (stored (fun t => { t with copy := some { next := 128, badCopies := 0 } }) sorting))).tbs.copy
          = none :=
  ⟨accepts_of_test (by decide +kernel), by decide +kernel⟩

/-- A bank whose last block is BAD. -/
def badLast : ProductBank := filledBank.setBlock 127 { CctBlock.filled 0 with state := .bad }

/-- Both banks filled. -/
def filled (s : State) : State := stored (fun t => { t with bankA := filledBank, bankB := filledBank }) s

/-- A swap pending at a signalled boundary. -/
def swapping (counted : Nat) (s : State) : State :=
  running .bankSwap
    (stored (fun t => { t with swap := some { deadline := 2, counted := counted }, boundary := true }) s)

/-- A forced swap at the deadline and none one line below it, at the rows and inside the take of a line. -/
theorem hyp_BankSwapCompletesOrWaits :
    AllAccepted [(sorting, .bankSwap, [0]), (standby, .bankSwap, [255]), (filled sorting, .bankSwap, [0]),
        (filled standby, .bankSwap, [1])]
      ∧ sorting.tbs.standbyBank.firstIn .unwritten = some 0
      ∧ (filled sorting).tbs.standbyBank.firstIn .unwritten = none
      ∧ (filled sorting).tbs.standbyBank.firstIn .bad = none
      ∧ (stored (fun t => { t with bankB := badLast }) sorting).tbs.standbyBank.firstIn .bad = some 127
      ∧ (swapping 0 sorting).quiet = true
      ∧ (after .swapAtQuietPoint (swapping 0 sorting)).tbs.generation = 1
      ∧ (lineBoundary (swapping 0 sorting)).tbs.generation = 1
      ∧ (let busy := judged (fun v => { v with evaluating := some kernel }) sorting
        (swapping 1 busy).quiet = false
          ∧ (after .swapForced (swapping 2 busy)).tbs.active = .b
          ∧ (after .swapForced (swapping 1 busy)).tbs.active = .a
          ∧ (lineBoundary (swapping 2 busy)).tbs.active = .b
          ∧ (lineBoundary (swapping 1 busy)).tbs.swap = some { deadline := 2, counted := 2 }) :=
  ⟨allAccepted_of_test (by decide +kernel), by decide +kernel⟩

/-- The scrub line count at the interval and one below it; a VALID block that fails its check. -/
theorem hyp_ScrubberRechecksTheActiveBlock :
    (∃ f, exec (.cctEntryChange .b 32768 1) sorting = .fault f)
      ∧ blockCheck (filledBank.block 127).codes = (filledBank.block 127).check
      ∧ (∀ x : CctBlock, blockCheck x.codes ≠ { x with check := blockCheck x.codes + 1 }.check)
      ∧ (stored (fun t => { t with scrubCount := 15 }) sorting).tbs.scrubCount
          < sorting.cmu.config.scrubInterval
      ∧ (let s := filled (stored (fun t => { t with scrubCount := 16, scrubPointer := 127 }) sorting)
        s.cmu.config.scrubInterval ≠ 0 ∧ s.cmu.config.scrubInterval ≤ s.tbs.scrubCount
          ∧ (s.tbs.activeBank.block 127).state = .valid)
      ∧ (filled sorting).tbs.activeBank.nbt = filledBank.nbt
      ∧ (scrubLine (stored (fun t => { t with scrubCount := 15 }) sorting)).tbs.scrubPointer = 1
      ∧ (scrubLine (stored (fun t => { t with scrubCount := 14 }) sorting)).tbs.scrubCount = 15
      ∧ ((after (.cctEntryChange .a 32767 1) (filled sorting)).tbs.bankA.block 127).codes[255]? = some 1 :=
  ⟨⟨_, rfl⟩, filledBank_check, fun x h => by
      have := congrArg BitVec.toNat h
      simp at this
      omega, by decide +kernel⟩

/-- 64 lines captured over four columns, each channel summed to `sum` with the spread given. -/
def captured (n sum spread : Nat) : State :=
  let a : Accumulator := { sum := sum, minimum := 100, maximum := 100 + spread }
  running .calibrate
    ((synced .locked standby).setCapture
      (some { captured := n, skipped := 0, columns := List.replicate 4 { r := a, g := a, b := a, n := a } }))

/-- The spread at the tolerance and above it, the gain at the ends of its range and beyond them, and the
skipped lines at 15 and at 16. -/
theorem hyp_CalibrateCapturesAndCompletes :
    AllAccepted [(synced .locked standby, .calibrate, []), (synced .hunt1 standby, .calibrate, []),
        (configured (fun c => { c with ownLast := 0, ownFirst := 1 }) standby, .calibrate, [])]
      ∧ (captured 63 12800 0).capture.map (fun k => k.captured) = some 63
      ∧ (captured 64 12800 0).cmu.executing = some { command := .calibrate, tag := 7 }
      ∧ (ColumnCapture.unsteady 24
          { r := { sum := 0, minimum := 0, maximum := 24 }, g := .start, b := .start, n := .start }) = false
      ∧ (ColumnCapture.unsteady 24
          { r := { sum := 0, minimum := 0, maximum := 25 }, g := .start, b := .start, n := .start }) = true
      ∧ (after .calibrateCompletion (captured 64 12800 0)).tbs.ccal[3]?.map (fun e => e.r.gain) = some 256
      ∧ (after .calibrateCompletion (captured 64 12800 0)).cmu.executing = none
      ∧ [14, 15, 16].map (fun n =>
          (captureSlot { filling with state := .lost, lostBefore := n } (captured 0 0 0)).capture.map
            (fun k => k.skipped)) = [some 15, none, none]
      ∧ (captureSlot { filling with state := .partialLine, nosync := true } (captured 0 0 0)).capture.map
          (fun k => k.skipped) = some 0
      ∧ (captureSlot { filling with state := .complete, samples := List.replicate 4 (some black) }
          (captured 0 0 0)).capture.map (fun k => k.captured) = some 1
      ∧ standby.capture = none
      ∧ gainOf 200 0 = none ∧ gainOf 200 25700 = some 128 ∧ gainOf 200 25701 = none
      ∧ gainOf 200 6407 = some 511 ∧ gainOf 200 6406 = none :=
  ⟨allAccepted_of_test (by decide +kernel), by decide +kernel⟩

/-- An engine that START turns into a sorting one. -/
def ready : State := ported (fun v => { v with link := .up }) (synced .locked (filled standby))

theorem hyp_StartEntersSorting :
    AllAccepted [(standby, .start, []), (ready, .start, []),
        (configured (fun c => { c with ownFirst := 4 }) ready, .start, []),
        (synced .hunt2 ready, .start, []), (ported (fun v => { v with link := .lost }) ready, .start, [])]
      ∧ standby.tbs.activeBank.firstIn .unwritten = some 0
      ∧ ready.tbs.activeBank.firstIn .unwritten = none
      ∧ (configured (fun c => { c with ownFirst := 4 }) ready).cmu.config.ownLast
          < (configured (fun c => { c with ownFirst := 4 }) ready).cmu.config.ownFirst
      ∧ ready.cmu.config.ownFirst ≤ ready.cmu.config.ownLast
      ∧ ready.liu.sync = .locked ∧ ready.vlc.link = .up ∧ ready.cmu.causes = []
      ∧ (after (.start toAll []) ready).cmu.engine = .sorting :=
  ⟨allAccepted_of_test (by decide +kernel), by decide +kernel⟩

/-- STOP with an object under evaluation left, and with nothing left. -/
theorem hyp_StopDrainsToStandby :
    sorting.accepts .stop toAll [] ∧ sorting.cmu.causes = []
      ∧ (after (.stop toAll []) sorting).cmu.engine = .standby
      ∧ (after (.stop toAll []) (judged (fun v => { v with evaluating := some kernel }) sorting)).cmu.engine
          = .draining
      ∧ (running .stop draining).drained = true
      ∧ (running .stop draining).cmu.executing = some { command := .stop, tag := 7 }
      ∧ (judged (fun v => { v with evaluating := some kernel }) draining).drained = false :=
  ⟨accepts_of_test (by decide +kernel), by decide +kernel⟩

/-- With two causes standing. -/
def twoCauses (e : EngineState) : State :=
  (inEngine e).setCmu { (inEngine e).cmu with causes := [.linkDown, .beltReverse] }

/-- A record that a flush drops. -/
def flushed : EjectionRecord :=
  ({ source := .blind, valveFirst := 0, valveLast := 63, openPos := 0, closePos := 9 } : EjectionRequest).record
    false

theorem hyp_FaultEntryEmptiesTheEngine :
    (twoCauses .sorting).cmu.engine = .sorting
      ∧ FaultCause.beltReverse ∈ (twoCauses .sorting).cmu.causes
      ∧ (after (.faultEntry .beltReverse) (twoCauses .sorting)).cmu.cause = some .beltReverse
      ∧ (after (.faultEntry .beltReverse) (twoCauses .sorting)).cmu.causes = [.linkDown]
      ∧ FaultCause.syncFailed ∉ (twoCauses .sorting).cmu.causes
      ∧ (twoCauses .fault).cmu.engine = .fault
      ∧ (after (.laterCause .linkDown) (twoCauses .fault)).cmu.causes = [.beltReverse]
      ∧ (twoCauses .fault).rpu.counters.length = 54
      ∧ (let s := scheduled (fun e => { e with eq := [flushed, flushed]
                                               ael := e.ael.set 15 (some flushed) }) (twoCauses .sorting)
        s.rpu.counters.length = 54 ∧ s.ejs.vduRequests = [] ∧ s.ejs.oasRequests = []
          ∧ (after (.faultEntry .beltReverse) s).counter .ejectionsMissedFlush = 3) := by decide +kernel

theorem hyp_ClearFaultReturnsToStandby : faulted.accepts .clearFault toAll [] :=
  accepts_of_test (by decide +kernel)

/-- With valve 63 as given. -/
def valved (x : Valve) : State := ported (fun v => { v with valves := v.valves.set 63 x }) standby

/-- Valve 63 in a state, with a thermal count and a coil fault indication. -/
def valve63 (st : ValveState) (thermal : Nat) (coil : Bool) : State :=
  valved { Valve.reset with state := st, thermal := thermal, coilFault := coil }

/-- The thermal count at rearm_level and above it. -/
theorem hyp_ValveControlByState :
    AllAccepted [(standby, .valveControl, [63, 0]), (standby, .valveControl, [63, 1]),
        (valve63 .holdoff 0 false, .valveControl, [63, 1]),
        (valve63 .tripped 400 false, .valveControl, [63, 1]),
        (valve63 (.disabled .coil) 0 true, .valveControl, [63, 1])]
      ∧ ((after (.valveControlEnable toAll [63, 1]) (valve63 .tripped 400 false)).valve 63).state = .idle
      ∧ ((after (.valveControlEnable toAll [63, 1]) (valve63 .tripped 401 false)).valve 63).state
          = .tripped
      ∧ ((after (.valveControlEnable toAll [63, 1]) (valve63 (.disabled .coil) 0 true)).valve 63).state
          = .disabled .coil
      ∧ ((after (.valveControlDisable toAll [63, 0]) (valve63 .on 5 false)).valve 63).state
          = .disabled .soft :=
  ⟨allAccepted_of_test (by decide +kernel), by decide +kernel⟩

theorem hyp_OnTestAndHoldoffExpiry :
    (oneValveOn.valve 5).state = .on ∧ 0 < (oneValveOn.valve 5).refCount
      ∧ oneValveOn.bpu.beltState = .moving ∧ (oneValveOn.valve 4).state = .idle
      ∧ (standby.valve 63).refCount = 0 ∧ standby.vlc.tests 63 = false
      ∧ (valve63 .holdoff 0 false).cmu.config.holdoff ≠ 0
      ∧ (configured (fun c => { c with holdoff := 0 }) standby).cmu.config.holdoff = 0
      ∧ ((valve63 .holdoff 0 false).valve 63).state = .holdoff
      ∧ ((valve63 .holdoff 0 false).valve 63).delayMark = false
      ∧ (ported (fun v => { v with test := some { valve := 63, left := 1 } })
          (valve63 .holdoff 0 false)).vlc.tests 63 = true
      ∧ ((valve63 .tripped 0 false).valve 63).state = .tripped
      ∧ ((valved { Valve.reset with state := .holdoff, holdoff := some 0 }).valve 63).holdoff.isSome = true
      ∧ (standby.valve 63).holdoff = none := by decide +kernel

/-- The hand-over and the raise of the counts at valve 63: its count has changed or has not, the belt state
has changed, and a TRIPPED valve is counted. -/
theorem hyp_HandOverAndRaise :
    (let before := belt (fun b => { b with stallFlag := false }) standby
    let raised := raiseCounts 62 63 before
    (before.valve 63).refCount ≠ (raised.valve 63).refCount
        ∧ before.bpu.beltState = raised.bpu.beltState
        ∧ (before.valve 61).refCount = (raised.valve 61).refCount
        ∧ [61, 62, 63].map (fun i => ((handOver before raised).valve i).state) = [.idle, .on, .on]
        ∧ ((handOver standby raised).valve 0).state = .idle)
      ∧ (let s := valve63 .tripped 0 false
        s.vlc.valves.length = 64 ∧ (raiseCounts 62 63 s).counter .valveSkipped = 1
          ∧ ((raiseCounts 62 63 s).valve 63).refCount = 1
          ∧ (raiseCounts 0 62 s).counter .valveSkipped = 0) := by decide +kernel

/-- A hot valve at trip_level after the tick, and one below it. -/
theorem hyp_ThermalTickHeatsAndTrips :
    ((after .thermalTick (valve63 .on 3996 false)).valve 63).state = .tripped
      ∧ ((after .thermalTick (valve63 .on 3995 false)).valve 63).state = .on
      ∧ ((after .thermalTick (valve63 .idle 0 false)).valve 63).thermal = 0
      ∧ (let s := valved { Valve.reset with state := .on, tripDue := true }
        (s.valve 63).tripDue = true ∧ (s.valve 63).state = .on ∧ s.vlc.tests 63 = false)
      ∧ (standby.valve 63).tripDue = false := by decide +kernel

theorem hyp_ValveTestRunsAndEnds :
    AllAccepted [(standby, .valveTest, [63, 1]),
        (ported (fun v => { v with link := .up }) standby, .valveTest, [63, 255]),
        (ported (fun v => { v with link := .up }) (valve63 .tripped 0 false), .valveTest, [63, 1])]
      ∧ standby.vlc.link = .lost
      ∧ ((after (.valveTest toAll [63, 1])
          (ported (fun v => { v with link := .up }) standby)).valve 63).state = .on
      ∧ standby.vlc.test = none
      ∧ (let s := running .valveTest (ported (fun v => { v with test := some { valve := 63, left := 0 } })
            (valve63 .on 9 false))
        s.vlc.test = some { valve := 63, left := 0 }
          ∧ s.cmu.executing = some { command := .valveTest, tag := 7 }
          ∧ ((after .valveTestExpiry s).valve 63).state = .holdoff) :=
  ⟨allAccepted_of_test (by decide +kernel), by decide +kernel⟩

/-- A Status frame that echoes a sequence and indicates the coil fault of valve 63 or of none. -/
def statusOf (sequence last : Byte) : List Byte :=
  let head := [sequence, 0, 0, 0, 0, 0, 0, 0, last]
  head ++ le 2 (checkWord head).toNat

/-- The answer window of image 9 is open. -/
def answering (misses : Nat) (l : ValveLink) (s : State) : State :=
  ported (fun v => { v with phase := .awaiting, awaited := some 9, answerLeft := some 1
                            missCount := misses, link := l }) s

/-- A test of valve 63 runs. -/
def testing (x : Valve) : State :=
  running .valveTest (ported (fun v => { v with test := some { valve := 63, left := 1 } }) (valved x))

/-- The three early ends: a trip at trip_level and not one below it, a coil fault, the loss of the link. -/
theorem hyp_ValveTestEndsEarly :
    (let due := testing { Valve.reset with state := .on, tripDue := true }
    due.vlc.tests 63 = true ∧ due.cmu.executing = some { command := .valveTest, tag := 7 }
        ∧ (due.valve 63).tripDue = true ∧ (due.valve 63).state = .on)
      ∧ ((testing { Valve.reset with state := .on, coilFault := true }).valve 63).coilFault = true
      ∧ (let hot := testing { Valve.reset with state := .on, thermal := 3996 }
        hot.vlc.test = some { valve := 63, left := 1 } ∧ (63 : Nat) < hot.vlc.valves.length
          ∧ hot.cmu.config.tripLevel ≤ min 65535 ((hot.valve 63).thermal + hot.cmu.config.heatStep)
          ∧ (∀ j < 64, j ≠ 63 → (hot.valve j).state ≠ .on)
          ∧ (after .thermalTick hot).cmu.executing = none
          ∧ ((after .thermalTick hot).valve 63).state = .tripped)
      ∧ (after .thermalTick (testing { Valve.reset with state := .on, thermal := 3995 })).vlc.test.isSome
          = true
      ∧ (let s := answering 2 .up (testing { Valve.reset with state := .on })
        s.vlc.phase = .awaiting ∧ s.vlc.awaited = some ((statusOf 9 0x80).getD 0 0) ∧ s.vlc.link = .up
          ∧ statusFault (statusOf 9 0x80) 63 = true ∧ (s.valve 63).state ≠ .disabled .coil
          ∧ (∀ j < 64, j ≠ 63 → statusFault (statusOf 9 0x80) j = false)
          ∧ (after (.statusFrame (statusOf 9 0x80)) s).cmu.executing = none
          ∧ ((after (.statusFrame (statusOf 9 0x80)) s).valve 63).state = .disabled .coil
          ∧ 2 ≤ s.vlc.missCount ∧ s.cmu.engine = .standby ∧ s.cmu.config.holdoff ≠ 0
          ∧ (s.valve 63).refCount = 0
          ∧ (after .answerWindowClose s).cmu.executing = none
          ∧ ((after .answerWindowClose s).valve 63).state = .holdoff) := by decide +kernel

theorem hyp_ValvePortExchange :
    standby.vlc.phase = .free
      ∧ (after .imageStart (ported (fun v => { v with imageDue := true }) standby)).vlc.phase = .sending
      ∧ [9999, 10000].map (fun n =>
          (after .imageStart (ported (fun v => { v with imageDue := false, refresh := n })
            standby)).vlc.phase) = [.free, .sending]
      ∧ (answering 0 .up standby).vlc.phase = .awaiting
      ∧ statusGood (statusOf 9 0x80) = true ∧ statusGood [0] = false
      ∧ (answering 0 .up standby).vlc.awaited = some ((statusOf 9 0x80).getD 0 0)
      ∧ (answering 0 .up standby).vlc.awaited ≠ some ((statusOf 8 0).getD 0 0)
      ∧ ((after (.statusFrame (statusOf 9 0x80)) (answering 0 .lost standby)).valve 63).state
          = .disabled .coil
      ∧ (after (.statusFrame (statusOf 9 0)) (answering 0 .lost standby)).vlc.link = .up
      ∧ atRestTest (answering 2 .up sorting) = true
      ∧ (after .answerWindowClose (answering 1 .up sorting)).vlc.link = .up
      ∧ (after .answerWindowClose (answering 2 .up sorting)).cmu.cause = some .valveLinkLost
      ∧ (after .answerWindowClose (answering 3 .lost sorting)).vlc.missCount = 3 := by decide +kernel

/-- The payload of a LINE frame of camera line `m` with the columns 0 ~ k - 1. -/
def linePayload (m k : Nat) : List Byte :=
  le 2 m ++ le 2 0 ++ le 2 k ++ List.replicate (4 * k) 0

/-- Line 1 has been triggered. -/
def oneLine (x : SyncState) (s : State) : State :=
  belt (fun b => { b with line := 1, triggerPos := 4 })
    (ringed (fun l => { l with sync := x, busy := [filling], freeOrder := [1, 2, 3, 4, 5, 6, 7] }) s)

theorem hyp_LineFramesFillTheRing :
    (linePayload 1 4).length ≤ maxPayload
      ∧ State.reset.liuActive = false ∧ linePayloadGood [0] = false
      ∧ windowPart fourColumns 4 [] = []
      ∧ (oneLine .locked standby).liuActive = true ∧ linePayloadGood (linePayload 1 4) = true
      ∧ windowPart fourColumns 0 (samplesOf ((linePayload 1 4).drop 6)) ≠ []
      ∧ 32768 ≤ ((1 : LineNo) - (2 : LineNo)).toNat ∧ ¬ 32768 ≤ ((1 : LineNo) - (1 : LineNo)).toNat
      ∧ (after (.lineFrame toAll (linePayload 2 4)) (oneLine .locked standby)).liu.consecutiveLoss = 1
      ∧ (after (.lineFrame toAll (linePayload 2 4))
          (ringed (fun l => { l with consecutiveLoss := 2 }) (oneLine .locked sorting))).liu.sync = .hunt1
      ∧ atRestTest (oneLine .locked sorting) = true
      ∧ (after (.lineFrame toAll (linePayload 2 4))
          (ringed (fun l => { l with completeRun := 3 }) (oneLine .hunt1 standby))).liu.completeRun = 0
      ∧ (after (.lineFrame toAll (linePayload 0 4)) (oneLine .locked sorting)).counter .framesStale = 1
      ∧ (after (.lineFrame toAll (linePayload 1 3)) (oneLine .locked sorting)).liu.busy.map
          (fun x => x.state) = [.filling]
      ∧ (after (.lineFrame toAll (linePayload 1 4)) (oneLine .locked sorting)).liu.busy.map
          (fun x => x.state) = [.assembling]
      ∧ (after (.lineFrame toAll (linePayload 1 4))
          (ringed (fun l => { l with completeRun := 3 }) (oneLine .hunt1 standby))).liu.sync = .locked
      ∧ (after (.lineFrame toAll (linePayload 9 4))
          (ringed (fun l => { l with realignPending := true }) (oneLine .hunt2 standby))).liu.offset = 8 := by
  decide +kernel

/-- Line 1 is the latest, and the next advance reaches the pitch. -/
def nearPitch (x : SyncState) (s : State) : State := belt (fun b => { b with pitch := 3 }) (oneLine x s)

/-- With the pitch reached. -/
def atPitch (x : SyncState) (s : State) : State := belt (fun b => { b with pitch := 4 }) (oneLine x s)

/-- The hunt count below its limit and at it, in each hunt; the ring full. -/
theorem hyp_TriggerAllocatesASlot :
    (let s := atPitch .locked standby
     s.cmu.config.linePitch ≤ s.bpu.pitch ∧ atRestTest s = true ∧ s.liuActive = true
        ∧ s.liu.sync = .locked
        ∧ (∀ x ∈ s.liu.busy, x.due = false
            ∧ (x.state = .filling → (s.bpu.line + 1 - x.line).toNat < s.cmu.config.latencyLines))
        ∧ s.liu.freeOrder = 1 :: [2, 3, 4, 5, 6, 7]
        ∧ (after .lineTrigger s).liu.busy.length = 2
        ∧ (after .lineTrigger (ringed (fun l => { l with freeOrder := [] }) s)).liu.pendingLost = 1)
      ∧ State.reset.liuActive = false
      ∧ (timing (.a true) (nearPitch .locked standby)).bpu.timed (.a true)
      ∧ (Accepted.a true).pairAfter standby.bpu = nextForward standby.bpu.pair
      ∧ standby.bpu.debt = 0 ∧ standby.bpu.armed = false
      ∧ (accepted (.a true) (nearPitch .locked standby)).liu.busy.length = 2
      ∧ (accepted (.a true) (nearPitch .hunt1 standby)).liu.busy.map (fun x => x.nosync) = [false, true]
      ∧ [8, 9].map (fun n => (accepted (.a true)
          (ringed (fun l => { l with huntCount := n }) (nearPitch .hunt1 standby))).liu.sync)
            = [.hunt1, .hunt2]
      ∧ [8, 9].map (fun n => (accepted (.a true)
          (ringed (fun l => { l with huntCount := n }) (nearPitch .hunt2 standby))).liu.sync)
            = [.hunt2, .failed]
      ∧ (accepted (.a true) (configured (fun c => { c with latencyLines := 1 })
          (nearPitch .locked standby))).counter .linesLost = 1 := by
  unfold Bpu.timed
  decide +kernel

/-- The slot of line 1 is due, with or without a sample. -/
def due (sample : Option Sample) (x : SyncState) (s : State) : State :=
  ringed (fun l => { l with busy :=
    [{ filling with due := true, samples := [sample, none, none, none] }] }) (oneLine x s)

theorem hyp_DueSlotsAndHuntTimeout :
    atRestTest (due (some black) .locked standby) = true
      ∧ (due none .locked standby).liu.busy.find? (fun y => y.due && decide (y.state = .filling))
          = some { filling with due := true }
      ∧ (after .slotDue (due (some black) .hunt1 standby)).counter .linesPartial = 1
      ∧ (after .slotDue (due none .locked standby)).liu.consecutiveLoss = 1
      ∧ (after .slotDue (ringed (fun l => { l with consecutiveLoss := 2 })
          (due none .locked standby))).liu.sync = .hunt1
      ∧ (after .slotDue (due none .hunt2 standby)).counter .linesLost = 1
      ∧ (after .huntTimeout (ringed (fun l => { l with huntCount := 9 })
          (synced .hunt1 standby))).liu.sync = .hunt1
      ∧ (after .huntTimeout (ringed (fun l => { l with huntCount := 10 })
          (synced .hunt1 standby))).liu.sync = .hunt2
      ∧ (after .huntTimeout (ringed (fun l => { l with huntCount := 10 })
          (synced .hunt2 sorting))).cmu.cause = some .syncFailed
      ∧ (after .huntTimeout (ringed (fun l => { l with huntCount := 10 })
          (synced .hunt2 standby))).cmu.engine = .standby := by decide +kernel

/-- The slot of line 1 has settled. -/
def settledSlot (st : SlotState) (nosync : Bool) (s : State) : State :=
  ringed (fun l => { l with busy := [{ filling with state := st, nosync := nosync }] })
    (oneLine .locked s)

theorem hyp_SlotsAreDeliveredInOrder :
    deliverable standby = none
      ∧ (settledSlot .lost false standby).liu.busy = { filling with state := .lost } :: []
      ∧ (settledSlot .lost false standby).capture = none
      ∧ (after .slotDelivery (settledSlot .lost false standby)).liu.freeOrder = [1, 2, 3, 4, 5, 6, 7, 0]
      ∧ (after .slotDelivery (settledSlot .complete false draining)).liu.busy = []
      ∧ (after .slotDelivery (settledSlot .complete true sorting)).oas.lineInAssembly = none
      ∧ (settledSlot .complete false sorting).tbs.swap = none
      ∧ (after .slotDelivery (settledSlot .complete false sorting)).oas.lineInAssembly.map
          (fun l => l.classRow) = some [0, 0, 0, 0]
      ∧ (after .slotDelivery (settledSlot .partialLine false (captured 0 0 0))).capture.map
          (fun k => k.skipped) = some 1
      ∧ (after .slotDelivery (settledSlot .lost false sorting)).oas.lostRun = 1
      ∧ (after .slotDelivery (settledSlot .lost false sorting)).liu.busy = []
      ∧ (after .slotDelivery (settledSlot .complete true (swapping 0 sorting))).tbs.active = .b
      ∧ (after .slotDelivery (settledSlot .complete false (swapping 0 sorting))).oas.lineInAssembly.map
          (fun l => l.generation) = some 1 := by decide +kernel

theorem hyp_PixelClass :
    ((ProductBank.powerOn.setBlock 0 { CctBlock.filled 0 with state := .bad }).block 0).state = .bad
      ∧ (filledBank.block 0).state ≠ .bad
      ∧ filledBank.nbt[0]? = some { low := 0, high := 255, override := 0 }
      ∧ (classifyColumn ColumnCal.powerOn filledBank (some black)).override = false
      ∧ (classifyColumn ColumnCal.powerOn
          { filledBank with nbt := [{ low := 1, high := 255, override := 9 }] } (some black)).code = 9 := by
  decide +kernel

/-- A line in assembly whose class row is given. -/
def lineOf (row : List ClassCode) (s : State) : State :=
  let l : LineInAssembly :=
    { slot := 0, line := 2, position := 8, isPartial := false, lostBefore := 0, generation := 0,
      classRow := row }
  configured (fun c => { c with scrubInterval := 0 })
    (assembled (fun o => { o with lineInAssembly := some l }) (settledSlot .assembling false s))

/-- An object open in slot 5, with its run in the PLR. -/
def oneOpen (s : State) : State :=
  assembled (fun o => { o with oot := (List.replicate 96 OotSlot.free).set 5 (.opened kernel)
                               plr := [{ first := 1, last := 1, label := some 5 }] }) s

/-- A second object open in slot 7, started earlier, with its run in the PLR. -/
def twoOpen (s : State) : State :=
  assembled (fun o => { o with oot := (o.oot.set 5 (.opened kernel)).set 7
                                 (.opened { kernel with startLine := 0, colMin := 3, colMax := 3 })
                               plr := [{ first := 1, last := 1, label := some 5 },
                                 { first := 3, last := 3, label := some 7 }] }) s

/-- Every slot of the table holds an OPEN object, and no run of the last line is kept. -/
def fullTable (s : State) : State :=
  assembled (fun o => { o with oot := List.replicate 96 (.opened kernel), plr := [] }) s

/-- With lines lost before the line in assembly. -/
def lostAhead (n : Nat) (s : State) : State :=
  assembled (fun o =>
    { o with lineInAssembly := o.lineInAssembly.map (fun l => { l with lostBefore := n }) }) s

/-- A run of column 2. -/
def middle : Run := Run.single 2 3

theorem hyp_LinesAreAssembled :
    sorting.oas.lineInAssembly = none
      ∧ (oneOpen (lineOf [0, 0, 0, 0] sorting)).oas.oot.length = 96
      ∧ (oneOpen (lineOf [0, 0, 0, 0] sorting)).oas.closeAllDue = false
      ∧ (oneOpen (lineOf [0, 0, 0, 0] sorting)).cmu.config.scrubInterval = 0
      ∧ scanRuns 0 none [0, 0, 0, 0] = []
      ∧ (after .lineAssemblyCompletion (oneOpen (lineOf [0, 0, 0, 0] sorting))).vdu.evaluating
          = some kernel
      ∧ (scanRuns 0 none [0, 0, 3, 0]).map (fun r => (r.first, r.last)) = [(2, 2)]
      ∧ (lineOf [0, 0, 3, 0] sorting).oas.plr = []
      ∧ (lineOf [0, 0, 3, 0] sorting).oas.oot = List.replicate 96 .free
      ∧ (after .lineAssemblyCompletion (lineOf [0, 0, 3, 0] sorting)).oas.openCount = 1
      ∧ (after .lineAssemblyCompletion (oneOpen (lineOf [0, 0, 3, 0] sorting))).oas.plr
          = [{ first := 2, last := 2, label := some 5 }]
      ∧ (assembled (fun o => { o with closeAllDue := true })
          (oneOpen (lineOf [0, 0, 3, 0] sorting))).oas.closeAllDue = true
      ∧ (after .closeAll (assembled (fun o => { o with closeAllDue := true })
          (oneOpen (lineOf [0, 0, 3, 0] sorting)))).oas.openCount = 0
      ∧ sorting.cmu.causes = [] := by decide +kernel

/-- The lost run below 2 and at it, and the merge, the exhaustion and the oversize close of a line. -/
theorem hyp_LinesAreAssembled_stages :
    (∀ s ∈ [oneOpen sorting, twoOpen sorting, fullTable sorting], s.oas.oot.length = 96 ∧ s.closingLaw)
      ∧ [0, 1, 2, 3].map (fun n =>
          (applyLostLine (assembled (fun o => { o with lostRun := n }) (oneOpen sorting))).oas.openCount)
            = [1, 1, 0, 0]
      ∧ (applyLostLine (assembled (fun o => { o with lostRun := 2 }) (oneOpen sorting))).toJudge
          = [kernel.lineLost]
      ∧ (after .lineAssemblyCompletion (lostAhead 9 (oneOpen (lineOf [0, 0, 3, 0] sorting)))).vdu.evaluating
          = some { kernel with flags := { kernel.flags with gap := true, lineLoss := true } }
      ∧ linkSet sorting middle = [] ∧ sorting.oas.oot.findIdx? OotSlot.isFree = some 0
      ∧ linkSet (oneOpen sorting) middle = [5] ∧ (oneOpen sorting).openObject 5 = some kernel
      ∧ linkSet (twoOpen sorting) middle = [5, 7]
      ∧ (after .lineAssemblyCompletion (twoOpen (lineOf [0, 0, 3, 0] sorting))).oas.plr
          = [{ first := 2, last := 2, label := some 7 }]
      ∧ (after .lineAssemblyCompletion (twoOpen (lineOf [0, 0, 3, 0] sorting))).counter .objectsMerged = 1
      ∧ linkSet (fullTable sorting) middle = []
      ∧ (fullTable sorting).oas.oot.findIdx? OotSlot.isFree = none
      ∧ fourColumns.owns 2 = true ∧ fourColumns.owns 4 = false
      ∧ fourColumns.ootFullAction = .blind
      ∧ valveRange fourColumns sorting.tbs.vmt 2 2 = none
      ∧ valveRange fourColumns (sorting.tbs.vmt.set 2 (some 9)) 2 2 = some (9, 9)
      ∧ [some 9, none].map (fun v => (after .lineAssemblyCompletion
          (stored (fun t => { t with vmt := t.vmt.set 2 v })
            (fullTable (lineOf [0, 0, 3, 0] sorting)))).ejs.oasRequests.length) = [1, 0]
      ∧ [1, 2, 3].map (fun n =>
          (endLine true [{ first := 1, last := 1, label := some 5 }]
            (configured (fun c => { c with maxObjectLines := n }) (oneOpen sorting))).oas.openCount)
              = [0, 1, 1]
      ∧ (scanRuns 0 none ((List.replicate 129 [3, 0]).flatten)).length = 129 :=
  ⟨fun s hs => by
      rcases List.mem_cons.1 hs with rfl | hs
      · exact ⟨rfl, closingLaw_of_test (by decide +kernel)⟩
      · rcases List.mem_cons.1 hs with rfl | hs
        · exact ⟨rfl, closingLaw_of_test (by decide +kernel)⟩
        · rw [List.mem_singleton.1 hs]
          exact ⟨by decide +kernel, closingLaw_of_test (by decide +kernel)⟩,
    by decide +kernel⟩

/-- An object closing in slot 5. -/
def oneClosing (s : State) : State :=
  assembled (fun o => { o with oot := (List.replicate 96 OotSlot.free).set 5 (.closing kernel)
                               closingOrder := [5] }) s

theorem hyp_ClosedObjectsReachTheVerdictUnit :
    (oneClosing sorting).closingLaw
      ∧ (oneClosing sorting).oas.closingOrder = 5 :: []
      ∧ (oneClosing sorting).oas.oot.getD 5 .free = .closing kernel
      ∧ (judged (fun _ => { vq := List.replicate 15 kernel, evaluating := some kernel })
          sorting).vdu.vq.length < 16
      ∧ 16 ≤ (judged (fun _ => { vq := List.replicate 16 kernel, evaluating := some kernel })
          sorting).vdu.vq.length
      ∧ (pump (judged (fun _ => { vq := List.replicate 16 kernel, evaluating := some kernel })
          (oneClosing sorting))).oas.closingOrder = [5]
      ∧ (pump (oneClosing sorting)).toJudge = [kernel]
      ∧ (after .closingToVq (oneClosing sorting)).vdu.evaluating = some kernel
      ∧ (after .vqTake (judged (fun v => { v with vq := [kernel] }) sorting)).vdu.vq = []
      ∧ (after .vqTake (judged (fun v => { v with vq := List.replicate 16 kernel })
          (oneClosing sorting))).vdu.vq.length = 16
      ∧ sorting.vdu.evaluating = none ∧ sorting.vdu.vq = [] ∧ sorting.oas.closingOrder = [] :=
  ⟨closingLaw_of_test (by decide +kernel), by decide +kernel⟩

theorem hyp_RuleMatches :
    kernel.histogram.length = 16
      ∧ (judged (fun v => { v with evaluating := some kernel }) sorting).recordLaw
      ∧ ({ Rule.powerOn with areaMin := 2, areaMax := 1 } : Rule).areaMax < 2
      ∧ (let r := { Rule.powerOn with enabled := true, areaMin := 1, areaMax := 1, threshold := 0 }
        r.coincidence = none ∧ r.areaMin ≤ kernel.area ∧ kernel.area ≤ r.areaMax
          ∧ r.matches kernel = true) := by
  unfold State.recordLaw
  decide +kernel

/-- A rule that rejects every object with a pixel of class 3. -/
def rejectThree : Rule :=
  { Rule.powerOn with enabled := true, mask := 0x0008, threshold := 1, action := .reject }

/-- The object under evaluation, with rule 15 rejecting it, and the valve of its column. -/
def judging (valve : Option Nat) (f : ObjectRecord → ObjectRecord) : State :=
  stored (fun t => { t with bankA := { t.bankA with rules := t.bankA.rules.set 15 rejectThree }
                            vmt := t.vmt.set 1 valve })
    (judged (fun v => { v with evaluating := some (f kernel) }) sorting)

theorem hyp_EvaluationsComplete :
    sorting.vdu.evaluating = none
      ∧ (judging none id).vdu.evaluating = some kernel
      ∧ (judging none id).cmu.config.reportMode = .none
      ∧ (judge (judging none id).cmu.config (judging none id).tbs.activeBank kernel)
          = (.reject, .rule 15)
      ∧ (judge fourColumns ProductBank.powerOn kernel) = (.accept, .default)
      ∧ (judge fourColumns ProductBank.powerOn { kernel with colMin := 4, colMax := 4 })
          = (.discarded, .ownership)
      ∧ flagPolicies fourColumns { ObjectFlags.none with lineLoss := true }
          = some (.reject, .flag .lineLoss)
      ∧ flagPolicies { fourColumns with policyMixed := .evaluate, policyGap := .accept }
          { ObjectFlags.none with mixed := true, gap := true } = some (.accept, .flag .gap)
      ∧ flagPolicies { fourColumns with policyMixed := .accept }
          { ObjectFlags.none with mixed := true, gap := true } = some (.accept, .flag .mixed)
      ∧ flagPolicies fourColumns ObjectFlags.none = none
      ∧ (let vmt := [none, some 9, some 63, none, some 0]
        [(0, 0), (0, 1), (0, 3), (1, 4), (3, 3), (4, 9)].map
            (fun x => valveRange fourColumns vmt (fourColumns.windowFirst + x.1) (fourColumns.windowFirst + x.2))
          = [none, some (9, 9), some (9, 63), some (0, 63), none, some (0, 0)])
      ∧ (after .evaluationCompletion (judging none id)).counter .noValve = 1
      ∧ (after .evaluationCompletion (judging (some 63) id)).ejs.vduRequests.length = 1
      ∧ (after .evaluationCompletion (belt (fun b => { b with travel := 16 })
          (judging (some 63) id))).counter .ejectionsMissedLate = 1
      ∧ [ReportMode.none, .rejects, .all].map (fun m =>
          (after .evaluationCompletion (configured (fun c => { c with reportMode := m })
            (judging none id))).lki.roFrame.isSome) = [false, true, true]
      ∧ [ReportMode.none, .rejects, .all].map (fun m =>
          (after .evaluationCompletion (configured (fun c => { c with reportMode := m })
            (judging none (fun o => { o with histogram := List.replicate 16 0 })))).lki.roFrame.isSome)
              = [false, false, true] := by decide +kernel

/-- A request for valves 3 ~ 5 with the window given. -/
def requestOf (opens closes : Position) : EjectionRequest :=
  { source := .blind, valveFirst := 3, valveLast := 5, openPos := opens, closePos := closes }

/-- The request stands, under an overlap policy. -/
def asked (policy : OverlapPolicy) (q : EjectionRequest) (s : State) : State :=
  configured (fun c => { c with overlapPolicy := policy })
    (scheduled (fun e => { e with vduRequests := [q] }) s)

/-- A record waits in the Ejection Queue, or holds slot 0 of the Active Ejection List. -/
def queued (s : State) : State :=
  scheduled (fun e => { e with eq := [(requestOf 10 20).record false] }) s

def active (s : State) : State :=
  scheduled (fun e => { e with ael := e.ael.set 0 (some ((requestOf 0 20).record false)) }) s

/-- The Active Ejection List is full. -/
def allActive (s : State) : State :=
  scheduled (fun e => { e with ael := List.replicate 16 (some ((requestOf 0 9).record false)) }) s

theorem hyp_EjectionRequestsAreTaken :
    sorting.ejs.vduRequests = [] ∧ sorting.ejs.oasRequests = []
      ∧ (asked .merge (requestOf 10 20) sorting).ejs.vduRequests = requestOf 10 20 :: []
      ∧ (scheduled (fun e => { e with oasRequests := [requestOf 10 20] }) sorting).ejs.oasRequests
          = requestOf 10 20 :: []
      ∧ reached (0 : Position) 0 = true ∧ reached (1 : Position) 0 = false
      ∧ (after (.ejectionRequest .verdictUnit) (asked .merge (requestOf 0 0) sorting)).counter
          .ejectionsMissedLate = 1
      ∧ (after (.ejectionRequest .verdictUnit) (asked .refuse (requestOf 20 30) (queued sorting))).counter
          .ejectionsRefusedOverlap = 1
      ∧ (after (.ejectionRequest .verdictUnit)
          (asked .refuse (requestOf 21 30) (queued sorting))).ejs.eq.length = 2
      ∧ (after (.ejectionRequest .verdictUnit)
          (asked .separate (requestOf 1 30) sorting)).ejs.eq.length = 1
      ∧ (after (.ejectionRequest .verdictUnit) (asked .separate (requestOf 1 30)
          (scheduled (fun e => { e with eq := List.replicate 64 ((requestOf 10 20).record false) })
            sorting))).counter .ejectionsRefusedFull = 1
      ∧ freeIndex sorting.ejs.ael = some 0
      ∧ ((after (.ejectionRequest .verdictUnit)
          (asked .separate (requestOf 0 30) sorting)).valve 5).refCount = 1
      ∧ (active sorting).ejs.ael.findIdx? (overlapsSlot 0 (requestOf 5 30)) = some 0
      ∧ (active sorting).ejs.ael[0]? = some (some ((requestOf 0 20).record false))
      ∧ (queued sorting).ejs.ael.findIdx? (overlapsSlot 0 (requestOf 5 30)) = none
      ∧ (queued sorting).ejs.eq.findIdx? (overlaps 0 (requestOf 5 30)) = some 0
      ∧ (after (.ejectionRequest .verdictUnit)
          (asked .merge (requestOf 5 30) (queued sorting))).ejs.eq.map (fun r => (r.openPos, r.closePos))
          = [(5, 30)]
      ∧ (after (.ejectionRequest .verdictUnit)
          (asked .merge (requestOf 10 30) (queued sorting))).ejs.eq.map (fun r => r.merged) = [true]
      ∧ freeIndex (allActive sorting).ejs.ael = none
      ∧ (after (.ejectionRequest .verdictUnit)
          (asked .separate (requestOf 0 30) (allActive sorting))).ejs.eq.map (fun r => r.late) = [true]
      ∧ (let wide := ported (fun v => { v with valves := v.valves.set 6 { Valve.reset with state := .tripped } })
          (asked .merge { requestOf 5 30 with valveFirst := 2, valveLast := 6 } (active sorting))
        let t := after (.ejectionRequest .verdictUnit) wide
        wide.rpu.counters.length = 54 ∧ wide.vlc.valves.length = 64
          ∧ t.counter .valveSkipped = 1 ∧ t.counter .ejectionsMerged = 1
          ∧ [1, 2, 3, 5, 6, 7].map (fun k => (t.valve k).refCount) = [0, 1, 0, 0, 1, 0])
      ∧ (after (.ejectionRequest .verdictUnit) (asked .separate (requestOf 0 30)
          (scheduled (fun e => { e with eq := List.replicate 64 ((requestOf 10 20).record false) })
            (allActive sorting)))).counter .ejectionsRefusedFull = 1
      ∧ waitDistance (0 : Position) 0 < waitDistance (10 : Position) 0
      ∧ (let t := after (.ejectionRequest .verdictUnit) (asked .merge (requestOf 0 15) (queued sorting))
        t.ejs.eq = [] ∧ t.ejs.activeCount = 1 ∧ t.counter .ejectionsLate = 1) := by
  decide +kernel

/-- An active record that closes at the next advance, and a queued one that opens at it. -/
def atTheAdvance (open' close : Position) : State :=
  scheduled (fun e => { e with ael := e.ael.set 0 (some ((requestOf 0 1).record false))
                               eq := [(requestOf open' close).record false] })
    (belt (fun b => { b with stallFlag := false }) (synced .locked sorting))

theorem hyp_AdvanceClosesAndActivates :
    (timing (.a true) (atTheAdvance 1 2)).bpu.timed (.a true)
      ∧ (Accepted.a true).pairAfter (atTheAdvance 1 2).bpu = nextForward (atTheAdvance 1 2).bpu.pair
      ∧ (atTheAdvance 1 2).bpu.debt = 0 ∧ atRestTest (atTheAdvance 1 2) = true
      ∧ (atTheAdvance 1 2).bpu.armed = false ∧ (atTheAdvance 1 2).liu.sync = .locked
      ∧ (atTheAdvance 1 2).ejs.ael.length = 16 ∧ (atTheAdvance 1 2).vlc.valves.length = 64
      ∧ reached (2 : Position) 1 = false ∧ reached (1 : Position) 1 = true
      ∧ (accepted (.a true) (atTheAdvance 2 3)).ejs.eq.length = 1
      ∧ (accepted (.a true) (atTheAdvance 2 3)).ejs.activeCount = 0
      ∧ (accepted (.a true) (atTheAdvance 1 2)).ejs.eq = []
      ∧ (accepted (.a true) (atTheAdvance 1 2)).ejs.activeCount = 1
      ∧ (accepted (.a true) (allActive (atTheAdvance 1 2))).counter .aelWaits = 1
      ∧ (let s := atTheAdvance 0 1
        reached (0 : Position) 1 = true ∧ s.ejs.eq = [(requestOf 0 1).record false]
          ∧ (accepted (.a true) s).counter .ejectionsMissedAelFull = 1
          ∧ (accepted (.a true) s).counter .ejectionsFired = 0
          ∧ (accepted (.a true) s).ejs.eq = [])
      ∧ (let s := scheduled (fun e => { e with eq := [(requestOf 0 1).record false,
            (requestOf 1 2).record true, (requestOf 1 2).record false, (requestOf 2 3).record false] })
          (atTheAdvance 1 2)
        let t := accepted (.a true) s
        t.ejs.eq = [(requestOf 2 3).record false] ∧ t.ejs.activeCount = 2
          ∧ t.counter .ejectionsFired = 2 ∧ t.counter .ejectionsLate = 1
          ∧ t.counter .ejectionsMissedAelFull = 1)
      ∧ freeIndex (allActive sorting).ejs.ael = none ∧ freeIndex sorting.ejs.ael = some 0 := by
  unfold Bpu.timed
  decide +kernel

theorem hyp_ConfigurationBytesRoundTrip :
    Configuration.powerOn.inRange = true ∧ fourColumns.inRange = true := by decide +kernel

theorem hyp_FrameBytesRoundTrip :
    ([] : List Byte).length ≤ maxPayload ∧ (List.replicate 4104 (0 : Byte)).length ≤ maxPayload := by
  decide +kernel

/-- A sorting engine with an object open, a valve ON under an active record, and a record queued. -/
def lawful : State :=
  bump .objectsOpened
    (scheduled (fun e => { e with eq := [(requestOf 10 20).record false]
                                  ael := e.ael.set 0
                                    (some { (requestOf 0 9).record false with valveFirst := 5 }) })
      (oneOpen (filled oneValveOn)))

/-- A state that meets the laws and steps on, so the hypotheses of the statements about laws are met. -/
theorem hyp_StepKeepsTheLaws :
    let s := lawful.setPending [.thermalTick]
    (∃ t : State, step s = .next t)
      ∧ s.objectLaw ∧ s.queueLaw ∧ s.executingLaw ∧ s.valveLaw ∧ s.ringLaw ∧ s.numberedLaw ∧ s.debtLaw
      ∧ s.queueBounds ∧ s.recordLaw ∧ s.plrLaw ∧ s.bankLaw ∧ s.orderLaw
      ∧ ∀ r ∈ s.ejs.eq, distanceAhead r.openPos s.bpu.travel ≠ 2 ^ 23 + 1 := by
  refine ⟨⟨_, rfl⟩, ?_⟩
  unfold State.objectLaw State.queueLaw State.executingLaw State.valveLaw State.ringLaw
    State.numberedLaw State.debtLaw State.queueBounds State.recordLaw State.plrLaw State.bankLaw
    State.orderLaw
  decide +kernel

theorem hyp_StepKeepsTheObjectLaw : lawful.closingLaw := closingLaw_of_test (by decide +kernel)

/-- The counts of a lawful state are those its Active Ejection List gives. -/
theorem hyp_StepKeepsTheValveLaw : lawful.coverLaw := by
  have h : ∀ x ∈ lawful.ejs.ael, ∀ r ∈ x, r.valveFirst ≤ r.valveLast := by decide +kernel
  exact ⟨by decide +kernel, by decide +kernel, fun r hr => h _ hr r rfl, by decide +kernel⟩

/-- The lengths of the tables at a small state. -/
theorem hyp_StepKeepsTheBounds : standby.shaped := by
  unfold State.shaped ProductBank.shaped
  decide +kernel

end Sys2Proof.Tests
end

section
/-! Positions and distances (R1), the lead (R16), and the statement about them. -/

namespace Sys2Proof.Machine

/-! ## Positions, distances, the lead (R1, R16) -/

/-- A position is reached by the distance travelled past it, modulo 2^24 (R1). -/
theorem reached_iff (p travel : Position) :
    reached p travel = true ↔ (travel.toNat + (2 ^ 24 - p.toNat)) % 2 ^ 24 < 2 ^ 23 := by
  simp [reached, BitVec.toNat_sub, Nat.add_comm]

/-- The distance ahead as a number modulo 2^24 (R1). -/
theorem distanceAhead_eq (p travel : Position) :
    distanceAhead p travel = (p.toNat + (2 ^ 24 - travel.toNat)) % 2 ^ 24 := by
  simp [distanceAhead, BitVec.toNat_sub, Nat.add_comm]

/-- No position lies 2^24 counts ahead (R1). -/
theorem distanceAhead_lt (p travel : Position) : distanceAhead p travel < 2 ^ 24 :=
  (p - travel).isLt

/-- Every distance falls by 1 at an advance, modulo 2^24 (R1, R5). -/
theorem distanceAhead_succ (p travel : Position) :
    distanceAhead p (travel + 1) = (distanceAhead p travel + (2 ^ 24 - 1)) % 2 ^ 24 := by
  have one : (1 : Position).toNat = 1 := rfl
  rw [distanceAhead_eq, distanceAhead_eq, BitVec.toNat_add, one]
  have hp := p.isLt
  have ht := travel.isLt
  omega

/-- A position is reached when it lies 0 or more than 2^23 counts ahead (R1). -/
theorem reached_iff_distanceAhead (p travel : Position) :
    reached p travel = true ↔ distanceAhead p travel = 0 ∨ 2 ^ 23 < distanceAhead p travel := by
  rw [reached_iff, distanceAhead_eq]
  have hp := p.isLt
  have ht := travel.isLt
  omega

/-- A distance that counts a reached position 0 is the distance ahead up to 2^23 counts. -/
theorem waitDistance_eq (p travel : Position) :
    waitDistance p travel
      = if distanceAhead p travel ≤ 2 ^ 23 then distanceAhead p travel else 0 := by
  have h := reached_iff_distanceAhead p travel
  unfold waitDistance
  by_cases hr : reached p travel = true
  · have back := h.1 hr
    rw [if_pos hr]
    split <;> omega
  · have ahead := mt h.2 hr
    rw [if_neg hr, if_pos (by omega)]

/-- At an advance the distance that counts a reached position 0 falls by 1 to 0, except where the
position was reached 2^23 - 1 counts back: that position becomes one not reached (R1). -/
theorem waitDistance_succ {p travel : Position} (h : distanceAhead p travel ≠ 2 ^ 23 + 1) :
    waitDistance p (travel + 1) = waitDistance p travel - 1 := by
  have hlt := distanceAhead_lt p travel
  rw [waitDistance_eq, waitDistance_eq, distanceAhead_succ]
  split <;> split <;> omega

/-- The lead while the line period is absent (R16). -/
theorem lead_of_period_none {s : State} (h : s.bpu.period = none) : s.lead = 0 := by
  simp [State.lead, Bpu.lead, h]

/-- The lead from the line period in force (R16). -/
theorem lead_of_period_some {s : State} {p : Nat} (h : s.bpu.period = some p) :
    s.lead = min 65535 (s.cmu.config.valveLatency * 100 * s.cmu.config.linePitch / p) := by
  simp [State.lead, Bpu.lead, h]

/-- With valve_latency 0 the lead is 0 (R16). -/
theorem lead_of_valveLatency_zero {s : State} (h : s.cmu.config.valveLatency = 0) : s.lead = 0 := by
  cases hp : s.bpu.period with
  | none => exact lead_of_period_none hp
  | some p => simp [lead_of_period_some hp, h]

/-- Settles O5: the positions by arithmetic modulo 2^24, the lead by whether a line period is in force. -/
theorem positionsAndLead : Obligations.PositionsAndLead := by
  unfold Obligations.PositionsAndLead
  exact ⟨fun p travel => ⟨reached_iff p travel, distanceAhead_eq p travel⟩,
    fun _ => ⟨lead_of_period_none, lead_of_valveLatency_zero, fun _ => lead_of_period_some⟩⟩

end Sys2Proof.Machine
end

section
/-! What a step keeps of the numbering, the debt, the queues, the tables and the Ejection Queue's order: one
relation between the state before a step and each state on the way, which every operation carries on. For an
operation `f` the lemma `f_bounds` says so, and its proof follows the definition of `f`: where `f` calls `g`,
the proof calls `g_bounds`. Only the elementary updates, and the operations that give an update what it asks
for, look at a law. -/

namespace Sys2Proof.Machine

/-! ## The relation -/

/-- No queued record's open position was reached 2^23 - 1 counts back, where the next advance would read it
as not reached (R1). -/
def State.noneWraps (s : State) : Prop :=
  ∀ r ∈ s.ejs.eq, distanceAhead r.openPos s.bpu.travel ≠ 2 ^ 23 + 1

/-- `t`, on the way of a step from `s`, meets each law of the bounds that `s` meets. -/
structure State.KeepsBounds (s t : State) : Prop where
  numbered : s.numberedLaw → t.numberedLaw
  debt : s.debtLaw → t.debtLaw
  queues : s.queueBounds → t.queueBounds
  shaped : s.shaped → t.shaped
  order : s.orderLaw → s.noneWraps → t.orderLaw

theorem State.KeepsBounds.refl (s : State) : s.KeepsBounds s where
  numbered := id
  debt := id
  queues := id
  shaped := id
  order := fun h _ => h

/-- The Table Store's part of the lengths (R142, R152). -/
def Tbs.shaped (t : Tbs) : Prop :=
  t.vmt.length = 576 ∧ t.ccal.length = 576 ∧ t.bankA.shaped ∧ t.bankB.shaped

variable {s t : State}

/-! ## Control flow -/

/-- Both branches of a test keep the bounds. -/
theorem ite_bounds {c : Prop} [Decidable c] {u : State} (ht : s.KeepsBounds t) (hu : s.KeepsBounds u) :
    s.KeepsBounds (if c then t else u) := by
  split
  · exact ht
  · exact hu

/-- A fold over steps that each keep the bounds keeps them. -/
theorem foldl_bounds {α : Type} {f : State → α → State}
    (hf : ∀ u a, s.KeepsBounds u → s.KeepsBounds (f u a)) {l : List α} (h : s.KeepsBounds t) :
    s.KeepsBounds (l.foldl f t) := by
  induction l generalizing t with
  | nil => exact h
  | cons a l ih => exact ih (hf t a h)

/-! ## The elementary updates: what each asks of the new block -/

theorem setLiu_bounds {x : Liu} (h : s.KeepsBounds t) : s.KeepsBounds (t.setLiu x) :=
  ⟨h.numbered, h.debt, h.queues, h.shaped, h.order⟩

theorem setCapture_bounds {x : Option Capture} (h : s.KeepsBounds t) : s.KeepsBounds (t.setCapture x) :=
  ⟨h.numbered, h.debt, h.queues, h.shaped, h.order⟩

/-- The debt does not rise and the belt does not travel. -/
theorem setBpu_bounds {x : Bpu} (h : s.KeepsBounds t)
    (ht : x.travel = t.bpu.travel) (hd : x.debt ≤ t.bpu.debt) :
    s.KeepsBounds (t.setBpu x) where
  numbered := h.numbered
  debt hs := Nat.le_trans hd (h.debt hs)
  queues := h.queues
  shaped := h.shaped
  order hs hw := by simpa only [State.orderLaw, State.setBpu, ht] using h.order hs hw

theorem setOas_bounds {x : Oas} (h : s.KeepsBounds t)
    (hx : t.oas.oot.length = 96 → x.oot.length = 96) : s.KeepsBounds (t.setOas x) where
  numbered := h.numbered
  debt := h.debt
  queues := h.queues
  shaped hs :=
    have ⟨oot, rest⟩ := h.shaped hs
    ⟨hx oot, rest⟩
  order := h.order

theorem setVdu_bounds {x : Vdu} (h : s.KeepsBounds t)
    (hx : t.vdu.vq.length ≤ 16 → x.vq.length ≤ 16) : s.KeepsBounds (t.setVdu x) where
  numbered := h.numbered
  debt := h.debt
  queues hs :=
    have ⟨eq, vq, lanes⟩ := h.queues hs
    ⟨eq, hx vq, lanes⟩
  shaped := h.shaped
  order := h.order

theorem setEjs_bounds {x : Ejs} (h : s.KeepsBounds t)
    (hq : t.ejs.eq.length ≤ 64 → x.eq.length ≤ 64)
    (ho : t.orderLaw → (t.setEjs x).orderLaw)
    (ha : t.ejs.ael.length = 16 → x.ael.length = 16) : s.KeepsBounds (t.setEjs x) where
  numbered := h.numbered
  debt := h.debt
  queues hs :=
    have ⟨eq, rest⟩ := h.queues hs
    ⟨hq eq, rest⟩
  shaped hs :=
    have ⟨oot, ael, rest⟩ := h.shaped hs
    ⟨oot, ha ael, rest⟩
  order hs hw := ho (h.order hs hw)

/-- Records that leave the Ejection Queue leave the rest of it in order. -/
theorem setEjs_bounds_of_sublist {x : Ejs} (h : s.KeepsBounds t) (hq : x.eq.Sublist t.ejs.eq)
    (ha : t.ejs.ael.length = 16 → x.ael.length = 16) : s.KeepsBounds (t.setEjs x) :=
  setEjs_bounds h (fun hl => Nat.le_trans hq.length_le hl) (fun ho => List.Pairwise.sublist hq ho) ha

/-- The Ejection Queue stands. -/
theorem setEjs_bounds_of_eq {x : Ejs} (h : s.KeepsBounds t) (hq : x.eq = t.ejs.eq)
    (ha : t.ejs.ael.length = 16 → x.ael.length = 16) : s.KeepsBounds (t.setEjs x) :=
  setEjs_bounds_of_sublist h (hq ▸ List.Sublist.refl _) ha

theorem setVlc_bounds {x : Vlc} (h : s.KeepsBounds t)
    (hx : t.vlc.valves.length = 64 → x.valves.length = 64) :
    s.KeepsBounds (t.setVlc x) where
  numbered := h.numbered
  debt := h.debt
  queues := h.queues
  shaped hs :=
    have ⟨oot, ael, valves, rest⟩ := h.shaped hs
    ⟨oot, ael, hx valves, rest⟩
  order := h.order

theorem setTbs_bounds {x : Tbs} (h : s.KeepsBounds t)
    (hx : t.tbs.shaped → x.shaped) : s.KeepsBounds (t.setTbs x) where
  numbered := h.numbered
  debt := h.debt
  queues := h.queues
  shaped hs :=
    have ⟨oot, ael, valves, vmt, ccal, bankA, bankB, counters⟩ := h.shaped hs
    have ⟨vmt', ccal', bankA', bankB'⟩ := hx ⟨vmt, ccal, bankA, bankB⟩
    ⟨oot, ael, valves, vmt', ccal', bankA', bankB', counters⟩
  order := h.order

/-- The configuration stands, and the numbering goes with the engine state. -/
theorem setCmu_bounds {x : Cmu} (h : s.KeepsBounds t)
    (hn : t.numberedLaw → (t.setCmu x).numberedLaw)
    (hc : x.config = t.cmu.config) : s.KeepsBounds (t.setCmu x) where
  numbered hs := hn (h.numbered hs)
  debt hs := by simpa only [State.debtLaw, State.setCmu, hc] using h.debt hs
  queues := h.queues
  shaped := h.shaped
  order := h.order

theorem setLki_bounds {x : Lki} (h : s.KeepsBounds t)
    (hf : t.lki.forwardQueue.length ≤ 2 → x.forwardQueue.length ≤ 2)
    (hp : t.lki.passBuffer.length ≤ 4 → x.passBuffer.length ≤ 4) :
    s.KeepsBounds (t.setLki x) where
  numbered := h.numbered
  debt := h.debt
  queues hs :=
    have ⟨eq, vq, forwardQueue, passBuffer⟩ := h.queues hs
    ⟨eq, vq, hf forwardQueue, hp passBuffer⟩
  shaped := h.shaped
  order := h.order

theorem setRpu_bounds {x : Rpu} (h : s.KeepsBounds t)
    (hx : t.rpu.counters.length = 54 → x.counters.length = 54) :
    s.KeepsBounds (t.setRpu x) where
  numbered := h.numbered
  debt := h.debt
  queues := h.queues
  shaped hs :=
    have ⟨oot, ael, valves, vmt, ccal, bankA, bankB, counters⟩ := h.shaped hs
    ⟨oot, ael, valves, vmt, ccal, bankA, bankB, hx counters⟩
  order := h.order

/-- A numbered engine that takes another numbered engine state stays numbered. -/
theorem numberedLaw_setCmu {x : Cmu} (ht : t.cmu.engine ≠ .offline) (hx : x.engine ≠ .offline)
    (hu : x.unit = t.cmu.unit) (h : t.numberedLaw) : (t.setCmu x).numberedLaw := by
  simp_all [State.numberedLaw, State.numbered]

end Sys2Proof.Machine
end

section
/-! The bounds through the operations of counters, queues, responses, notices and causes (Machine/Ops) and
those of the valves and the Valve Port (Machine/Valves). -/

namespace Sys2Proof.Machine

variable {s t : State}

@[simp] theorem length_mapFrom {α β : Type} (f : Nat → α → β) (n : Nat) (l : List α) :
    (mapFrom f n l).length = l.length := by
  induction l generalizing n with
  | nil => rfl
  | cons x xs ih => simp [mapFrom, ih]

/-! ## Counters, queues, responses, causes (R164, R165, R190 ~ R196) -/

theorem bumpBy_bounds {c : Counter} {n : Nat} (h : s.KeepsBounds t) : s.KeepsBounds (bumpBy c n t) :=
  setRpu_bounds h (by simp)

theorem bump_bounds {c : Counter} (h : s.KeepsBounds t) : s.KeepsBounds (bump c t) := bumpBy_bounds h

theorem roSend_bounds {f : Frame} {p : Preference} (h : s.KeepsBounds t) :
    s.KeepsBounds (roSend f p t) :=
  setLki_bounds h id id

theorem roSendPass_bounds (h : s.KeepsBounds t) : s.KeepsBounds (roSendPass t) := by
  unfold roSendPass
  split
  next => exact h
  next f rest hp => exact roSend_bounds (setLki_bounds h id (by simp [hp]; omega))

theorem roSendReport_bounds (h : s.KeepsBounds t) : s.KeepsBounds (roSendReport t) := by
  unfold roSendReport
  split
  · exact h
  · exact roSend_bounds (setRpu_bounds h id)

theorem roChoose_bounds (h : s.KeepsBounds t) : s.KeepsBounds (roChoose t) := by
  unfold roChoose
  refine ite_bounds (roSendReport_bounds h) (ite_bounds (roSendPass_bounds h) ?_)
  split
  · exact roSendPass_bounds h
  · exact roSendReport_bounds h

theorem roKick_bounds (h : s.KeepsBounds t) : s.KeepsBounds (roKick t) :=
  ite_bounds (roChoose_bounds h) h

theorem joinRq_bounds {x : Report} (h : s.KeepsBounds t) : s.KeepsBounds (joinRq x t) :=
  roKick_bounds (setRpu_bounds h id)

theorem admitResponse_bounds {x : Response} (h : s.KeepsBounds t) : s.KeepsBounds (admitResponse x t) :=
  ite_bounds (joinRq_bounds h)
    (ite_bounds (joinRq_bounds (bump_bounds (setRpu_bounds h id)))
      (ite_bounds (joinRq_bounds (bump_bounds (setRpu_bounds h id))) (joinRq_bounds h)))

theorem notice_bounds {n : Notice} (h : s.KeepsBounds t) : s.KeepsBounds (notice n t) :=
  ite_bounds (ite_bounds (joinRq_bounds h) (bump_bounds h)) h

theorem postReport_bounds {r : ObjectReport} (h : s.KeepsBounds t) : s.KeepsBounds (postReport r t) :=
  ite_bounds (joinRq_bounds h) (bump_bounds h)

theorem respond_bounds {code : Byte} {tag : Word16} {status : Status} {detail : Nat} {data : List Byte}
    (h : s.KeepsBounds t) : s.KeepsBounds (respond code tag status detail data t) :=
  admitResponse_bounds h

theorem endCommand_bounds {status : Status} {detail : Nat} {data : List Byte} (h : s.KeepsBounds t) :
    s.KeepsBounds (endCommand status detail data t) := by
  unfold endCommand
  split
  · exact h
  · exact respond_bounds (setCmu_bounds h id rfl)

theorem beginCommand_bounds {c : Command} {tag : Word16} (h : s.KeepsBounds t) :
    s.KeepsBounds (beginCommand c tag t) :=
  setCmu_bounds h id rfl

theorem raiseCause_bounds {c : FaultCause} (h : s.KeepsBounds t) : s.KeepsBounds (raiseCause c t) := by
  unfold raiseCause
  split
  · exact setCmu_bounds h id rfl
  · exact setCmu_bounds h id rfl
  · exact bump_bounds h
  · exact h
  · exact h

theorem doChoose_bounds (h : s.KeepsBounds t) : s.KeepsBounds (doChoose t) := by
  unfold doChoose
  refine ite_bounds (bump_bounds (setLki_bounds h id id)) ?_
  split
  next => exact h
  next f rest hf => exact setLki_bounds h (by simp [hf]; omega) id

theorem doKick_bounds (h : s.KeepsBounds t) : s.KeepsBounds (doKick t) :=
  ite_bounds (doChoose_bounds h) h

/-! ## Valves (R122 ~ R133) -/

theorem setValve_bounds {i : Nat} {v : Valve} (h : s.KeepsBounds t) : s.KeepsBounds (t.setValve i v) :=
  setVlc_bounds h (by simp)

theorem setImageDue_bounds (h : s.KeepsBounds t) : s.KeepsBounds (setImageDue t) := setVlc_bounds h id

theorem onTest_bounds {i : Nat} (h : s.KeepsBounds t) : s.KeepsBounds (onTest i t) := by
  unfold onTest
  dsimp only
  split
  · exact ite_bounds (setImageDue_bounds (setValve_bounds h)) h
  · exact ite_bounds h (setImageDue_bounds (setValve_bounds h))
  · exact ite_bounds (bump_bounds (setValve_bounds h)) h
  · exact h
  · exact h

theorem onTests_bounds {sel : Nat → Bool} (h : s.KeepsBounds t) : s.KeepsBounds (onTests sel t) :=
  foldl_bounds (fun _ _ hu => ite_bounds (onTest_bounds hu) hu) h

theorem handOver_bounds {before : State} (h : s.KeepsBounds t) : s.KeepsBounds (handOver before t) :=
  onTests_bounds h

theorem raiseCounts_bounds {first last : Nat} (h : s.KeepsBounds t) :
    s.KeepsBounds (raiseCounts first last t) :=
  bumpBy_bounds (setVlc_bounds h (by simp))

theorem lowerCounts_bounds {first last : Nat} (h : s.KeepsBounds t) :
    s.KeepsBounds (lowerCounts first last t) :=
  setVlc_bounds h (by simp)

theorem zeroCounts_bounds (h : s.KeepsBounds t) : s.KeepsBounds (zeroCounts t) :=
  setVlc_bounds h (by simp)

theorem endTest_bounds {status : Status} {detail : Nat} {data : List Byte} (h : s.KeepsBounds t) :
    s.KeepsBounds (endTest status detail data t) :=
  endCommand_bounds (setVlc_bounds h id)

theorem endTestOf_bounds {i : Nat} {status : Status} {detail : Nat} (h : s.KeepsBounds t) :
    s.KeepsBounds (endTestOf i status detail t) :=
  ite_bounds (endTest_bounds h) h

theorem endTestOff_bounds {status : Status} {data : Nat → State → List Byte} (h : s.KeepsBounds t) :
    s.KeepsBounds (endTestOff status data t) := by
  unfold endTestOff
  split
  · exact h
  · exact endCommand_bounds (onTest_bounds (setVlc_bounds h id))

theorem abortTest_bounds (h : s.KeepsBounds t) : s.KeepsBounds (abortTest t) :=
  ite_bounds (endTestOff_bounds h) (endCommand_bounds h)

theorem testExpires_bounds (h : s.KeepsBounds t) : s.KeepsBounds (testExpires t) := endTestOff_bounds h

theorem holdoffExpires_bounds {i : Nat} (h : s.KeepsBounds t) : s.KeepsBounds (holdoffExpires i t) := by
  unfold holdoffExpires
  split
  · exact h
  · exact onTest_bounds (setValve_bounds h)

theorem trip_bounds {i : Nat} (h : s.KeepsBounds t) : s.KeepsBounds (trip i t) :=
  ite_bounds (endTestOf_bounds (notice_bounds (bump_bounds (setImageDue_bounds (setValve_bounds h))))) h

theorem thermalTick_bounds (h : s.KeepsBounds t) : s.KeepsBounds (thermalTick t) :=
  foldl_bounds (fun _ _ hu => trip_bounds hu) (setVlc_bounds h (by simp))

theorem disableValve_bounds {i : Nat} (h : s.KeepsBounds t) : s.KeepsBounds (disableValve i t) :=
  ite_bounds (setImageDue_bounds (setValve_bounds h)) (setValve_bounds h)

theorem enableValve_bounds {i : Nat} (h : s.KeepsBounds t) : s.KeepsBounds (enableValve i t) :=
  onTest_bounds (setValve_bounds h)

/-! ## Valve Port (R134 ~ R138) -/

theorem startImage_bounds (h : s.KeepsBounds t) : s.KeepsBounds (startImage t) := setVlc_bounds h id

theorem openWindow_bounds (h : s.KeepsBounds t) : s.KeepsBounds (openWindow t) := setVlc_bounds h id

theorem closeWindow_bounds (h : s.KeepsBounds t) : s.KeepsBounds (closeWindow t) := setVlc_bounds h id

theorem coilFault_bounds {i : Nat} (h : s.KeepsBounds t) : s.KeepsBounds (coilFault i t) :=
  ite_bounds
    (endTestOf_bounds (notice_bounds (bump_bounds
      (ite_bounds (setImageDue_bounds (setValve_bounds h)) (setValve_bounds h))))) h

theorem applyStatus_bounds {frame : List Byte} (h : s.KeepsBounds t) :
    s.KeepsBounds (applyStatus frame t) :=
  foldl_bounds (fun _ _ hu => coilFault_bounds hu) (setVlc_bounds h (by simp))

theorem restoreLink_bounds {q : Byte} (h : s.KeepsBounds t) : s.KeepsBounds (restoreLink q t) :=
  ite_bounds (notice_bounds (setVlc_bounds h id)) h

theorem statusMatches_bounds {frame : List Byte} (h : s.KeepsBounds t) :
    s.KeepsBounds (statusMatches frame t) :=
  restoreLink_bounds (applyStatus_bounds (setVlc_bounds (closeWindow_bounds h) id))

theorem statusArrives_bounds {frame : List Byte} (h : s.KeepsBounds t) :
    s.KeepsBounds (statusArrives frame t) :=
  ite_bounds (statusMatches_bounds h) (bump_bounds h)

theorem loseValveLink_bounds {q : Byte} (h : s.KeepsBounds t) : s.KeepsBounds (loseValveLink q t) :=
  endTestOff_bounds (raiseCause_bounds (notice_bounds (bump_bounds (setVlc_bounds h id))))

theorem windowCloses_bounds (h : s.KeepsBounds t) : s.KeepsBounds (windowCloses t) :=
  ite_bounds (loseValveLink_bounds (setVlc_bounds (closeWindow_bounds h) id))
    (setVlc_bounds (closeWindow_bounds h) id)

end Sys2Proof.Machine
end

section
/-! The bounds through the operations of the Ejection Scheduler (Machine/Ejection): the Ejection Queue keeps
its order and its places. -/

namespace Sys2Proof.Machine

variable {s t : State}

/-! ## The order of the Ejection Queue (R101) -/

/-- A record placed in the queue is added to it. -/
theorem placeRecord_perm (travel : Position) (r : EjectionRecord) (l : List EjectionRecord) :
    (placeRecord travel r l).Perm (r :: l) := by
  induction l with
  | nil => exact List.Perm.refl _
  | cons x xs ih =>
    unfold placeRecord
    split
    · exact (ih.cons x).trans (List.Perm.swap r x xs)
    · exact List.Perm.refl _

/-- A record placed in a queue in order leaves it in order (R101). -/
theorem placeRecord_pairwise {travel : Position} {r : EjectionRecord} {l : List EjectionRecord}
    (h : l.Pairwise (fun x y => x.openDistance travel ≤ y.openDistance travel)) :
    (placeRecord travel r l).Pairwise (fun x y => x.openDistance travel ≤ y.openDistance travel) := by
  induction l with
  | nil => simp [placeRecord]
  | cons x xs ih =>
    obtain ⟨first, rest⟩ := List.pairwise_cons.1 h
    unfold placeRecord
    split
    next hle =>
      refine List.pairwise_cons.2 ⟨fun y hy => ?_, ih rest⟩
      rcases List.mem_cons.1 ((placeRecord_perm travel r xs).mem_iff.1 hy) with rfl | hy
      · exact hle
      · exact first y hy
    next hlt =>
      refine List.pairwise_cons.2 ⟨fun y hy => ?_, h⟩
      rcases List.mem_cons.1 hy with rfl | hy
      · omega
      · have := first y hy
        omega

/-- The order reads the open distances alone. -/
theorem orderLaw_iff (s : State) :
    s.orderLaw ↔ (s.ejs.eq.map (EjectionRecord.openDistance s.bpu.travel)).Pairwise (· ≤ ·) := by
  simp [State.orderLaw, List.pairwise_map]

/-- A queue with the same open positions is in order. -/
theorem orderLaw_setEjs_of_map {x : Ejs}
    (hx : x.eq.map (EjectionRecord.openDistance t.bpu.travel)
      = t.ejs.eq.map (EjectionRecord.openDistance t.bpu.travel)) (h : t.orderLaw) :
    (t.setEjs x).orderLaw :=
  (orderLaw_iff (t.setEjs x)).2 (hx ▸ (orderLaw_iff t).1 h)

/-- A record of the queue replaced by one of the same open position leaves the distances. -/
theorem map_openDistance_set {travel : Position} {l : List EjectionRecord} {k : Nat}
    {r m : EjectionRecord} (hk : l[k]? = some r) (hm : m.openPos = r.openPos) :
    (l.set k m).map (EjectionRecord.openDistance travel)
      = l.map (EjectionRecord.openDistance travel) := by
  have hd : m.openDistance travel = r.openDistance travel := by simp [EjectionRecord.openDistance, hm]
  apply List.ext_getElem?
  intro j
  simp only [List.getElem?_map, List.getElem?_set]
  split
  next hj =>
    subst hj
    split <;> simp_all
  next => rfl

/-- An advance keeps the queue in order where no record wraps (R1, R5, R101). -/
theorem pairwise_openDistance_succ {travel : Position} {l : List EjectionRecord}
    (h : l.Pairwise (fun x y => x.openDistance travel ≤ y.openDistance travel))
    (hw : ∀ r ∈ l, distanceAhead r.openPos travel ≠ 2 ^ 23 + 1) :
    l.Pairwise (fun x y => x.openDistance (travel + 1) ≤ y.openDistance (travel + 1)) := by
  refine h.imp_of_mem (fun {x y} hx hy hle => ?_)
  simp only [EjectionRecord.openDistance, waitDistance_succ (hw x hx), waitDistance_succ (hw y hy)] at hle ⊢
  omega

/-- A record placed where a place of the queue is free (R101). -/
theorem setEjs_bounds_place {r : EjectionRecord} (h : s.KeepsBounds t) (hl : t.ejs.eq.length < 64) :
    s.KeepsBounds (t.setEjs { t.ejs with eq := placeRecord t.bpu.travel r t.ejs.eq }) :=
  setEjs_bounds h (fun _ => by simpa [(placeRecord_perm _ _ _).length_eq] using hl)
    placeRecord_pairwise id

/-! ## Activation (R110, R113, R115) -/

theorem activate_bounds {i : Nat} {r : EjectionRecord} (h : s.KeepsBounds t) :
    s.KeepsBounds (activate i r t) :=
  have active : s.KeepsBounds (t.setEjs { t.ejs with ael := t.ejs.ael.set i (some r) }) :=
    setEjs_bounds_of_eq h rfl (by simp)
  have fired := bump_bounds (raiseCounts_bounds active)
  ite_bounds (bump_bounds fired) fired

theorem countWait_bounds {r : EjectionRecord} {rest : List EjectionRecord} (h : s.KeepsBounds t)
    (hq : t.ejs.eq = r :: rest) : s.KeepsBounds (countWait r rest t) :=
  ite_bounds h
    (bump_bounds (setEjs_bounds h (by simp [hq]) (orderLaw_setEjs_of_map (by simp [hq]; rfl)) id))

theorem activationTest_bounds {n : Nat} (h : s.KeepsBounds t) : s.KeepsBounds (activationTest n t) := by
  induction n generalizing t with
  | zero => exact h
  | succ n ih =>
    unfold activationTest
    split
    next => exact h
    next r rest hq =>
      have left := setEjs_bounds_of_sublist (x := { t.ejs with eq := rest }) h
        (by simp [hq]) id
      refine ite_bounds (ite_bounds (ih (bump_bounds left)) ?_) h
      split
      · exact ih (activate_bounds left)
      · exact countWait_bounds h hq

theorem testHead_bounds (h : s.KeepsBounds t) : s.KeepsBounds (testHead t) := activationTest_bounds h

theorem closeSlot_bounds {i : Nat} (h : s.KeepsBounds t) : s.KeepsBounds (closeSlot i t) := by
  unfold closeSlot
  split
  · exact h
  · exact ite_bounds (lowerCounts_bounds (setEjs_bounds_of_eq h rfl (by simp))) h

theorem ejectionAdvance_bounds (h : s.KeepsBounds t) : s.KeepsBounds (ejectionAdvance t) :=
  testHead_bounds (foldl_bounds (fun _ _ hu => closeSlot_bounds hu) h)

/-! ## Taking a request (R105 ~ R111) -/

theorem mergeQueued_bounds {k : Nat} {q : EjectionRequest} {r : EjectionRecord} (h : s.KeepsBounds t)
    (hk : t.ejs.eq[k]? = some r) : s.KeepsBounds (mergeQueued k q r t) := by
  have hlt : k < t.ejs.eq.length := (List.getElem?_eq_some_iff.1 hk).1
  unfold mergeQueued
  dsimp only
  refine ite_bounds ?earlier ?later
  case earlier =>
    have placed : ∀ e, s.KeepsBounds ((bump .ejectionsMerged t).setEjs
        { t.ejs with eq := placeRecord t.bpu.travel e (t.ejs.eq.eraseIdx k) }) := fun e =>
      setEjs_bounds (bump_bounds h)
        (fun (hl : t.ejs.eq.length ≤ 64) => by
          simp only [(placeRecord_perm _ _ _).length_eq, List.length_cons, List.length_eraseIdx_of_lt hlt]
          omega)
        (fun ho => placeRecord_pairwise (List.Pairwise.sublist (List.eraseIdx_sublist _ _) ho)) id
    exact ite_bounds (testHead_bounds (placed _)) (placed _)
  case later =>
    exact setEjs_bounds (bump_bounds h) (by simp)
      (orderLaw_setEjs_of_map (map_openDistance_set hk rfl)) id

theorem mergeActive_bounds {i : Nat} {q : EjectionRequest} {r : EjectionRecord} (h : s.KeepsBounds t) :
    s.KeepsBounds (mergeActive i q r t) :=
  have folded : ∀ m, s.KeepsBounds
      (bump .ejectionsMerged (t.setEjs { t.ejs with ael := t.ejs.ael.set i (some m) })) :=
    fun _ => bump_bounds (setEjs_bounds_of_eq h rfl (by simp))
  have lower := ite_bounds (raiseCounts_bounds (folded _)) (folded _)
  ite_bounds (raiseCounts_bounds lower) lower

theorem makeLate_bounds {q : EjectionRequest} (h : s.KeepsBounds t) : s.KeepsBounds (makeLate q t) := by
  unfold makeLate
  split
  · exact activate_bounds h
  · split
    next hl => exact setEjs_bounds_place h hl
    next => exact bump_bounds h

theorem makeQueued_bounds {q : EjectionRequest} (h : s.KeepsBounds t) :
    s.KeepsBounds (makeQueued q t) := by
  unfold makeQueued
  split
  next hl => exact setEjs_bounds_place h hl
  next => exact bump_bounds h

theorem makeRecord_bounds {q : EjectionRequest} (h : s.KeepsBounds t) :
    s.KeepsBounds (makeRecord q t) :=
  ite_bounds (makeLate_bounds h) (makeQueued_bounds h)

theorem takeMerge_bounds {q : EjectionRequest} (h : s.KeepsBounds t) : s.KeepsBounds (takeMerge q t) := by
  unfold takeMerge
  split
  · split
    · exact mergeActive_bounds h
    · exact h
  · split
    · split
      next hk => exact mergeQueued_bounds h hk
      next => exact h
    · exact makeRecord_bounds h

theorem takeRefuse_bounds {q : EjectionRequest} (h : s.KeepsBounds t) :
    s.KeepsBounds (takeRefuse q t) :=
  ite_bounds (bump_bounds h) (makeRecord_bounds h)

theorem takeRequest_bounds {q : EjectionRequest} (h : s.KeepsBounds t) :
    s.KeepsBounds (takeRequest q t) := by
  unfold takeRequest
  refine ite_bounds (bump_bounds h) ?_
  split
  · exact takeMerge_bounds h
  · exact takeRefuse_bounds h
  · exact makeRecord_bounds h

theorem requestEvent_bounds {q : EjectionRequest} (h : s.KeepsBounds t) :
    s.KeepsBounds (requestEvent q t) :=
  handOver_bounds (takeRequest_bounds h)

theorem takeFrom_bounds {src : Requester} (h : s.KeepsBounds t) : s.KeepsBounds (takeFrom src t) := by
  unfold takeFrom
  split
  · split
    · exact h
    · exact requestEvent_bounds (setEjs_bounds_of_eq h rfl id)
  · split
    · exact h
    · exact requestEvent_bounds (setEjs_bounds_of_eq h rfl id)

theorem handRequest_bounds {src : Requester} {q : EjectionRequest} (h : s.KeepsBounds t) :
    s.KeepsBounds (handRequest src q t) := by
  cases src with
  | verdictUnit => exact setEjs_bounds_of_eq h rfl id
  | objectAssembler => exact setEjs_bounds_of_eq h rfl id

/-! ## Flush (R119) -/

theorem takeAll_bounds (h : s.KeepsBounds t) : s.KeepsBounds (takeAll t) :=
  foldl_bounds (fun _ _ hu => requestEvent_bounds hu) (setEjs_bounds_of_eq h rfl id)

theorem dropRecords_bounds (h : s.KeepsBounds t) : s.KeepsBounds (dropRecords t) :=
  bumpBy_bounds (zeroCounts_bounds
    (setEjs_bounds_of_sublist h (List.nil_sublist _) (fun _ => List.length_replicate)))

theorem flush_bounds (h : s.KeepsBounds t) : s.KeepsBounds (flush t) :=
  handOver_bounds (dropRecords_bounds (takeAll_bounds h))

end Sys2Proof.Machine
end

section
/-! The bounds through the operations of the Verdict Unit, the Table Store, the Pixel Classifier and the
calibration (Machine/Verdict, Tables, Classify, Calibrate). -/

namespace Sys2Proof.Machine

variable {s t : State}

/-! ## Verdict Unit (R72, R83 ~ R97) -/

theorem vduTake_bounds (h : s.KeepsBounds t) : s.KeepsBounds (vduTake t) := by
  unfold vduTake
  split
  next hq => exact setVdu_bounds h (by simp [hq]; omega)
  next => exact h

/-- A record joins the Verdict Queue only while it holds fewer than 16 (R72, R83). -/
theorem closingMove_bounds (h : s.KeepsBounds t) : s.KeepsBounds (closingMove t) := by
  unfold closingMove
  split
  · exact h
  · split
    next hl =>
      split
      · exact setVdu_bounds (setOas_bounds h (by simp)) (fun _ => by simp; omega)
      · exact h
      · exact h
    next => exact h

theorem pumpN_bounds {n : Nat} (h : s.KeepsBounds t) : s.KeepsBounds (pumpN n t) := by
  induction n generalizing t with
  | zero => exact h
  | succ n ih => exact ih (vduTake_bounds (closingMove_bounds (vduTake_bounds h)))

theorem pump_bounds (h : s.KeepsBounds t) : s.KeepsBounds (pump t) := pumpN_bounds h

theorem settleReject_bounds {o : ObjectRecord} {w : Position × Position} {v : Option (Nat × Nat)}
    (h : s.KeepsBounds t) : s.KeepsBounds (settleReject o w v t) := by
  cases v with
  | none => exact bump_bounds h
  | some v => exact ite_bounds (bump_bounds h) (handRequest_bounds h)

theorem complete_bounds {o : ObjectRecord} (h : s.KeepsBounds t) : s.KeepsBounds (complete o t) :=
  have counted : ∀ c, s.KeepsBounds (bump c (t.setVdu { t.vdu with evaluating := none })) :=
    fun _ => bump_bounds (setVdu_bounds h id)
  have settled := ite_bounds (settleReject_bounds (counted _)) (counted _)
  ite_bounds (postReport_bounds settled) settled

theorem evaluationCompletes_bounds (h : s.KeepsBounds t) : s.KeepsBounds (evaluationCompletes t) := by
  unfold evaluationCompletes
  split
  · exact h
  · exact pump_bounds (complete_bounds h)

theorem abandonVerdicts_bounds (h : s.KeepsBounds t) : s.KeepsBounds (abandonVerdicts t) :=
  bumpBy_bounds (setVdu_bounds h (by simp))

/-! ## Banks (R142 ~ R145) -/

theorem Tbs.shaped.bank {x : Tbs} (h : x.shaped) (name : Bank) : (x.bank name).shaped := by
  obtain ⟨_, _, bankA, bankB⟩ := h
  cases name with
  | a => exact bankA
  | b => exact bankB

/-- A block read from a bank has 256 codes; one that the bank does not hold reads as after power-on. -/
theorem ProductBank.shaped.block {p : ProductBank} (h : p.shaped) (n : Nat) :
    (p.block n).codes.length = 256 := by
  obtain ⟨_, codes, _, _⟩ := h
  unfold ProductBank.block
  rw [List.getD_eq_getElem?_getD]
  cases hn : p.cct[n]? with
  | none => exact List.length_replicate
  | some x => exact codes x (List.mem_of_getElem? hn)

theorem ProductBank.shaped.setBlock {p : ProductBank} {n : Nat} {x : CctBlock} (h : p.shaped)
    (hx : x.codes.length = 256) : (p.setBlock n x).shaped := by
  obtain ⟨cct, codes, nbt, rules⟩ := h
  refine ⟨by simpa [ProductBank.setBlock] using cct, fun y hy => ?_, nbt, rules⟩
  rcases List.mem_or_eq_of_mem_set hy with hy | rfl
  · exact codes y hy
  · exact hx

theorem setBank_bounds {name : Bank} {p : ProductBank} (h : s.KeepsBounds t)
    (hp : t.tbs.shaped → p.shaped) : s.KeepsBounds (t.setBank name p) := by
  refine setTbs_bounds h (fun hs => ?_)
  have new := hp hs
  obtain ⟨vmt, ccal, bankA, bankB⟩ := hs
  cases name with
  | a => exact ⟨vmt, ccal, new, bankB⟩
  | b => exact ⟨vmt, ccal, bankA, new⟩

theorem setBlock_bounds {name : Bank} {n : Nat} {x : CctBlock} (h : s.KeepsBounds t)
    (hx : t.tbs.shaped → x.codes.length = 256) : s.KeepsBounds (t.setBlock name n x) :=
  setBank_bounds h (fun hs => (hs.bank name).setBlock (hx hs))

theorem setStandby_bounds {p : ProductBank} (h : s.KeepsBounds t)
    (hp : t.tbs.standbyBank.shaped → p.shaped) : s.KeepsBounds (t.setStandby p) :=
  setBank_bounds h (fun hs => hp (hs.bank _))

theorem changeEntry_bounds {name : Bank} {index : Nat} {code : ClassCode} (h : s.KeepsBounds t) :
    s.KeepsBounds (changeEntry name index code t) :=
  setBlock_bounds h (fun hs => by simpa using (hs.bank name).block _)

/-! ## BANK_COPY, scrubber, BANK_SWAP (R155 ~ R160) -/

@[simp] theorem copied_codes (x : CctBlock) : x.copied.codes = x.codes := by
  unfold CctBlock.copied
  split <;> rfl

theorem copyBlock_bounds {p : CopyProgress} (h : s.KeepsBounds t) : s.KeepsBounds (copyBlock p t) :=
  setTbs_bounds (setBlock_bounds h (fun hs => (copied_codes _).symm ▸ (hs.bank t.tbs.active).block _)) id

theorem copyTables_bounds {p : CopyProgress} (h : s.KeepsBounds t) : s.KeepsBounds (copyTables p t) := by
  refine endCommand_bounds (setTbs_bounds (setBank_bounds h (fun hs => ?_)) id)
  obtain ⟨_, _, nbt, rules⟩ := hs.bank t.tbs.active
  obtain ⟨cct, codes, _, _⟩ := hs.bank t.tbs.standby
  exact ⟨cct, codes, nbt, rules⟩

theorem copyStep_bounds (h : s.KeepsBounds t) : s.KeepsBounds (copyStep t) := by
  unfold copyStep
  split
  · exact h
  · exact ite_bounds (copyBlock_bounds h) (copyTables_bounds h)

theorem scrubBlock_bounds (h : s.KeepsBounds t) : s.KeepsBounds (scrubBlock t) :=
  ite_bounds (notice_bounds (bump_bounds (setBlock_bounds h (fun hs => (hs.bank t.tbs.active).block _)))) h

theorem scrubCheck_bounds (h : s.KeepsBounds t) : s.KeepsBounds (scrubCheck t) :=
  setTbs_bounds (scrubBlock_bounds (setTbs_bounds h id)) id

theorem scrubIfDue_bounds (h : s.KeepsBounds t) : s.KeepsBounds (scrubIfDue t) :=
  ite_bounds (scrubCheck_bounds h) h

theorem scrubLine_bounds (h : s.KeepsBounds t) : s.KeepsBounds (scrubLine t) :=
  ite_bounds h (scrubIfDue_bounds (setTbs_bounds h id))

theorem markMixed_bounds (h : s.KeepsBounds t) : s.KeepsBounds (markMixed t) :=
  setVdu_bounds (setOas_bounds h (by simp)) (by simp)

theorem exchangeBanks_bounds (h : s.KeepsBounds t) : s.KeepsBounds (exchangeBanks t) :=
  bump_bounds (setTbs_bounds h id)

theorem swapForced_bounds (h : s.KeepsBounds t) : s.KeepsBounds (swapForced t) :=
  endCommand_bounds (exchangeBanks_bounds (bump_bounds (markMixed_bounds h)))

theorem swapAtQuietPoint_bounds (h : s.KeepsBounds t) : s.KeepsBounds (swapAtQuietPoint t) :=
  ite_bounds (endCommand_bounds (exchangeBanks_bounds (setTbs_bounds h id))) h

theorem swapAtDeadline_bounds (h : s.KeepsBounds t) : s.KeepsBounds (swapAtDeadline t) := by
  unfold swapAtDeadline
  split
  · exact h
  · exact ite_bounds (swapForced_bounds (setTbs_bounds h id)) h

theorem swapCount_bounds (h : s.KeepsBounds t) : s.KeepsBounds (swapCount t) := by
  unfold swapCount
  split
  · exact h
  · exact ite_bounds (setTbs_bounds h id) h

theorem lineBoundary_bounds (h : s.KeepsBounds t) : s.KeepsBounds (lineBoundary t) :=
  setTbs_bounds (swapCount_bounds (swapAtDeadline_bounds (swapAtQuietPoint_bounds (setTbs_bounds h id)))) id

/-! ## Classifier and calibration (R40 ~ R53) -/

theorem countClassified_bounds {row : List Classified} (h : s.KeepsBounds t) :
    s.KeepsBounds (countClassified row t) :=
  bumpBy_bounds (bumpBy_bounds h)

theorem endCalibrate_bounds {status : Status} {detail : Nat} (h : s.KeepsBounds t) :
    s.KeepsBounds (endCalibrate status detail t) :=
  endCommand_bounds (setCapture_bounds h)

theorem completeCalibrate_bounds {k : Capture} (h : s.KeepsBounds t) :
    s.KeepsBounds (completeCalibrate k t) := by
  unfold completeCalibrate
  dsimp only
  split
  · exact endCalibrate_bounds h
  · split
    · exact endCalibrate_bounds h
    · exact endCalibrate_bounds
        (setTbs_bounds h (fun ⟨vmt, ccal, banks⟩ => ⟨vmt, by simpa [writeGains] using ccal, banks⟩))

theorem calibrateIfDone_bounds (h : s.KeepsBounds t) : s.KeepsBounds (calibrateIfDone t) := by
  unfold calibrateIfDone
  split
  · exact h
  · exact ite_bounds (completeCalibrate_bounds h) h

theorem skipLine_bounds (h : s.KeepsBounds t) : s.KeepsBounds (skipLine t) := by
  unfold skipLine
  split
  · exact h
  · exact ite_bounds (endCalibrate_bounds h) (setCapture_bounds h)

theorem skipLines_bounds {n : Nat} (h : s.KeepsBounds t) : s.KeepsBounds (skipLines n t) := by
  induction n generalizing t with
  | zero => exact h
  | succ n ih => exact ih (skipLine_bounds h)

theorem captureOwn_bounds {slot : RingSlot} (h : s.KeepsBounds t) :
    s.KeepsBounds (captureOwn slot t) := by
  unfold captureOwn
  split
  · exact h
  · exact ite_bounds h (ite_bounds (calibrateIfDone_bounds (setCapture_bounds h)) (skipLine_bounds h))

theorem captureSlot_bounds {slot : RingSlot} (h : s.KeepsBounds t) :
    s.KeepsBounds (captureSlot slot t) :=
  captureOwn_bounds (skipLines_bounds h)

end Sys2Proof.Machine
end

section
/-! The bounds through the Object Assembler and the Line Intake Unit (Machine/Assembly, Intake). -/

namespace Sys2Proof.Machine

variable {s t : State}

/-! ## Linking a line (R64 ~ R68, R73 ~ R75) -/

theorem setSlot_bounds {i : Nat} {x : OotSlot} (h : s.KeepsBounds t) : s.KeepsBounds (t.setSlot i x) :=
  setOas_bounds h (by simp)

theorem absorbSlot_bounds {n : LineNo} {i j : Nat} (h : s.KeepsBounds t) :
    s.KeepsBounds (absorbSlot n i j t) := by
  unfold absorbSlot
  split
  · exact bump_bounds (setOas_bounds (setSlot_bounds (setSlot_bounds h)) id)
  · exact h

theorem setMerged_bounds {i : Nat} (h : s.KeepsBounds t) : s.KeepsBounds (setMerged i t) := by
  unfold setMerged
  split
  · exact setSlot_bounds h
  · exact h

theorem extendSlot_bounds {l : LineInAssembly} {r : Run} {i : Nat} (h : s.KeepsBounds t) :
    s.KeepsBounds (extendSlot l r i t) := by
  unfold extendSlot
  split
  · exact setSlot_bounds h
  · exact h

theorem createObject_bounds {l : LineInAssembly} {r : Run} {i : Nat} (h : s.KeepsBounds t) :
    s.KeepsBounds (createObject l r i t) :=
  bump_bounds (setOas_bounds (setSlot_bounds h) id)

theorem blindRequest_bounds {l : LineInAssembly} {r : Run} (h : s.KeepsBounds t) :
    s.KeepsBounds (blindRequest l r t) := by
  unfold blindRequest
  split
  · exact bump_bounds h
  · exact bump_bounds (handRequest_bounds h)

theorem findsNoSlot_bounds {l : LineInAssembly} {r : Run} {full : Bool} (h : s.KeepsBounds t) :
    s.KeepsBounds (findsNoSlot l r full t) :=
  have counted := ite_bounds (bumpBy_bounds h) (bump_bounds (bumpBy_bounds h))
  ite_bounds (blindRequest_bounds counted) counted

theorem linkRuns_bounds {l : LineInAssembly} {runs : List Run} {done : List PlrRun} {full : Bool}
    (h : s.KeepsBounds t) : s.KeepsBounds (linkRuns l runs done full t).2 := by
  induction runs generalizing done full t with
  | nil => exact h
  | cons r rest ih =>
    unfold linkRuns
    split
    · split
      · exact ih (createObject_bounds h)
      · exact ih (findsNoSlot_bounds h)
    · exact ih (extendSlot_bounds h)
    · exact ih (extendSlot_bounds (setMerged_bounds
        (foldl_bounds (fun _ _ hu => absorbSlot_bounds hu) h)))

/-! ## Closing, lost lines, the end of a line (R57 ~ R63, R69 ~ R80) -/

theorem closeObject_bounds {mark : ObjectFlags → ObjectFlags} {i : Nat} (h : s.KeepsBounds t) :
    s.KeepsBounds (closeObject mark i t) := by
  unfold closeObject
  split
  · exact h
  · exact pump_bounds (setOas_bounds (setSlot_bounds h) id)

theorem closeAllObjects_bounds (h : s.KeepsBounds t) : s.KeepsBounds (closeAllObjects t) :=
  foldl_bounds (fun _ _ hu => closeObject_bounds hu) h

theorem closeAllRequest_bounds (h : s.KeepsBounds t) : s.KeepsBounds (closeAllRequest t) :=
  setOas_bounds (closeAllObjects_bounds h) (by simp only [imp_self])

theorem takeCloseAll_bounds (h : s.KeepsBounds t) : s.KeepsBounds (takeCloseAll t) :=
  ite_bounds (closeAllRequest_bounds h) h

theorem applyLostLine_bounds (h : s.KeepsBounds t) : s.KeepsBounds (applyLostLine t) :=
  ite_bounds (bump_bounds (setOas_bounds (setOas_bounds h id) (by simp)))
    (setOas_bounds (closeAllObjects_bounds (setOas_bounds h id)) (by simp only [imp_self]))

theorem applyLostLines_bounds {n : Nat} (h : s.KeepsBounds t) : s.KeepsBounds (applyLostLines n t) := by
  induction n generalizing t with
  | zero => exact h
  | succ n ih => exact ih (applyLostLine_bounds h)

theorem truncate_bounds {overflow : Bool} {runs : List PlrRun} (h : s.KeepsBounds t) :
    s.KeepsBounds (truncate overflow runs t) :=
  ite_bounds (setOas_bounds h (by simp)) h

theorem closeAtEnd_bounds {runs : List PlrRun} {i : Nat} (h : s.KeepsBounds t) :
    s.KeepsBounds (closeAtEnd runs i t) :=
  ite_bounds (ite_bounds (closeObject_bounds h) h) (closeObject_bounds h)

theorem endLine_bounds {overflow : Bool} {runs : List PlrRun} (h : s.KeepsBounds t) :
    s.KeepsBounds (endLine overflow runs t) :=
  setOas_bounds (foldl_bounds (fun _ _ hu => closeAtEnd_bounds hu) (truncate_bounds h)) id

theorem assembleLine_bounds {l : LineInAssembly} (h : s.KeepsBounds t) :
    s.KeepsBounds (assembleLine l t) :=
  scrubLine_bounds (bump_bounds (endLine_bounds (bumpBy_bounds (linkRuns_bounds (setOas_bounds h id)))))

theorem applyLine_bounds {l : LineInAssembly} (h : s.KeepsBounds t) : s.KeepsBounds (applyLine l t) :=
  setOas_bounds (assembleLine_bounds (applyLostLines_bounds h)) id

theorem abandonOpen_bounds (h : s.KeepsBounds t) : s.KeepsBounds (abandonOpen t) :=
  bumpBy_bounds (setOas_bounds h (by simp))

theorem abandonClosing_bounds (h : s.KeepsBounds t) : s.KeepsBounds (abandonClosing t) :=
  bumpBy_bounds (setOas_bounds h (by simp))

theorem emptyAssembler_bounds (h : s.KeepsBounds t) : s.KeepsBounds (emptyAssembler t) :=
  bumpBy_bounds (setOas_bounds h (fun _ => List.length_replicate))

/-! ## Ring and delivery (R21, R29, R30, R56, R58) -/

theorem emptyRing_bounds (h : s.KeepsBounds t) : s.KeepsBounds (emptyRing t) :=
  takeCloseAll_bounds (setOas_bounds (setLiu_bounds h) id)

theorem freeSlot_bounds {i : Nat} (h : s.KeepsBounds t) : s.KeepsBounds (freeSlot i t) := setLiu_bounds h

theorem setRingSlot_bounds {slot : RingSlot} (h : s.KeepsBounds t) :
    s.KeepsBounds (setRingSlot slot t) :=
  setLiu_bounds h

theorem takeRow_bounds {slot : RingSlot} (h : s.KeepsBounds t) : s.KeepsBounds (takeRow slot t) :=
  setOas_bounds (setRingSlot_bounds (countClassified_bounds h)) id

theorem takeSlot_bounds {slot : RingSlot} (h : s.KeepsBounds t) : s.KeepsBounds (takeSlot slot t) :=
  have signalled := lineBoundary_bounds h
  ite_bounds (freeSlot_bounds signalled)
    (ite_bounds (freeSlot_bounds (applyLostLine_bounds (applyLostLines_bounds signalled)))
      (takeRow_bounds signalled))

theorem deliverSlot_bounds {slot : RingSlot} (h : s.KeepsBounds t) :
    s.KeepsBounds (deliverSlot slot t) := by
  unfold deliverSlot
  split
  · exact takeSlot_bounds h
  · exact captureSlot_bounds (freeSlot_bounds h)
  · exact freeSlot_bounds h
  · exact h
  · exact h

theorem deliverOne_bounds (h : s.KeepsBounds t) : s.KeepsBounds (deliverOne t) := by
  unfold deliverOne
  split
  · exact deliverSlot_bounds h
  · exact h

theorem deliverN_bounds {n : Nat} (h : s.KeepsBounds t) : s.KeepsBounds (deliverN n t) := by
  induction n generalizing t with
  | zero => exact h
  | succ n ih => exact ih (deliverOne_bounds h)

theorem deliver_bounds (h : s.KeepsBounds t) : s.KeepsBounds (deliver t) := deliverN_bounds h

/-! ## Synchronisation (R26 ~ R36, R49) -/

theorem leaveLocked_bounds {before : SyncState} (h : s.KeepsBounds t) :
    s.KeepsBounds (leaveLocked before t) :=
  ite_bounds (endCalibrate_bounds h) h

theorem requestCloseAll_bounds (h : s.KeepsBounds t) : s.KeepsBounds (requestCloseAll t) :=
  ite_bounds (takeCloseAll_bounds (setOas_bounds h id)) h

theorem enterHunt1_bounds {cause : HuntCause} {offset : LineNo} (h : s.KeepsBounds t) :
    s.KeepsBounds (enterHunt1 cause offset t) :=
  leaveLocked_bounds (notice_bounds (requestCloseAll_bounds (setLiu_bounds h)))

theorem lossEvent_bounds (h : s.KeepsBounds t) : s.KeepsBounds (lossEvent t) :=
  ite_bounds (enterHunt1_bounds h) (setLiu_bounds h)

theorem syncLoss_bounds (h : s.KeepsBounds t) : s.KeepsBounds (syncLoss t) := by
  unfold syncLoss
  split
  · exact lossEvent_bounds h
  · exact setLiu_bounds h
  · exact setLiu_bounds h
  · exact h

theorem syncPartial_bounds (h : s.KeepsBounds t) : s.KeepsBounds (syncPartial t) := by
  unfold syncPartial
  split
  · exact h
  · exact setLiu_bounds h
  · exact setLiu_bounds h
  · exact h

theorem huntComplete_bounds (h : s.KeepsBounds t) : s.KeepsBounds (huntComplete t) :=
  ite_bounds (notice_bounds (setLiu_bounds h)) (setLiu_bounds h)

theorem syncComplete_bounds (h : s.KeepsBounds t) : s.KeepsBounds (syncComplete t) := by
  unfold syncComplete
  split
  · exact setLiu_bounds h
  · exact huntComplete_bounds h
  · exact huntComplete_bounds h
  · exact h

theorem enterHunt2_bounds (h : s.KeepsBounds t) : s.KeepsBounds (enterHunt2 t) :=
  notice_bounds (setLiu_bounds h)

theorem enterFailed_bounds (h : s.KeepsBounds t) : s.KeepsBounds (enterFailed t) :=
  raiseCause_bounds (notice_bounds (emptyRing_bounds (setLiu_bounds h)))

theorem huntTimeout_bounds (h : s.KeepsBounds t) : s.KeepsBounds (huntTimeout t) := by
  unfold huntTimeout
  refine ite_bounds ?_ h
  split
  · exact enterHunt2_bounds h
  · exact enterFailed_bounds h
  · exact h
  · exact h

theorem huntAdvance_bounds (h : s.KeepsBounds t) : s.KeepsBounds (huntAdvance t) := by
  unfold huntAdvance
  split
  · exact huntTimeout_bounds (setLiu_bounds h)
  · exact huntTimeout_bounds (setLiu_bounds h)
  · exact h
  · exact h

/-! ## Deadline, allocation, LINE frames (R22 ~ R28, R35) -/

theorem settle_bounds {x : RingSlot} (h : s.KeepsBounds t) : s.KeepsBounds (settle x t) :=
  ite_bounds (syncPartial_bounds (bump_bounds (setRingSlot_bounds h)))
    (syncLoss_bounds (bump_bounds (setRingSlot_bounds h)))

theorem settleOldest_bounds (h : s.KeepsBounds t) : s.KeepsBounds (settleOldest t) := by
  unfold settleOldest
  split
  · exact deliver_bounds (settle_bounds h)
  · exact h

theorem settleN_bounds {n : Nat} (h : s.KeepsBounds t) : s.KeepsBounds (settleN n t) := by
  induction n generalizing t with
  | zero => exact h
  | succ n ih => exact ih (settleOldest_bounds h)

theorem settleDue_bounds (h : s.KeepsBounds t) : s.KeepsBounds (settleDue t) :=
  settleN_bounds (setLiu_bounds h)

theorem allocate_bounds (h : s.KeepsBounds t) : s.KeepsBounds (allocate t) := by
  unfold allocate
  split
  · exact bump_bounds (setLiu_bounds h)
  · exact setLiu_bounds h

theorem intakeTrigger_bounds (h : s.KeepsBounds t) : s.KeepsBounds (intakeTrigger t) :=
  have settled := settleDue_bounds h
  have hunted := ite_bounds settled (huntAdvance_bounds settled)
  ite_bounds (ite_bounds (allocate_bounds hunted) hunted) h

theorem realign_bounds {m : LineNo} (h : s.KeepsBounds t) : s.KeepsBounds (realign m t) :=
  ite_bounds (setLiu_bounds h) h

theorem fillSlot_bounds {part : List (Nat × Sample)} {x : RingSlot} (h : s.KeepsBounds t) :
    s.KeepsBounds (fillSlot part x t) :=
  ite_bounds (deliver_bounds (syncComplete_bounds (setRingSlot_bounds (bumpBy_bounds h))))
    (setRingSlot_bounds (bumpBy_bounds h))

theorem matchFrame_bounds {m : LineNo} {part : List (Nat × Sample)} (h : s.KeepsBounds t) :
    s.KeepsBounds (matchFrame m part t) := by
  unfold matchFrame
  refine ite_bounds (syncLoss_bounds (bump_bounds h)) ?_
  split
  · exact fillSlot_bounds h
  · exact bump_bounds h

theorem intakeFrame_bounds {payload : List Byte} (h : s.KeepsBounds t) :
    s.KeepsBounds (intakeFrame payload t) :=
  ite_bounds (matchFrame_bounds (realign_bounds h)) h

/-! ## Completion of a line's assembly (R57, R76) -/

theorem assemblyCompletes_bounds (h : s.KeepsBounds t) : s.KeepsBounds (assemblyCompletes t) := by
  unfold assemblyCompletes
  split
  · exact h
  · exact deliver_bounds (freeSlot_bounds (takeCloseAll_bounds (applyLine_bounds h)))

theorem abandonLine_bounds (h : s.KeepsBounds t) : s.KeepsBounds (abandonLine t) := by
  unfold abandonLine
  split
  · exact h
  · exact freeSlot_bounds (setOas_bounds h id)

theorem closeAllFirst_bounds (h : s.KeepsBounds t) : s.KeepsBounds (closeAllFirst t) :=
  ite_bounds (deliver_bounds (closeAllRequest_bounds (abandonLine_bounds h))) h

end Sys2Proof.Machine
end

section
/-! The bounds through the changes of engine state, the belt and the resets (Machine/Engine, Belt, Reset). -/

namespace Sys2Proof.Machine

variable {s t : State}

/-! ## FAULT entry, the drain, the end of an event (R172 ~ R176) -/

theorem endAborted_bounds (h : s.KeepsBounds t) : s.KeepsBounds (endAborted t) := by
  unfold endAborted
  split
  · exact h
  · split
    · exact endCalibrate_bounds h
    · exact endCommand_bounds (setTbs_bounds h id)
    · exact endCommand_bounds (setTbs_bounds h id)
    · exact abortTest_bounds h
    · exact endCommand_bounds h

theorem enterFault_bounds {c : FaultCause} (h : s.KeepsBounds t) (he : t.cmu.engine ≠ .offline) :
    s.KeepsBounds (enterFault c t) :=
  notice_bounds (endAborted_bounds (setLiu_bounds
    (emptyRing_bounds (flush_bounds (abandonVerdicts_bounds (emptyAssembler_bounds
      (setCmu_bounds h (numberedLaw_setCmu he (by simp) rfl) rfl)))))))

theorem takeLater_bounds {c : FaultCause} (h : s.KeepsBounds t) : s.KeepsBounds (takeLater c t) :=
  ite_bounds (bump_bounds (setCmu_bounds h id rfl)) h

theorem takeCause_bounds {c : FaultCause} (h : s.KeepsBounds t) : s.KeepsBounds (takeCause c t) := by
  unfold takeCause
  split
  next hc =>
    refine enterFault_bounds h (fun he => ?_)
    simp [he] at hc
  next => exact h

theorem runOut_bounds (h : s.KeepsBounds t) (he : t.cmu.engine ≠ .offline) :
    s.KeepsBounds (runOut t) :=
  endCommand_bounds (setCmu_bounds h (numberedLaw_setCmu he (by simp) rfl) rfl)

theorem drainRunsOut_bounds (h : s.KeepsBounds t) : s.KeepsBounds (drainRunsOut t) := by
  unfold drainRunsOut
  split
  next hc =>
    refine runOut_bounds h (fun he => ?_)
    simp [he] at hc
  next => exact h

theorem finish_bounds (h : s.KeepsBounds t) : s.KeepsBounds (finish t) := by
  unfold finish
  split
  next he =>
    split
    · exact enterFault_bounds h (by simp [he])
    · exact h
  next he =>
    split
    · exact ite_bounds (runOut_bounds h (by simp [he])) h
    · exact ite_bounds h (enterFault_bounds h (by simp [he]))
    · exact h
  next => exact h
  next => exact h
  next => exact h

/-! ## START, STOP, ABORT, CLEAR_FAULT, CONFIGURE (R168 ~ R177) -/

theorem startSorting_bounds (h : s.KeepsBounds t) (he : t.cmu.engine ≠ .offline) :
    s.KeepsBounds (startSorting t) :=
  deliver_bounds (setOas_bounds (setCmu_bounds h (numberedLaw_setCmu he (by simp) rfl) rfl) id)

theorem stopSorting_bounds {tag : Word16} (h : s.KeepsBounds t) (he : t.cmu.engine ≠ .offline) :
    s.KeepsBounds (stopSorting tag t) :=
  deliver_bounds (setOas_bounds (abandonOpen_bounds (abandonLine_bounds
    (beginCommand_bounds (setCmu_bounds h (numberedLaw_setCmu he (by simp) rfl) rfl)))) id)

theorem flushDrain_bounds (h : s.KeepsBounds t) (he : t.cmu.engine ≠ .offline) :
    s.KeepsBounds (flushDrain t) :=
  setCmu_bounds (flush_bounds (abandonVerdicts_bounds (abandonClosing_bounds h)))
    (numberedLaw_setCmu (by simpa using he) (by simp) rfl) rfl

theorem abortExecuting_bounds (h : s.KeepsBounds t) (he : t.cmu.engine ≠ .offline) :
    s.KeepsBounds (abortExecuting t) :=
  ite_bounds (endAborted_bounds (flushDrain_bounds h he)) (endAborted_bounds h)

theorem clearFault_bounds (h : s.KeepsBounds t) (he : t.cmu.engine ≠ .offline) :
    s.KeepsBounds (clearFault t) :=
  enterHunt1_bounds (handOver_bounds (setBpu_bounds
    (bumpBy_bounds (setCmu_bounds h (numberedLaw_setCmu he (by simp) rfl) rfl)) rfl (Nat.zero_le _)))

/-- A configuration and a belt that go together: the debt lies within the new reverse_limit (R18). -/
theorem configured_bounds {c : Configuration} {x : Bpu} (h : s.KeepsBounds t)
    (ht : x.travel = t.bpu.travel) (hd : x.debt ≤ c.reverseLimit) :
    s.KeepsBounds ((t.setCmu { t.cmu with config := c }).setBpu x) where
  numbered := h.numbered
  debt _ := hd
  queues := h.queues
  shaped := h.shaped
  order hs hw := by simpa only [State.orderLaw, State.setBpu, State.setCmu, ht] using h.order hs hw

/-- CONFIGURE at the BPU changes the belt alone, and not its travel (R18). -/
theorem configureBelt_eq (old new : Configuration) (t : State) :
    ∃ x : Bpu, configureBelt old new t = t.setBpu x ∧ x.travel = t.bpu.travel := by
  unfold configureBelt
  dsimp only
  split
  · exact ⟨_, rfl, rfl⟩
  · exact ⟨_, rfl, rfl⟩

/-- A debt above the new reverse_limit becomes that limit (R18). -/
theorem configureDebt_bounds {old new : Configuration} (h : s.KeepsBounds t) :
    s.KeepsBounds
      (configureDebt new (configureBelt old new (t.setCmu { t.cmu with config := new }))) := by
  obtain ⟨x, hx, travel⟩ := configureBelt_eq old new (t.setCmu { t.cmu with config := new })
  rw [hx]
  unfold configureDebt
  split
  next => exact notice_bounds (bump_bounds (configured_bounds (t := t) h travel (Nat.le_refl _)))
  next hle => exact configured_bounds h travel (Nat.le_of_not_lt hle)

theorem configure_bounds {new : Configuration} (h : s.KeepsBounds t) : s.KeepsBounds (configure new t) :=
  have atIntake := ite_bounds (configureDebt_bounds h) (emptyRing_bounds (configureDebt_bounds h))
  ite_bounds atIntake (setTbs_bounds atIntake id)

/-! ## Index check and line triggers (R9 ~ R15) -/

theorem mismatch_bounds {counted : Option Nat} (h : s.KeepsBounds t) :
    s.KeepsBounds (mismatch counted t) :=
  have slipped := notice_bounds (bump_bounds h)
  ite_bounds (setBpu_bounds (raiseCause_bounds (notice_bounds (bump_bounds slipped))) rfl (Nat.le_refl _))
    (setBpu_bounds slipped rfl (Nat.le_refl _))

theorem restartIndex_bounds (h : s.KeepsBounds t) : s.KeepsBounds (restartIndex t) :=
  setBpu_bounds h rfl (Nat.le_refl _)

theorem missingIndexTest_bounds (h : s.KeepsBounds t) : s.KeepsBounds (missingIndexTest t) :=
  ite_bounds (restartIndex_bounds (mismatch_bounds h)) h

theorem indexEdge_bounds (h : s.KeepsBounds t) : s.KeepsBounds (indexEdge t) :=
  ite_bounds
    (restartIndex_bounds (ite_bounds (setBpu_bounds h rfl (Nat.le_refl _)) (mismatch_bounds h)))
    (ite_bounds (setBpu_bounds h rfl (Nat.le_refl _)) h)

theorem lineTriggerTest_bounds (h : s.KeepsBounds t) : s.KeepsBounds (lineTriggerTest t) :=
  ite_bounds (intakeTrigger_bounds (bump_bounds (setBpu_bounds h rfl (Nat.le_refl _)))) h

/-! ## Travel and debt (R5, R6)

The queue's order asks that no queued record wraps at the advance. This is said of the state before the step,
so the operations up to the advance are followed with the queue and the travel counter of that state. -/

theorem stepTravel_bounds (h : s.KeepsBounds t) (hq : t.ejs.eq = s.ejs.eq)
    (ht : t.bpu.travel = s.bpu.travel) : s.KeepsBounds (stepTravel t) where
  numbered := h.numbered
  debt := h.debt
  queues := h.queues
  shaped := h.shaped
  order hs hw :=
    have noneWraps : t.noneWraps := by simpa only [State.noneWraps, hq, ht] using hw
    pairwise_openDistance_succ (h.order hs hw) noneWraps

theorem advance_bounds (h : s.KeepsBounds t) (hq : t.ejs.eq = s.ejs.eq)
    (ht : t.bpu.travel = s.bpu.travel) : s.KeepsBounds (advance t) :=
  ejectionAdvance_bounds (lineTriggerTest_bounds (missingIndexTest_bounds (stepTravel_bounds h hq ht)))

theorem forwardEdge_bounds (h : s.KeepsBounds t) (hq : t.ejs.eq = s.ejs.eq)
    (ht : t.bpu.travel = s.bpu.travel) : s.KeepsBounds (forwardEdge t) :=
  ite_bounds (setBpu_bounds h rfl (Nat.sub_le _ _)) (advance_bounds h hq ht)

/-- A reverse edge raises the debt only while it is below reverse_limit (R6). -/
theorem reverseEdge_bounds (h : s.KeepsBounds t) : s.KeepsBounds (reverseEdge t) := by
  unfold reverseEdge
  split
  next hl =>
    have raised : s.KeepsBounds (t.setBpu
        { t.bpu with debt := t.bpu.debt + 1, armed := if t.bpu.debt = 0 then false else t.bpu.armed }) :=
      ⟨h.numbered, fun _ => hl, h.queues, h.shaped, h.order⟩
    exact ite_bounds (raiseCause_bounds (notice_bounds (bump_bounds raised))) raised
  next => exact h

theorem decodePair_bounds {old new : Bool × Bool} (h : s.KeepsBounds t) (hq : t.ejs.eq = s.ejs.eq)
    (ht : t.bpu.travel = s.bpu.travel) : s.KeepsBounds (decodePair old new t) :=
  ite_bounds h (ite_bounds (bump_bounds h)
    (ite_bounds (forwardEdge_bounds h hq ht) (reverseEdge_bounds h)))

/-! ## Accepted levels and input changes (R3, R4) -/

@[simp] theorem acceptA_travel (level : Bool) (t : State) :
    (acceptA level t).bpu.travel = t.bpu.travel := by
  unfold acceptA
  split <;> rfl

@[simp] theorem acceptB_travel (level : Bool) (t : State) :
    (acceptB level t).bpu.travel = t.bpu.travel := by
  unfold acceptB
  split <;> rfl

theorem acceptA_bounds {level : Bool} (h : s.KeepsBounds t) : s.KeepsBounds (acceptA level t) :=
  ite_bounds (setBpu_bounds h rfl (Nat.le_refl _)) h

theorem acceptB_bounds {level : Bool} (h : s.KeepsBounds t) : s.KeepsBounds (acceptB level t) :=
  ite_bounds (setBpu_bounds h rfl (Nat.le_refl _)) h

theorem acceptZ_bounds {level : Bool} (h : s.KeepsBounds t) : s.KeepsBounds (acceptZ level t) :=
  ite_bounds (setBpu_bounds h rfl (Nat.le_refl _)) h

theorem acceptLevels_bounds {acc : Accepted} (h : s.KeepsBounds t) (hq : t.ejs.eq = s.ejs.eq)
    (ht : t.bpu.travel = s.bpu.travel) : s.KeepsBounds (acceptLevels acc t) := by
  cases acc with
  | a level => exact decodePair_bounds (acceptA_bounds h) (by simpa using hq) (by simpa using ht)
  | b level => exact decodePair_bounds (acceptB_bounds h) (by simpa using hq) (by simpa using ht)
  | ab levelA levelB =>
    exact decodePair_bounds (acceptB_bounds (acceptA_bounds h)) (by simpa using hq) (by simpa using ht)
  | z level => exact ite_bounds (indexEdge_bounds (acceptZ_bounds h)) (acceptZ_bounds h)

theorem acceptAtOnce_bounds {acc : Accepted} (h : s.KeepsBounds t) (hq : t.ejs.eq = s.ejs.eq)
    (ht : t.bpu.travel = s.bpu.travel) : s.KeepsBounds (acceptAtOnce acc t) :=
  ite_bounds (finish_bounds (handOver_bounds (acceptLevels_bounds h hq ht))) h

theorem seeA_bounds {level : Bool} : s.KeepsBounds (seeA level s) :=
  have seen := State.KeepsBounds.refl s
  ite_bounds seen (ite_bounds (setBpu_bounds seen rfl (Nat.le_refl _))
    (acceptAtOnce_bounds (setBpu_bounds seen rfl (Nat.le_refl _)) rfl rfl))

theorem seeB_bounds {level : Bool} : s.KeepsBounds (seeB level s) :=
  have seen := State.KeepsBounds.refl s
  ite_bounds seen (ite_bounds (setBpu_bounds seen rfl (Nat.le_refl _))
    (acceptAtOnce_bounds (setBpu_bounds seen rfl (Nat.le_refl _)) rfl rfl))

theorem seeZ_bounds {level : Bool} : s.KeepsBounds (seeZ level s) :=
  have seen := State.KeepsBounds.refl s
  ite_bounds seen (ite_bounds (setBpu_bounds seen rfl (Nat.le_refl _))
    (acceptAtOnce_bounds (setBpu_bounds seen rfl (Nat.le_refl _)) rfl rfl))

theorem stallExpires_bounds (h : s.KeepsBounds t) : s.KeepsBounds (stallExpires t) := by
  unfold stallExpires
  split
  · exact h
  · exact setBpu_bounds h rfl (Nat.le_refl _)

/-! ## Resets (R20, R39, R54, R82, R99, R120, R141, R162, R178, R191, R198) -/

theorem ProductBank.powerOn_shaped : ProductBank.powerOn.shaped := by
  refine ⟨List.length_replicate, fun x hx => ?_, by simp [ProductBank.powerOn], List.length_replicate⟩
  rw [List.eq_of_mem_replicate hx]
  exact List.length_replicate

theorem Tbs.powerOn_shaped : Tbs.powerOn.shaped :=
  ⟨List.length_replicate, List.length_replicate, ProductBank.powerOn_shaped, ProductBank.powerOn_shaped⟩

/-- A reset empties every queue but the link's and sets every table but those of the Table Store. -/
theorem resetBlocks_bounds {tbs : Tbs} {config : Configuration} {lki : Lki} (h : s.KeepsBounds t)
    (hx : t.tbs.shaped → tbs.shaped)
    (hf : t.lki.forwardQueue.length ≤ 2 → lki.forwardQueue.length ≤ 2)
    (hp : lki.passBuffer = []) : s.KeepsBounds (resetBlocks tbs config lki t) where
  numbered _ := by simp [State.numberedLaw, State.numbered, resetBlocks, Cmu.reset]
  debt _ := Nat.zero_le _
  queues hs :=
    have ⟨_, _, forwardQueue, _⟩ := h.queues hs
    ⟨Nat.zero_le _, Nat.zero_le _, hf forwardQueue, by simp [resetBlocks, hp]⟩
  shaped hs :=
    have ⟨_, _, _, vmt, ccal, bankA, bankB, _⟩ := h.shaped hs
    have ⟨vmt', ccal', bankA', bankB'⟩ := hx ⟨vmt, ccal, bankA, bankB⟩
    ⟨List.length_replicate, List.length_replicate, List.length_replicate, vmt', ccal', bankA', bankB',
      List.length_replicate⟩
  order _ _ := List.Pairwise.nil

theorem powerOnReset_bounds (h : s.KeepsBounds t) : s.KeepsBounds (powerOnReset t) :=
  resetBlocks_bounds h (fun _ => Tbs.powerOn_shaped) (fun _ => Nat.zero_le _) rfl

theorem linkReset_bounds (h : s.KeepsBounds t) : s.KeepsBounds (linkReset t) :=
  resetBlocks_bounds h id id rfl

end Sys2Proof.Machine
end

section
/-! The bounds through the commands and the link (Machine/Commands, Link), and through every row of the table
to the step. -/

namespace Sys2Proof.Machine

variable {s t : State}

/-! ## What an accepted command does (R129 ~ R131, R149 ~ R177) -/

theorem answer_bounds {c : Command} {tag : Word16} {status : Status} {detail : Nat} {data : List Byte}
    (h : s.KeepsBounds t) : s.KeepsBounds (answer c tag status detail data t) :=
  respond_bounds h

theorem doReadCounters_bounds {tag : Word16} {p : List Byte} (h : s.KeepsBounds t) :
    s.KeepsBounds (doReadCounters tag p t) :=
  answer_bounds (ite_bounds (setRpu_bounds h (fun _ => by simp)) h)

theorem doAbort_bounds {tag : Word16} (h : s.KeepsBounds t) (he : t.cmu.engine ≠ .offline) :
    s.KeepsBounds (doAbort tag t) := by
  unfold doAbort
  split
  · exact answer_bounds h
  · exact answer_bounds (abortExecuting_bounds h he)

/-- A CCT_WRITE of its allowed length carries 256 codes (R149, R200). -/
theorem length_cctCodes {p : List Byte} (hl : Command.cctWrite.lengthOk (p.length + 1) = true) :
    (cctCodes p).length = 256 := by
  have params : p.length = 259 := by simpa [Command.lengthOk] using hl
  simp [cctCodes, params]

theorem doCctWrite_bounds {tag : Word16} {p : List Byte} (h : s.KeepsBounds t)
    (hl : Command.cctWrite.lengthOk (p.length + 1) = true) : s.KeepsBounds (doCctWrite tag p t) :=
  ite_bounds (answer_bounds (setBlock_bounds h (fun _ => length_cctCodes hl))) (answer_bounds h)

theorem doCctFill_bounds {tag : Word16} {p : List Byte} (h : s.KeepsBounds t) :
    s.KeepsBounds (doCctFill tag p t) := by
  refine answer_bounds (setStandby_bounds h
    (fun ⟨cct, codes, lists⟩ => ⟨by simpa using cct, fun x hx => ?_, lists⟩))
  obtain ⟨n, hn⟩ := List.getElem?_of_mem hx
  rw [getElem?_mapFrom] at hn
  obtain ⟨y, hy, rfl⟩ := Option.map_eq_some_iff.1 hn
  split
  · exact List.length_replicate
  · exact codes y (List.mem_of_getElem? hy)

@[simp] theorem length_writeFrom {α : Type} (first : Nat) (new l : List α) :
    (writeFrom first new l).length = l.length :=
  length_mapFrom _ _ _

theorem doNbtWrite_bounds {tag : Word16} {p : List Byte} (h : s.KeepsBounds t) :
    s.KeepsBounds (doNbtWrite tag p t) :=
  answer_bounds (setStandby_bounds h
    (fun ⟨cct, codes, nbt, rules⟩ => ⟨cct, codes, by simpa using nbt, rules⟩))

theorem doRrtWrite_bounds {tag : Word16} {p : List Byte} (h : s.KeepsBounds t) :
    s.KeepsBounds (doRrtWrite tag p t) := by
  refine answer_bounds (setStandby_bounds h (fun ⟨cct, codes, nbt, rules⟩ => ?_))
  split
  · exact ⟨cct, codes, nbt, by simpa using rules⟩
  · exact ⟨cct, codes, nbt, rules⟩

theorem doVmtWrite_bounds {tag : Word16} {p : List Byte} (h : s.KeepsBounds t) :
    s.KeepsBounds (doVmtWrite tag p t) :=
  answer_bounds (setTbs_bounds h (fun ⟨vmt, rest⟩ => ⟨by simpa using vmt, rest⟩))

theorem doCcalWrite_bounds {tag : Word16} {p : List Byte} (h : s.KeepsBounds t) :
    s.KeepsBounds (doCcalWrite tag p t) :=
  answer_bounds (setTbs_bounds h (fun ⟨vmt, ccal, banks⟩ => ⟨vmt, by simpa using ccal, banks⟩))

/-- A block whose state alone changes. -/
theorem remark_bounds {name : Bank} {n : Nat} {st : BlockState} (h : s.KeepsBounds t) :
    s.KeepsBounds (t.setBlock name n { (t.tbs.bank name).block n with state := st }) :=
  setBlock_bounds h (fun hs => (hs.bank name).block n)

theorem doBlockMark_bounds {tag : Word16} {p : List Byte} (h : s.KeepsBounds t) :
    s.KeepsBounds (doBlockMark tag p t) :=
  ite_bounds (answer_bounds h)
    (ite_bounds (ite_bounds (answer_bounds (remark_bounds h)) (answer_bounds (remark_bounds h)))
      (answer_bounds (remark_bounds h)))

theorem doBankCopy_bounds {tag : Word16} (h : s.KeepsBounds t) : s.KeepsBounds (doBankCopy tag t) :=
  beginCommand_bounds (setTbs_bounds h id)

theorem doBankSwap_bounds {tag : Word16} {p : List Byte} (h : s.KeepsBounds t) :
    s.KeepsBounds (doBankSwap tag p t) := by
  unfold doBankSwap
  split
  · exact answer_bounds h
  · split
    · exact answer_bounds h
    · exact ite_bounds (beginCommand_bounds (setTbs_bounds h id)) (answer_bounds (exchangeBanks_bounds h))

theorem doCalibrate_bounds {tag : Word16} (h : s.KeepsBounds t) : s.KeepsBounds (doCalibrate tag t) :=
  ite_bounds (ite_bounds (beginCommand_bounds (setCapture_bounds h)) (answer_bounds h)) (answer_bounds h)

theorem doStart_bounds {tag : Word16} (h : s.KeepsBounds t) (he : t.cmu.engine ≠ .offline) :
    s.KeepsBounds (doStart tag t) := by
  unfold doStart
  split
  · exact answer_bounds h
  · exact ite_bounds (ite_bounds
      (ite_bounds (answer_bounds (startSorting_bounds h he)) (answer_bounds h)) (answer_bounds h))
      (answer_bounds h)

theorem enableIfCool_bounds {tag : Word16} {i : Nat} (h : s.KeepsBounds t) :
    s.KeepsBounds (enableIfCool tag i t) :=
  ite_bounds (answer_bounds (enableValve_bounds h)) (answer_bounds h)

theorem doEnable_bounds {tag : Word16} {i : Nat} (h : s.KeepsBounds t) :
    s.KeepsBounds (doEnable tag i t) := by
  unfold doEnable
  split
  · exact answer_bounds h
  · exact answer_bounds h
  · exact answer_bounds h
  · exact enableIfCool_bounds h
  · exact enableIfCool_bounds h
  · exact ite_bounds (answer_bounds h) (enableIfCool_bounds h)

theorem doValveControl_bounds {tag : Word16} {p : List Byte} (h : s.KeepsBounds t) :
    s.KeepsBounds (doValveControl tag p t) :=
  ite_bounds (doEnable_bounds h) (answer_bounds (disableValve_bounds h))

theorem doValveTest_bounds {tag : Word16} {p : List Byte} (h : s.KeepsBounds t) :
    s.KeepsBounds (doValveTest tag p t) :=
  ite_bounds (ite_bounds (onTest_bounds (beginCommand_bounds (setVlc_bounds h id))) (answer_bounds h))
    (answer_bounds h)

/-! ## Reception of a command (R164, R182, R194) -/

/-- No command is taken in OFFLINE (09, section 9.4). -/
theorem engine_ne_offline_of_takenIn {c : Command} {e : EngineState} (h : c.takenIn e = true) :
    e ≠ .offline := by
  rintro rfl
  cases c <;> cases h

theorem acceptCommand_bounds {c : Command} {tag : Word16} {p : List Byte} (h : s.KeepsBounds t)
    (hl : c.lengthOk (p.length + 1) = true) (he : t.cmu.engine ≠ .offline) :
    s.KeepsBounds (acceptCommand c tag p t) := by
  cases c with
  | nop => exact answer_bounds h
  | readStatus => exact answer_bounds h
  | readCounters => exact doReadCounters_bounds h
  | readConfig => exact answer_bounds h
  | blockRead => exact answer_bounds h
  | abort => exact doAbort_bounds h he
  | resync => exact answer_bounds (enterHunt1_bounds h)
  | configure => exact answer_bounds (configure_bounds h)
  | cctWrite => exact doCctWrite_bounds h hl
  | cctFill => exact doCctFill_bounds h
  | nbtWrite => exact doNbtWrite_bounds h
  | rrtWrite => exact doRrtWrite_bounds h
  | vmtWrite => exact doVmtWrite_bounds h
  | ccalWrite => exact doCcalWrite_bounds h
  | blockMark => exact doBlockMark_bounds h
  | bankCopy => exact doBankCopy_bounds h
  | bankSwap => exact doBankSwap_bounds h
  | calibrate => exact doCalibrate_bounds h
  | start => exact doStart_bounds h he
  | stop => exact stopSorting_bounds h he
  | clearFault => exact answer_bounds (clearFault_bounds h he)
  | valveControl => exact doValveControl_bounds h
  | valveTest => exact doValveTest_bounds h

theorem testCommand_bounds {c : Command} {tag : Word16} {p : List Byte} (h : s.KeepsBounds t) :
    s.KeepsBounds (testCommand c tag p t) := by
  unfold testCommand
  split
  next => exact answer_bounds h
  next hl =>
    split
    next => exact answer_bounds h
    next he =>
      split
      · exact answer_bounds h
      · split
        · exact answer_bounds h
        · exact acceptCommand_bounds h (by simpa using hl) (engine_ne_offline_of_takenIn (by simpa using he))

theorem receiveCommand_bounds {tag : Word16} {payload : List Byte} (h : s.KeepsBounds t) :
    s.KeepsBounds (receiveCommand tag payload t) := by
  unfold receiveCommand
  split
  · exact respond_bounds h
  · split
    · exact respond_bounds h
    · exact testCommand_bounds h

theorem commandFrame_bounds {hdr : Header} {payload : List Byte} (h : s.KeepsBounds t) :
    s.KeepsBounds (commandFrame hdr payload t) :=
  ite_bounds (ite_bounds (bump_bounds h) (receiveCommand_bounds h)) h

/-! ## The link (R179 ~ R190) -/

/-- A frame joins the forward queue only while it holds fewer than 2 (R180). -/
theorem joinForward_bounds {f : Frame} (h : s.KeepsBounds t) : s.KeepsBounds (joinForward f t) := by
  unfold joinForward
  split
  next => exact doKick_bounds (setLki_bounds h (fun _ => by simp; omega) id)
  next => exact bump_bounds h

theorem forward_bounds {f : Frame} (h : s.KeepsBounds t) : s.KeepsBounds (forward f t) := by
  unfold forward
  split
  · exact h
  · exact joinForward_bounds h

theorem arrive_bounds (h : s.KeepsBounds t) : s.KeepsBounds (arrive t) :=
  doKick_bounds (setLki_bounds h id id)

theorem dropDi_bounds (h : s.KeepsBounds t) : s.KeepsBounds (dropDi t) := bump_bounds (setLki_bounds h id id)

/-- An ENUM numbers an engine that becomes STANDBY, or changes the number of one that has one (R183). -/
theorem enumerate_bounds {n : Nat} (h : s.KeepsBounds t) : s.KeepsBounds (enumerate n t) := by
  unfold enumerate
  split
  next =>
    exact ite_bounds
      (enterHunt1_bounds (setCmu_bounds h
        (fun _ => by simp [State.numberedLaw, State.numbered, State.setCmu]) rfl)) h
  next u hu =>
    refine ite_bounds (ite_bounds h ?_) (notice_bounds h)
    exact raiseCause_bounds (notice_bounds (setCmu_bounds h
      (by simp [State.numberedLaw, State.numbered, State.setCmu, hu]) rfl))

theorem localAction_bounds {f : Frame} (h : s.KeepsBounds t) : s.KeepsBounds (localAction f t) :=
  ite_bounds (intakeFrame_bounds h)
    (ite_bounds (commandFrame_bounds h)
      (ite_bounds (ite_bounds (enumerate_bounds h) h)
        (ite_bounds (ite_bounds (linkReset_bounds h) h)
          (ite_bounds (ite_bounds (bump_bounds (setLki_bounds h id id)) h) h))))

theorem receiveDi_bounds {f : Frame} (h : s.KeepsBounds t) : s.KeepsBounds (receiveDi f t) :=
  ite_bounds (finish_bounds (localAction_bounds (forward_bounds (arrive_bounds h)))) (dropDi_bounds h)

theorem setPauseDue_bounds (h : s.KeepsBounds t) : s.KeepsBounds (setPauseDue t) :=
  doKick_bounds (setLki_bounds h id id)

/-- A frame joins the Pass Buffer only while it holds fewer than 4 (R187). -/
theorem enterPass_bounds {f : Frame} (h : s.KeepsBounds t) : s.KeepsBounds (enterPass f t) := by
  unfold enterPass
  split
  next =>
    have joined : s.KeepsBounds (t.setLki { t.lki with passBuffer := t.lki.passBuffer ++ [f] }) :=
      setLki_bounds h id (fun _ => by simp; omega)
    exact roKick_bounds (ite_bounds (setPauseDue_bounds joined) joined)
  next => exact bump_bounds h

theorem receiveRi_bounds {f : Frame} (h : s.KeepsBounds t) : s.KeepsBounds (receiveRi f t) :=
  ite_bounds (enterPass_bounds h) (bump_bounds h)

theorem receiveNotGood_bounds {lane : Lane} {bytes : List Byte} {cut : Bool} (h : s.KeepsBounds t) :
    s.KeepsBounds (receiveNotGood lane bytes cut t) := by
  unfold receiveNotGood
  split
  · exact receiveDi_bounds h
  · exact receiveRi_bounds h
  · exact dropDi_bounds h
  · exact bump_bounds h

theorem cutOff_bounds (h : s.KeepsBounds t) : s.KeepsBounds (cutOff t) :=
  ite_bounds (bump_bounds (setLki_bounds h id id)) h

theorem silenceExpires_bounds (h : s.KeepsBounds t) : s.KeepsBounds (silenceExpires t) :=
  have cut : s.KeepsBounds (cutOff (t.setLki { t.lki with silence := 10000 })) :=
    cutOff_bounds (setLki_bounds h id id)
  ite_bounds (raiseCause_bounds (notice_bounds (bump_bounds (setLki_bounds cut id id)))) cut

theorem receiveSymbols_bounds {sym : Symbols} (h : s.KeepsBounds t) :
    s.KeepsBounds (receiveSymbols sym t) := by
  cases sym with
  | idle => exact setLki_bounds h id id
  | frameGoesOn => exact setLki_bounds h id id
  | frameBegins => exact setLki_bounds (cutOff_bounds (setLki_bounds h id id)) id id

theorem pauseExpires_bounds (h : s.KeepsBounds t) : s.KeepsBounds (pauseExpires t) := by
  unfold pauseExpires
  split
  · exact h
  · exact roKick_bounds (setLki_bounds h id id)

theorem repeatExpires_bounds (h : s.KeepsBounds t) : s.KeepsBounds (repeatExpires t) := by
  unfold repeatExpires
  split
  · exact h
  · exact ite_bounds (setPauseDue_bounds h) (setLki_bounds h id id)

/-! ## Every row of the table -/

/-- What a step makes of a state that keeps the bounds keeps them. -/
theorem of_next_bounds {u : State} (h : s.KeepsBounds u) :
    ∀ v, (Host.Outcome.next u : Host.Outcome State Fault Refusal) = .next v → s.KeepsBounds v := by
  rintro v ⟨⟩
  exact h

/-- A command that stops on an operand out of range makes no state. -/
theorem of_ite_fault_bounds {c : Prop} [Decidable c] {u : State} {r : Fault} (h : s.KeepsBounds u) :
    ∀ v, (if c then .next u else .fault r : Host.Outcome State Fault Refusal) = .next v →
      s.KeepsBounds v := by
  intro v hv
  split at hv
  · exact of_next_bounds h v hv
  · cases hv

/-- Every command keeps the bounds. The rows that are frames on DI, the commands of section 9.4 among them,
are one reception. -/
theorem exec_bounds (c : Instr) (s : State) : ∀ t, exec c s = .next t → s.KeepsBounds t := by
  have h := State.KeepsBounds.refl s
  cases c with
  | encoderEdgeAccepted acc =>
    exact of_next_bounds (finish_bounds (handOver_bounds (acceptLevels_bounds h rfl rfl)))
  | stallTimerExpiry => exact of_next_bounds (finish_bounds (handOver_bounds (stallExpires_bounds h)))
  | missingIndex => exact of_next_bounds (finish_bounds (missingIndexTest_bounds h))
  | lineTrigger => exact of_next_bounds (finish_bounds (lineTriggerTest_bounds h))
  | slotDue => exact of_next_bounds (finish_bounds (settleOldest_bounds h))
  | huntTimeout => exact of_next_bounds (finish_bounds (huntTimeout_bounds h))
  | slotDelivery => exact of_next_bounds (finish_bounds (deliver_bounds h))
  | calibrateCompletion => exact of_next_bounds (calibrateIfDone_bounds h)
  | lineAssemblyCompletion => exact of_next_bounds (finish_bounds (assemblyCompletes_bounds h))
  | closeAll => exact of_next_bounds (finish_bounds (closeAllFirst_bounds h))
  | closingToVq => exact of_next_bounds (finish_bounds (vduTake_bounds (closingMove_bounds h)))
  | vqTake => exact of_next_bounds (finish_bounds (pump_bounds (vduTake_bounds h)))
  | evaluationCompletion => exact of_next_bounds (finish_bounds (evaluationCompletes_bounds h))
  | ejectionRequest src => exact of_next_bounds (finish_bounds (takeFrom_bounds h))
  | holdoffExpiry valve => exact of_ite_fault_bounds (holdoffExpires_bounds h)
  | thermalTick => exact of_next_bounds (thermalTick_bounds h)
  | valveTrip valve => exact of_ite_fault_bounds (trip_bounds h)
  | valveTestExpiry => exact of_next_bounds (testExpires_bounds h)
  | imageStart => exact of_next_bounds (ite_bounds (startImage_bounds h) h)
  | imageTransmissionEnd => exact of_next_bounds (ite_bounds (openWindow_bounds h) h)
  | statusFrame bytes => exact of_next_bounds (statusArrives_bounds h)
  | answerWindowClose => exact of_next_bounds (ite_bounds (finish_bounds (windowCloses_bounds h)) h)
  | bankCopyStep => exact of_next_bounds (copyStep_bounds h)
  | swapAtQuietPoint => exact of_next_bounds (swapAtQuietPoint_bounds h)
  | swapForced => exact of_next_bounds (swapAtDeadline_bounds h)
  | scrubCheck => exact of_next_bounds (scrubIfDue_bounds h)
  | drainRunOut => exact of_next_bounds (drainRunsOut_bounds h)
  | faultEntry cause => exact of_next_bounds (takeCause_bounds h)
  | laterCause cause => exact of_next_bounds (takeLater_bounds h)
  | frameNotGood lane bytes cut => exact of_next_bounds (receiveNotGood_bounds h)
  | pauseTimerExpiry => exact of_next_bounds (pauseExpires_bounds h)
  | passBufferEntry f => exact of_next_bounds (receiveRi_bounds h)
  | pauseRepeatExpiry => exact of_next_bounds (repeatExpires_bounds h)
  | doFrameBoundary => exact of_next_bounds (doKick_bounds (setLki_bounds h id id))
  | roTransmissionEnd => exact of_next_bounds (roKick_bounds (setLki_bounds h id id))
  | silenceTimerExpiry => exact of_next_bounds (finish_bounds (silenceExpires_bounds h))
  | powerOnReset => exact of_next_bounds (powerOnReset_bounds h)
  | encoderInputChange ch level =>
    cases ch with
    | a => exact of_next_bounds seeA_bounds
    | b => exact of_next_bounds seeB_bounds
    | z => exact of_next_bounds seeZ_bounds
  | diSymbolReceived sym => exact of_next_bounds (receiveSymbols_bounds h)
  | cctEntryChange name index code => exact of_ite_fault_bounds (changeEntry_bounds h)
  | _ => exact of_next_bounds (receiveDi_bounds h)

/-- The passing of 0.1 us keeps the bounds (log 3). -/
theorem tick_bounds (s : State) : s.KeepsBounds (tick s) where
  numbered := id
  debt := id
  queues := id
  shaped hs := by simpa [State.shaped, tick, Vlc.tick] using hs
  order hs _ := hs

/-- Every step keeps the bounds: a command runs on the state with the queue's rest, which meets the laws the
state before it meets. -/
theorem step_bounds {s t : State} (h : step s = .next t) : s.KeepsBounds t := by
  unfold step at h
  split at h
  next => exact of_next_bounds (tick_bounds s) t h
  next c rest _ =>
    have keeps := exec_bounds c (s.setPending rest) t h
    exact ⟨keeps.numbered, keeps.debt, keeps.queues, keeps.shaped, keeps.order⟩

/-- Settles O60: a step is a chain of operations that each carry `State.KeepsBounds` on. -/
theorem stepKeepsTheBounds : Obligations.StepKeepsTheBounds := by
  unfold Obligations.StepKeepsTheBounds
  exact ⟨fun _ _ law hs => (step_bounds hs).numbered law, fun _ _ law hs => (step_bounds hs).debt law,
    fun _ _ law hs => (step_bounds hs).queues law, fun _ _ law hs => (step_bounds hs).shaped law,
    fun _ _ law noneWraps hs => (step_bounds hs).order law noneWraps⟩

end Sys2Proof.Machine
end

section
/-! The two resets, block by block (R20, R39, R54, R82, R99, R120, R141, R162, R178, R191, R198), and the
laws of the power-on reset state. -/

namespace Sys2Proof.Machine

/-- A list of copies of a value reads as that value everywhere, with the value itself as the default. -/
theorem getD_replicate_self {α : Type} (n i : Nat) (x : α) : (List.replicate n x).getD i x = x := by
  rw [List.getD_eq_getElem?_getD, List.getElem?_getD_replicate_default_eq]

/-! ## The resets -/

/-- A Report Unit after a reset holds every counter at 0 (R198). -/
theorem counter_of_rpu_reset {s : State} (h : s.rpu = Rpu.reset) (c : Counter) : s.counter c = 0 := by
  rw [State.counter, h]
  exact getD_replicate_self _ _ _

/-- Settles O3: the reset writes every block's reset value, whatever the state. -/
theorem powerOnResetSetsEveryBlock : Obligations.PowerOnResetSetsEveryBlock := by
  unfold Obligations.PowerOnResetSetsEveryBlock
  intro s
  have counters : ∀ c, (powerOnReset s).counter c = 0 := counter_of_rpu_reset rfl
  exact ⟨powerOnReset s, rfl, rfl, rfl, rfl, rfl, rfl, rfl, rfl, rfl, rfl, rfl, rfl, rfl, rfl, rfl, rfl,
    rfl, rfl, counters⟩

/-- A good LRST frame of payload length 0 is heard, and the blocks are reset at its end (R184). -/
theorem receiveDi_lrst_empty (h : Header) (s : State) :
    receiveDi { ftype := 0x04, hdr := h, payload := [] } s
      = linkReset (s.heard { ftype := 0x04, hdr := h, payload := [] }) := by
  rw [receiveDi_of_fits _ _ (Nat.zero_le _)]
  exact finish_of_idle (by simp [localAction, linkReset, resetBlocks, Cmu.reset])
    (by simp [localAction, linkReset, resetBlocks, Cmu.reset])

/-- An LRST frame of another payload length is heard, and has no local action (R184, R199). -/
theorem receiveDi_lrst_of_length_ne_zero (h : Header) {payload : List Byte} (s : State)
    (hne : payload.length ≠ 0) (hle : payload.length ≤ maxPayload) :
    receiveDi { ftype := 0x04, hdr := h, payload := payload } s
      = finish (s.heard { ftype := 0x04, hdr := h, payload := payload }) := by
  rw [receiveDi_of_fits _ _ hle]
  simp [localAction, hne]

/-- Settles O4: an LRST of length 0 resets the blocks of the state in which it has been heard, and hearing
it changes the link and the counters only; one of another length is heard and that is all. -/
theorem linkResetByPayloadLength : Obligations.LinkResetByPayloadLength := by
  unfold Obligations.LinkResetByPayloadLength
  refine ⟨fun h s => ?_, fun h payload s hne hle => ?_⟩
  · have counters : ∀ c, (linkReset (s.heard { ftype := 0x04, hdr := h, payload := [] })).counter c = 0 :=
      counter_of_rpu_reset rfl
    refine ⟨_, congrArg Host.Outcome.next (receiveDi_lrst_empty h s), ?_⟩
    simpa [linkReset, resetBlocks, Tbs.linkReset, Lki.linkReset, Cmu.reset, Ejs.reset, Rpu.reset]
      using counters
  · exact congrArg Host.Outcome.next (receiveDi_lrst_of_length_ne_zero h s hne hle)

/-! ## The reset state's laws -/

/-- Every valve is at its reset value (R141). -/
theorem reset_valve (i : Nat) : State.reset.valve i = Valve.reset := getD_replicate_self 64 i _

/-- Every slot of the Open Object Table is FREE (R82). -/
theorem reset_slot (i : Nat) : State.reset.oas.oot.getD i .free = .free := getD_replicate_self 96 i _

/-- No object is OPEN or CLOSING, in the Verdict Queue or under evaluation (R82, R99). -/
theorem reset_inFlight : State.reset.inFlight = 0 := by decide

theorem reset_numberedLaw : State.reset.numberedLaw :=
  iff_of_false Bool.false_ne_true (fun online => online rfl)

theorem reset_debtLaw : State.reset.debtLaw := Nat.zero_le _

theorem reset_objectLaw : State.reset.objectLaw := by
  have zero : ∀ c, State.reset.counter c = 0 := counter_of_rpu_reset rfl
  exact ⟨List.length_replicate, by simp only [zero, reset_inFlight]; rfl⟩

theorem reset_queueLaw : State.reset.queueLaw := ⟨Nat.zero_le _, Nat.zero_le _⟩

/-- Nothing executes and no valve test, copy, swap or capture is under way. -/
theorem reset_executingLaw : State.reset.executingLaw :=
  ⟨nofun, nofun, nofun, nofun, nofun⟩

theorem reset_valveLaw : State.reset.valveLaw := by
  intro i _ on
  rw [reset_valve] at on
  nomatch on

theorem reset_ringLaw : State.reset.ringLaw := ⟨List.Perm.refl _, nofun⟩

theorem reset_queueBounds : State.reset.queueBounds :=
  ⟨Nat.zero_le _, Nat.zero_le _, Nat.zero_le _, Nat.zero_le _⟩

/-- A bank after the power-on reset has its lengths (R145, R146, R162). -/
theorem powerOn_shaped : ProductBank.powerOn.shaped := by
  refine ⟨List.length_replicate, fun b hb => ?_, rfl, List.length_replicate⟩
  rw [List.eq_of_mem_replicate hb]
  exact List.length_replicate

theorem reset_shaped : State.reset.shaped :=
  ⟨List.length_replicate, List.length_replicate, List.length_replicate, List.length_replicate,
    List.length_replicate, powerOn_shaped, powerOn_shaped, List.length_replicate⟩

theorem reset_recordLaw : State.reset.recordLaw := by
  have none_in_flight : State.reset.oas.openObjects ++ State.reset.oas.oot.filterMap OotSlot.closed?
      ++ State.reset.vdu.vq ++ State.reset.vdu.evaluating.toList = [] := by decide
  intro o ho
  rw [none_in_flight] at ho
  nomatch ho

theorem reset_closingLaw : State.reset.closingLaw := by
  refine ⟨List.nodup_nil, fun i => ?_⟩
  rw [reset_slot]
  exact iff_of_false List.not_mem_nil Bool.false_ne_true

theorem reset_plrLaw : State.reset.plrLaw := ⟨Nat.zero_le _, List.Pairwise.nil, nofun, nofun⟩

theorem reset_coverLaw : State.reset.coverLaw := by
  refine ⟨List.length_replicate, fun i _ => ?_, fun r hr => ?_, nofun, nofun, nofun⟩
  · rw [reset_valve]
    rfl
  · nomatch List.eq_of_mem_replicate hr

theorem reset_bankLaw : State.reset.bankLaw := ⟨nofun, nofun⟩

theorem reset_orderLaw : State.reset.orderLaw := List.Pairwise.nil

/-- Settles O55: the reset state meets each law. -/
theorem resetMeetsTheLaws : Obligations.ResetMeetsTheLaws := by
  unfold Obligations.ResetMeetsTheLaws
  exact ⟨reset_numberedLaw, reset_debtLaw, reset_objectLaw, reset_queueLaw, reset_executingLaw,
    reset_valveLaw, reset_ringLaw, reset_queueBounds, reset_shaped, reset_recordLaw, reset_closingLaw,
    reset_plrLaw, reset_coverLaw, reset_bankLaw, reset_orderLaw⟩

end Sys2Proof.Machine
end

section
/-! The end of an event: nothing to hand over, nothing to take, or a cause that is taken. The index check (R9 ~
R12), and the statement about a missing index. -/

namespace Sys2Proof.Machine

/-! ## The end of an event -/

/-- An event that changes neither the belt state nor a valve hands nothing over (R8, R114). -/
theorem handOver_of_same {before s : State} (belt : s.bpu.beltState = before.bpu.beltState)
    (valves : s.vlc = before.vlc) : handOver before s = s := by
  have quiet : (fun i : Nat => decide (before.bpu.beltState ≠ s.bpu.beltState)
      || decide ((before.valve i).refCount ≠ (s.valve i).refCount)) = fun _ => false := by
    simp [State.valve, belt, valves]
  unfold handOver onTests
  rw [quiet]
  exact List.foldl_fixed _

/-- Whether the drain has run out is read from the objects and the ejections (R172). -/
theorem drained_congr {s t : State} (oas : t.oas = s.oas) (vdu : t.vdu = s.vdu) (ejs : t.ejs = s.ejs) :
    t.drained = s.drained := by
  simp only [State.drained, State.quiet, oas, vdu, ejs]

/-- An event that leaves the Command Unit, the objects and the ejections leaves a state at rest so. -/
theorem atRest_congr {s t : State} (rest : s.atRest) (cmu : t.cmu = s.cmu) (oas : t.oas = s.oas)
    (vdu : t.vdu = s.vdu) (ejs : t.ejs = s.ejs) : t.atRest := by
  rw [State.atRest, cmu, drained_congr oas vdu ejs]
  exact rest

/-- A cause that stands alone, with no drain run out, is taken at the end of the event (R175; log 2). -/
theorem finish_of_single_cause {s : State} {c : FaultCause} (causes : s.cmu.causes = [c])
    (engine : s.cmu.engine = .sorting ∨ s.cmu.engine = .draining)
    (running : s.cmu.engine = .draining → s.drained = false) : finish s = enterFault c s := by
  rcases engine with he | he
  · simp [finish, he, causes]
  · simp [finish, he, causes, running he]

/-- FAULT entry leaves the engine in FAULT with its cause (R175). -/
theorem enterFault_engine (c : FaultCause) (s : State) :
    (enterFault c s).cmu.engine = .fault ∧ (enterFault c s).cmu.cause = some c := by
  simp [enterFault, faultEffects]

/-- In SORTING or DRAINING a raised cause waits to be taken (R175). -/
theorem raiseCause_cmu {c : FaultCause} {s : State}
    (engine : s.cmu.engine = .sorting ∨ s.cmu.engine = .draining) :
    (raiseCause c s).cmu = { s.cmu with causes := s.cmu.causes ++ [c] } := by
  rcases engine with he | he <;> simp [raiseCause, he]

/-- A cause raised by an event that finds the state at rest puts the engine in FAULT at its end (R175). -/
theorem finish_of_raised {s t : State} {c : FaultCause} (rest : s.atRest)
    (engine : s.cmu.engine = .sorting ∨ s.cmu.engine = .draining)
    (cmu : t.cmu = { s.cmu with causes := s.cmu.causes ++ [c] })
    (oas : t.oas = s.oas) (vdu : t.vdu = s.vdu) (ejs : t.ejs = s.ejs) :
    (finish t).cmu.engine = .fault ∧ (finish t).cmu.cause = some c := by
  obtain ⟨causes, running⟩ := rest
  have alone : t.cmu.causes = [c] := by simp [cmu, causes]
  have same : t.cmu.engine = s.cmu.engine := by rw [cmu]
  rw [finish_of_single_cause alone (same ▸ engine)
    (by rw [same, drained_congr oas vdu ejs]; exact running)]
  exact enterFault_engine c t

/-! ## The index check (R9 ~ R12) -/

/-- A mismatch raises the run, and the third sets it back to 0 (R12). -/
@[simp] theorem mismatch_bpu (counted : Option Nat) (s : State) :
    (mismatch counted s).bpu
      = { s.bpu with
          mismatchRun := if 3 ≤ s.bpu.mismatchRun + 1 then 0 else s.bpu.mismatchRun + 1 } := by
  unfold mismatch
  dsimp only
  split <;> simp

/-- A mismatch before the third raises no cause (R12). -/
theorem mismatch_cmu_of_lt (counted : Option Nat) {s : State} (h : s.bpu.mismatchRun + 1 < 3) :
    (mismatch counted s).cmu = s.cmu := by
  simp [mismatch, Nat.not_le.2 h]

/-- The third mismatch raises ENCODER_FAULT (R12, R17). -/
theorem mismatch_cmu_of_third (counted : Option Nat) {s : State} (h : 3 ≤ s.bpu.mismatchRun + 1)
    (engine : s.cmu.engine = .sorting ∨ s.cmu.engine = .draining) :
    (mismatch counted s).cmu = { s.cmu with causes := s.cmu.causes ++ [.encoderFault] } := by
  simp [mismatch, h, raiseCause_cmu, engine]

/-- An index mark is missing: the check is ARMED and the count has reached rev_counts + rev_tolerance + 1
(R11). -/
def State.indexMissing (s : State) : Prop :=
  s.bpu.armed = true ∧ s.cmu.config.revCounts ≠ 0
    ∧ s.cmu.config.revCounts + s.cmu.config.revTolerance + 1 ≤ s.bpu.indexAdvances

theorem missingIndexTest_of_missing {s : State} (h : s.indexMissing) :
    missingIndexTest s = restartIndex (mismatch none s) := by
  obtain ⟨armed, checked, reached⟩ := h
  simp [missingIndexTest, armed, checked, reached]

theorem missingIndexTest_of_not_missing {s : State} (h : ¬ s.indexMissing) : missingIndexTest s = s := by
  simp only [State.indexMissing] at h
  simp only [missingIndexTest, Bool.and_eq_true, decide_eq_true_eq, and_assoc, if_neg h]

/-- The count lies within rev_tolerance of rev_counts (R10). -/
theorem indexMatches_iff (c : Configuration) (n : Nat) :
    indexMatches c n = true ↔ c.revCounts ≤ n + c.revTolerance ∧ n ≤ c.revCounts + c.revTolerance := by
  simp [indexMatches]

/-- What a rising Z edge makes of the Belt Position Unit (R9, R10, R12). -/
theorem indexEdge_bpu (s : State) :
    (indexEdge s).bpu
      = if s.bpu.armed then
          { s.bpu with
            indexAdvances := 0
            mismatchRun :=
              if s.cmu.config.revCounts ≤ s.bpu.indexAdvances + s.cmu.config.revTolerance
                  ∧ s.bpu.indexAdvances ≤ s.cmu.config.revCounts + s.cmu.config.revTolerance
              then 0
              else if 3 ≤ s.bpu.mismatchRun + 1 then 0 else s.bpu.mismatchRun + 1 }
        else if s.bpu.beltState = .moving ∧ s.cmu.config.revCounts ≠ 0 then
          { s.bpu with armed := true, indexAdvances := 0, mismatchRun := 0 }
        else s.bpu := by
  unfold indexEdge
  simp only [indexMatches_iff]
  by_cases armed : s.bpu.armed = true
  · rw [if_pos armed, if_pos armed]
    split <;> simp [restartIndex]
  · rw [if_neg armed, if_neg armed]
    split <;> simp

/-- Settles O12: a missing mark is a mismatch that restarts the count, and at the third the cause it raises
is taken at the end of the event. -/
theorem missingIndexIsAMismatch : Obligations.MissingIndexIsAMismatch := by
  unfold Obligations.MissingIndexIsAMismatch
  intro s rest
  constructor
  · intro armed checked reached
    have missing := missingIndexTest_of_missing ⟨armed, checked, reached⟩
    refine ⟨_, rfl, ?_, fun third engine => ?_, fun less => ?_⟩
    · simp [missing, restartIndex]
    · exact finish_of_raised rest engine (by simp [missing, mismatch_cmu_of_third none third engine])
        (by simp) (by simp) (by simp)
    · have cmu : (missingIndexTest s).cmu = s.cmu := by simp [missing, mismatch_cmu_of_lt none less]
      rw [finish_of_atRest (atRest_congr rest cmu (by simp) (by simp) (by simp)), cmu]
  · intro h
    have present : ¬ s.indexMissing := by
      rintro ⟨armed, checked, reached⟩
      rcases h with h | h | h
      · simp [armed] at h
      · exact checked h
      · omega
    show Host.Outcome.next (finish (missingIndexTest s)) = .next s
    rw [missingIndexTest_of_not_missing present, finish_of_atRest rest]

end Sys2Proof.Machine
end

section
/-! The acceptance of levels and the decoder's action on it (R3, R4), reverse edges (R6), and the statements
about reverse edges, the index edge and the edge filter. -/

namespace Sys2Proof.Machine

/-! ## Accepted levels (R3, R4) -/

/-- Taking accepted levels leaves everything but them and their filter times. -/
@[simp] theorem Bpu.withLevels_keeps (b : Bpu) (acc : Accepted) :
    (b.withLevels acc).travel = b.travel ∧ (b.withLevels acc).debt = b.debt
      ∧ (b.withLevels acc).stallFlag = b.stallFlag ∧ (b.withLevels acc).stallTimer = b.stallTimer
      ∧ (b.withLevels acc).pitch = b.pitch ∧ (b.withLevels acc).line = b.line
      ∧ (b.withLevels acc).triggerPos = b.triggerPos ∧ (b.withLevels acc).triggerTime = b.triggerTime
      ∧ (b.withLevels acc).period = b.period ∧ (b.withLevels acc).armed = b.armed
      ∧ (b.withLevels acc).indexAdvances = b.indexAdvances
      ∧ (b.withLevels acc).mismatchRun = b.mismatchRun
      ∧ (b.withLevels acc).ltrigPulses = b.ltrigPulses
      ∧ (b.withLevels acc).beltState = b.beltState := by
  cases acc <;>
    exact ⟨rfl, rfl, rfl, rfl, rfl, rfl, rfl, rfl, rfl, rfl, rfl, rfl, rfl, rfl⟩

theorem acceptA_of_timed {level : Bool} {s : State} (h : s.bpu.timed (.a level)) :
    acceptA level s = s.setBpu (s.bpu.withLevels (.a level)) := if_pos h

theorem acceptB_of_timed {level : Bool} {s : State} (h : s.bpu.timed (.b level)) :
    acceptB level s = s.setBpu (s.bpu.withLevels (.b level)) := if_pos h

theorem acceptZ_of_timed {level : Bool} {s : State} (h : s.bpu.timed (.z level)) :
    acceptZ level s = s.setBpu (s.bpu.withLevels (.z level)) := if_pos h

theorem acceptA_of_not_timed {level : Bool} {s : State} (h : ¬ s.bpu.timed (.a level)) :
    acceptA level s = s := if_neg h

theorem acceptB_of_not_timed {level : Bool} {s : State} (h : ¬ s.bpu.timed (.b level)) :
    acceptB level s = s := if_neg h

theorem acceptZ_of_not_timed {level : Bool} {s : State} (h : ¬ s.bpu.timed (.z level)) :
    acceptZ level s = s := if_neg h

/-- The acceptance of A does not touch what B's filter is timing (R3). -/
theorem timed_b_acceptA (other level : Bool) (s : State) :
    (acceptA other s).bpu.timed (.b level) ↔ s.bpu.timed (.b level) := by
  unfold acceptA
  split <;> rfl

/-- Without a change of the filtered pair the decoder does nothing (R4). -/
theorem decodePair_self (p : Bool × Bool) (s : State) : decodePair p p s = s := if_pos rfl

/-- The next pair in forward order is a forward edge (R4). -/
theorem decodePair_forward (p : Bool × Bool) (s : State) :
    decodePair p (nextForward p) s = forwardEdge s := by
  obtain ⟨a, b⟩ := p
  cases a <;> cases b <;> rfl

/-- The pair before in forward order is a reverse edge (R4). -/
theorem decodePair_reverse (p : Bool × Bool) (s : State) :
    decodePair (nextForward p) p s = reverseEdge s := by
  obtain ⟨a, b⟩ := p
  cases a <;> cases b <;> rfl

/-- A change of both levels is an illegal transition (R4). -/
theorem decodePair_illegal {old new : Bool × Bool} (a : new.1 ≠ old.1) (b : new.2 ≠ old.2) (s : State) :
    decodePair old new s = bump .encoderGlitches s := by
  have changed : new ≠ old := fun e => a (congrArg Prod.fst e)
  rw [decodePair, if_neg changed, if_pos ⟨a, b⟩]

/-- The next pair in forward order is another pair. -/
theorem nextForward_ne (p : Bool × Bool) : nextForward p ≠ p := by
  revert p
  decide

/-- Timed changes that change the filtered pair are taken, and the decoder acts once on the new pair (R3,
R4). -/
theorem acceptLevels_of_timed {acc : Accepted} {s : State} (h : s.bpu.timed acc)
    (changed : acc.pairAfter s.bpu ≠ s.bpu.pair) :
    acceptLevels acc s
      = decodePair s.bpu.pair (acc.pairAfter s.bpu) (s.setBpu (s.bpu.withLevels acc)) := by
  cases acc with
  | a level => simp only [acceptLevels, acceptPair, acceptA_of_timed h]; rfl
  | b level => simp only [acceptLevels, acceptPair, acceptB_of_timed h]; rfl
  | ab levelA levelB =>
    obtain ⟨timedA, timedB⟩ := h
    have hb := (timed_b_acceptA levelA levelB s).2 timedB
    rw [acceptA_of_timed timedA] at hb
    simp only [acceptLevels, acceptPair, acceptA_of_timed timedA, acceptB_of_timed hb]
    rfl
  | z level => exact absurd rfl changed

/-- A forward edge accepted of timed changes (R4). -/
theorem acceptLevels_forward {acc : Accepted} {s : State} (h : s.bpu.timed acc)
    (forward : acc.pairAfter s.bpu = nextForward s.bpu.pair) :
    acceptLevels acc s = forwardEdge (s.setBpu (s.bpu.withLevels acc)) := by
  rw [acceptLevels_of_timed h (forward ▸ nextForward_ne _), forward, decodePair_forward]

/-- A reverse edge accepted of timed changes (R4). -/
theorem acceptLevels_reverse {acc : Accepted} {s : State} (h : s.bpu.timed acc)
    (reverse : nextForward (acc.pairAfter s.bpu) = s.bpu.pair) :
    acceptLevels acc s = reverseEdge (s.setBpu (s.bpu.withLevels acc)) := by
  rw [acceptLevels_of_timed h (reverse ▸ (nextForward_ne _).symm), ← reverse, decodePair_reverse]

/-- A and B accepted at one moment (R4). -/
theorem acceptLevels_illegal {a b : Bool} {s : State} (h : s.bpu.timed (.ab a b)) :
    acceptLevels (.ab a b) s
      = bump .encoderGlitches
          (s.setBpu { s.bpu with fltA := a, timA := none, fltB := b, timB := none }) := by
  obtain ⟨⟨_, _, newA⟩, _, _, newB⟩ := id h
  have changed : Accepted.pairAfter s.bpu (.ab a b) ≠ s.bpu.pair :=
    fun e => newA (congrArg Prod.fst e).symm
  rw [acceptLevels_of_timed h changed, decodePair_illegal newA.symm newB.symm]
  rfl

/-- A level of A that no filter is timing changes nothing (R3; log 9). -/
theorem acceptLevels_a_of_not_timed {level : Bool} {s : State} (h : ¬ s.bpu.timed (.a level)) :
    acceptLevels (.a level) s = s := by
  simp only [acceptLevels, acceptPair, acceptA_of_not_timed h, decodePair_self]

/-- A level of B that no filter is timing changes nothing (R3; log 9). -/
theorem acceptLevels_b_of_not_timed {level : Bool} {s : State} (h : ¬ s.bpu.timed (.b level)) :
    acceptLevels (.b level) s = s := by
  simp only [acceptLevels, acceptPair, acceptB_of_not_timed h, decodePair_self]

/-- A level of Z that no filter is timing changes nothing (R3; log 9). -/
theorem acceptLevels_z_of_not_timed {level : Bool} {s : State} (h : ¬ s.bpu.timed (.z level)) :
    acceptLevels (.z level) s = s := by
  simp [acceptLevels, acceptZ_of_not_timed h]

/-- With A not timed, A and B at one moment are B alone (log 9). -/
theorem acceptLevels_ab_of_not_timed_a {level : Bool} {s : State} (h : ¬ s.bpu.timed (.a level))
    (other : Bool) : acceptLevels (.ab level other) s = acceptLevels (.b other) s := by
  simp only [acceptLevels, acceptPair, acceptA_of_not_timed h]

/-- With B not timed, A and B at one moment are A alone (log 9). -/
theorem acceptLevels_ab_of_not_timed_b {level : Bool} {s : State} (h : ¬ s.bpu.timed (.b level))
    (other : Bool) : acceptLevels (.ab other level) s = acceptLevels (.a other) s := by
  simp only [acceptLevels, acceptPair,
    acceptB_of_not_timed (mt (timed_b_acceptA other level s).1 h)]

/-! ## Edges (R4 ~ R6, R9) -/

/-- What an accepted level change does to the engine is its belt event. -/
theorem exec_encoderEdgeAccepted (acc : Accepted) (s : State) :
    exec (.encoderEdgeAccepted acc) s = .next (finish (handOver s (acceptLevels acc s))) := rfl

/-- A belt event that changes nothing is ended and no more. -/
theorem exec_encoderEdgeAccepted_of_same {acc : Accepted} {s : State} (h : acceptLevels acc s = s) :
    exec (.encoderEdgeAccepted acc) s = .next (finish s) := by
  rw [exec_encoderEdgeAccepted, h, handOver_of_same rfl rfl]

/-- What a reverse edge makes of the Belt Position Unit (R6, R9). -/
theorem reverseEdge_bpu (s : State) :
    (reverseEdge s).bpu
      = if s.bpu.debt < s.cmu.config.reverseLimit then
          { s.bpu with
            debt := s.bpu.debt + 1
            armed := if s.bpu.debt = 0 then false else s.bpu.armed }
        else s.bpu := by
  unfold reverseEdge
  split
  · dsimp only
    split <;> simp
  · rfl

/-- A reverse edge that does not reach reverse_limit raises no cause (R6). -/
theorem reverseEdge_cmu_of_ne {s : State} (h : s.bpu.debt + 1 ≠ s.cmu.config.reverseLimit) :
    (reverseEdge s).cmu = s.cmu := by
  simp only [reverseEdge, if_neg h]
  split <;> rfl

/-- A reverse edge that reaches reverse_limit raises BELT_REVERSE (R6, R17). -/
theorem reverseEdge_cmu_of_limit {s : State} (h : s.bpu.debt + 1 = s.cmu.config.reverseLimit)
    (engine : s.cmu.engine = .sorting ∨ s.cmu.engine = .draining) :
    (reverseEdge s).cmu = { s.cmu with causes := s.cmu.causes ++ [.beltReverse] } := by
  have below : s.bpu.debt < s.cmu.config.reverseLimit := by omega
  simp [reverseEdge, below, h, reverseLimitHit, raiseCause_cmu, engine]

/-- Settles O8: the reverse edge's effect on the Belt Position Unit, and the cause it raises at the limit,
taken at the end of the event. -/
theorem reverseEdgeRaisesDebt : Obligations.ReverseEdgeRaisesDebt := by
  unfold Obligations.ReverseEdgeRaisesDebt
  intro acc s timed reverse
  have edge := acceptLevels_reverse timed reverse
  refine ⟨_, exec_encoderEdgeAccepted acc s, ?_, fun rest limit engine => ?_, fun below rest => ?_⟩
  · simp [edge, reverseEdge_bpu]
  · have raised := reverseEdge_cmu_of_limit (s := s.setBpu (s.bpu.withLevels acc))
      (by simpa using limit) (by simpa using engine)
    exact finish_of_raised rest engine (by simp [edge, raised]) (by simp [edge]) (by simp [edge])
      (by simp [edge])
  · have none_raised := reverseEdge_cmu_of_ne (s := s.setBpu (s.bpu.withLevels acc))
      (by simpa using below)
    have cmu : (handOver s (acceptLevels acc s)).cmu = s.cmu := by simp [edge, none_raised]
    rw [finish_of_atRest (atRest_congr rest cmu (by simp [edge]) (by simp [edge]) (by simp [edge])), cmu]

/-- Settles O9: a rising edge is the index edge of the state with the level taken, and a falling edge takes
the level and nothing else. -/
theorem indexEdgeComparesOrArms : Obligations.IndexEdgeComparesOrArms := by
  unfold Obligations.IndexEdgeComparesOrArms
  intro s
  constructor
  · intro timed
    have low : s.bpu.fltZ = false := by
      obtain ⟨_, _, new⟩ := timed
      simpa using new
    have edge : acceptLevels (.z true) s = indexEdge (s.setBpu (s.bpu.withLevels (.z true))) := by
      simp [acceptLevels, acceptZ_of_timed timed, low, Bpu.withLevels]
    refine ⟨_, exec_encoderEdgeAccepted _ s, ?_⟩
    simp [edge, indexEdge_bpu]
  · intro timed
    have fall : acceptLevels (.z false) s = s.setBpu { s.bpu with fltZ := false, timZ := none } := by
      simp [acceptLevels, acceptZ_of_timed timed, Bpu.withLevels]
    rw [exec_encoderEdgeAccepted, fall]
    exact congrArg (fun t => Host.Outcome.next (finish t)) (handOver_of_same rfl rfl)

/-! ## The edge filter (R3) -/

/-- With edge_filter 0 a change seen is accepted at once, and otherwise it is timed (R3). -/
theorem acceptAtOnce_eq (acc : Accepted) (s seen : State) (h : seen.cmu = s.cmu) :
    Host.Outcome.next (acceptAtOnce acc seen)
      = if s.cmu.config.edgeFilter = 0 then exec (.encoderEdgeAccepted acc) seen else .next seen := by
  by_cases zero : s.cmu.config.edgeFilter = 0
  · simp only [acceptAtOnce, filterTime, h, zero, if_true]
    rfl
  · simp [acceptAtOnce, filterTime, h, zero]

/-- Settles O10: the branches of what is seen on a channel, and the acceptance of a level no filter is
timing. -/
theorem inputChangesAreFiltered : Obligations.InputChangesAreFiltered := by
  unfold Obligations.InputChangesAreFiltered
  intro level s
  refine ⟨⟨fun same => ?_, fun new reverts => ?_, fun new changed => ?_⟩,
    ⟨fun same => ?_, fun new reverts => ?_, fun new changed => ?_⟩,
    ⟨fun same => ?_, fun new reverts => ?_, fun new changed => ?_⟩,
    fun untimed => ⟨?_, fun other => ?_⟩, fun untimed => ⟨?_, fun other => ?_⟩, fun untimed => ?_⟩
  · exact congrArg Host.Outcome.next (if_pos same)
  · exact congrArg Host.Outcome.next ((if_neg new).trans (if_pos reverts))
  · exact (congrArg Host.Outcome.next ((if_neg new).trans (if_neg changed))).trans
      (acceptAtOnce_eq _ s _ rfl)
  · exact congrArg Host.Outcome.next (if_pos same)
  · exact congrArg Host.Outcome.next ((if_neg new).trans (if_pos reverts))
  · exact (congrArg Host.Outcome.next ((if_neg new).trans (if_neg changed))).trans
      (acceptAtOnce_eq _ s _ rfl)
  · exact congrArg Host.Outcome.next (if_pos same)
  · exact congrArg Host.Outcome.next ((if_neg new).trans (if_pos reverts))
  · exact (congrArg Host.Outcome.next ((if_neg new).trans (if_neg changed))).trans
      (acceptAtOnce_eq _ s _ rfl)
  · exact exec_encoderEdgeAccepted_of_same (acceptLevels_a_of_not_timed untimed)
  · rw [exec_encoderEdgeAccepted, acceptLevels_ab_of_not_timed_a untimed, exec_encoderEdgeAccepted]
  · exact exec_encoderEdgeAccepted_of_same (acceptLevels_b_of_not_timed untimed)
  · rw [exec_encoderEdgeAccepted, acceptLevels_ab_of_not_timed_b untimed, exec_encoderEdgeAccepted]
  · exact exec_encoderEdgeAccepted_of_same (acceptLevels_z_of_not_timed untimed)

end Sys2Proof.Machine
end

section
/-! What the end of an event leaves, forward edges (R5), advances and line triggers (R13 ~ R15), and the
statements about the edges that keep travel and the edge that advances it. -/

namespace Sys2Proof.Machine

/-! ## The end of an event and what it leaves -/

@[simp] theorem joinRq_forwardQueue (x : Report) (s : State) :
    (joinRq x s).lki.forwardQueue = s.lki.forwardQueue := by
  simp only [joinRq, roKick, roChoose, roSendPass, roSendReport, roSend]
  repeat' split
  all_goals simp

@[simp] theorem notice_forwardQueue (n : Notice) (s : State) :
    (notice n s).lki.forwardQueue = s.lki.forwardQueue := by
  simp only [notice]
  repeat' split
  all_goals simp

@[simp] theorem endCommand_forwardQueue (status : Status) (detail : Nat) (data : List Byte) (s : State) :
    (endCommand status detail data s).lki.forwardQueue = s.lki.forwardQueue := by
  simp only [endCommand, respond, admitResponse]
  repeat' split
  all_goals simp

@[simp] theorem endAborted_forwardQueue (s : State) :
    (endAborted s).lki.forwardQueue = s.lki.forwardQueue := by
  simp only [endAborted, endCalibrate, abortTest, endTestOff]
  repeat' split
  all_goals simp

@[simp] theorem endAborted_banks (s : State) :
    (endAborted s).tbs.bankA = s.tbs.bankA ∧ (endAborted s).tbs.bankB = s.tbs.bankB := by
  simp only [endAborted]
  repeat' split
  all_goals simp

@[simp] theorem faultEffects_offset (c : FaultCause) (s : State) :
    (faultEffects c s).liu.offset = s.liu.offset := by
  simp [faultEffects, emptyRing]

/-- The end of an event leaves the line offset, the banks and the forward queue. -/
theorem finish_leaves (s : State) :
    (finish s).liu.offset = s.liu.offset ∧ (finish s).tbs.bankA = s.tbs.bankA
      ∧ (finish s).tbs.bankB = s.tbs.bankB ∧ (finish s).lki.forwardQueue = s.lki.forwardQueue := by
  simp only [finish]
  repeat' split
  all_goals simp [enterFault, runOut]

/-! ## Forward edges (R5) -/

/-- A forward edge with debt held pays one count back, and is nothing else (R5). -/
theorem forwardEdge_of_debt {s : State} (h : 0 < s.bpu.debt) :
    forwardEdge s = s.setBpu { s.bpu with debt := s.bpu.debt - 1 } := if_pos h

/-- A forward edge with no debt held is an advance (R5). -/
theorem forwardEdge_of_no_debt {s : State} (h : s.bpu.debt = 0) : forwardEdge s = advance s :=
  if_neg (Nat.not_lt.2 (Nat.le_of_eq h))

/-- Settles O6: the edge that pays debt back is one write to the Belt Position Unit, which the end of the
event leaves; an illegal transition is counted. -/
theorem edgesThatKeepTravel : Obligations.EdgesThatKeepTravel := by
  unfold Obligations.EdgesThatKeepTravel
  refine ⟨fun acc s timed forward debt => ?_, fun a b s timed => ?_⟩
  · have edge := acceptLevels_forward timed forward
    rw [forwardEdge_of_debt (by simpa using debt)] at edge
    refine ⟨_, exec_encoderEdgeAccepted acc s, ?_⟩
    simp [edge, finish_leaves]
  · have same := handOver_of_same (before := s)
      (s := bump .encoderGlitches
        (s.setBpu { s.bpu with fltA := a, timA := none, fltB := b, timB := none })) rfl rfl
    rw [exec_encoderEdgeAccepted, acceptLevels_illegal timed]
    exact congrArg (fun t => Host.Outcome.next (finish t)) same

/-! ## Line triggers and advances (R5, R7, R11, R13 ~ R15) -/

/-- The line period captured at a trigger is clamped to 1 ~ 16,777,215 (R15). -/
theorem capturePeriod_eq (now : Nat) (before : Option Nat) :
    capturePeriod now before = before.map (fun t₀ => max 1 (min 16777215 (now - t₀))) := by
  cases before <;> rfl

/-- What a line trigger makes of the Belt Position Unit (R13 ~ R15). -/
theorem lineTrigger_bpu (s : State) :
    (lineTrigger s).bpu
      = { s.bpu with
          pitch := 0
          line := s.bpu.line + 1
          triggerPos := s.bpu.travel
          triggerTime := some s.timeBase
          period := s.bpu.triggerTime.map (fun t₀ => max 1 (min 16777215 (s.timeBase - t₀)))
          ltrigPulses := s.bpu.ltrigPulses + (if s.cmu.config.ltrigEnable then 1 else 0) } := by
  simp [lineTrigger, beltTrigger, capturePeriod_eq]

theorem lineTriggerTest_of_reached {s : State} (h : s.cmu.config.linePitch ≤ s.bpu.pitch) :
    lineTriggerTest s = lineTrigger s := if_pos h

theorem lineTriggerTest_of_below {s : State} (h : s.bpu.pitch < s.cmu.config.linePitch) :
    lineTriggerTest s = s := if_neg (Nat.not_le.2 h)

/-- The missing-index test moves the index advance count and the mismatch run only (R11). -/
theorem missingIndexTest_leaves (s : State) :
    (missingIndexTest s).bpu
      = { s.bpu with
          indexAdvances := (missingIndexTest s).bpu.indexAdvances
          mismatchRun := (missingIndexTest s).bpu.mismatchRun } := by
  by_cases missing : s.indexMissing
  · simp [missingIndexTest_of_missing missing, restartIndex]
  · simp [missingIndexTest_of_not_missing missing]

/-- The line trigger's test moves neither travel, the debt, the stall nor the index check (R13). -/
@[simp] theorem lineTriggerTest_leaves (s : State) :
    (lineTriggerTest s).bpu.travel = s.bpu.travel ∧ (lineTriggerTest s).bpu.debt = s.bpu.debt
      ∧ (lineTriggerTest s).bpu.stallFlag = s.bpu.stallFlag
      ∧ (lineTriggerTest s).bpu.stallTimer = s.bpu.stallTimer
      ∧ (lineTriggerTest s).bpu.indexAdvances = s.bpu.indexAdvances
      ∧ (lineTriggerTest s).bpu.mismatchRun = s.bpu.mismatchRun := by
  unfold lineTriggerTest
  split <;> simp [lineTrigger_bpu]

/-- The compares of the Ejection Scheduler leave the Belt Position Unit as the trigger leaves it. -/
theorem advance_bpu (s : State) :
    (advance s).bpu = (lineTriggerTest (missingIndexTest (stepTravel s))).bpu := by
  simp [advance]

/-- An advance moves travel and restarts the stall timer (R5, R7). -/
theorem advance_travel (s : State) :
    (advance s).bpu.travel = s.bpu.travel + 1 ∧ (advance s).bpu.debt = s.bpu.debt
      ∧ (advance s).bpu.stallFlag = false
      ∧ (advance s).bpu.stallTimer = some (s.cmu.config.stallTimeout * 10000) := by
  simp only [advance_bpu, lineTriggerTest_leaves]
  rw [missingIndexTest_leaves]
  simp [stepTravel]

/-- An advance moves the pitch counter, and triggers a line on reaching line_pitch (R13 ~ R15). -/
theorem advance_trigger (s : State) :
    if s.cmu.config.linePitch ≤ s.bpu.pitch + 1 then
      (advance s).bpu.pitch = 0 ∧ (advance s).bpu.line = s.bpu.line + 1
        ∧ (advance s).bpu.triggerPos = s.bpu.travel + 1
        ∧ (advance s).bpu.triggerTime = some s.timeBase
        ∧ (advance s).bpu.period
            = s.bpu.triggerTime.map (fun t₀ => max 1 (min 16777215 (s.timeBase - t₀)))
        ∧ (advance s).bpu.ltrigPulses
            = s.bpu.ltrigPulses + (if s.cmu.config.ltrigEnable then 1 else 0)
    else
      (advance s).bpu.pitch = s.bpu.pitch + 1 ∧ (advance s).bpu.line = s.bpu.line
        ∧ (advance s).bpu.triggerPos = s.bpu.triggerPos
        ∧ (advance s).bpu.triggerTime = s.bpu.triggerTime
        ∧ (advance s).bpu.period = s.bpu.period
        ∧ (advance s).bpu.ltrigPulses = s.bpu.ltrigPulses := by
  have counted : (missingIndexTest (stepTravel s)).bpu.pitch = s.bpu.pitch + 1 := by
    rw [missingIndexTest_leaves]
    rfl
  have config : (missingIndexTest (stepTravel s)).cmu.config = s.cmu.config := by simp
  split
  next reached =>
    rw [advance_bpu, lineTriggerTest_of_reached (by rw [counted, config]; exact reached), lineTrigger_bpu,
      missingIndexTest_leaves]
    simp [stepTravel]
  next below =>
    rw [advance_bpu, lineTriggerTest_of_below (by rw [counted, config]; omega), missingIndexTest_leaves]
    simp [stepTravel]

/-- An advance counts toward the index mark, and a missing mark is a mismatch (R11, R12). -/
theorem advance_index (s : State) :
    if s.bpu.armed = true ∧ s.cmu.config.revCounts ≠ 0
        ∧ s.cmu.config.revCounts + s.cmu.config.revTolerance + 1
            ≤ min 16777215 (s.bpu.indexAdvances + 1) then
      (advance s).bpu.indexAdvances = 0
        ∧ (advance s).bpu.mismatchRun
            = (if 3 ≤ s.bpu.mismatchRun + 1 then 0 else s.bpu.mismatchRun + 1)
    else
      (advance s).bpu.indexAdvances = min 16777215 (s.bpu.indexAdvances + 1)
        ∧ (advance s).bpu.mismatchRun = s.bpu.mismatchRun := by
  simp only [advance_bpu, lineTriggerTest_leaves]
  split
  next missing =>
    rw [missingIndexTest_of_missing (s := stepTravel s) missing]
    simp [restartIndex, stepTravel]
  next present =>
    rw [missingIndexTest_of_not_missing (s := stepTravel s) present]
    simp [stepTravel]

/-- Settles O7: a forward edge without debt is an advance of the state with the level taken. -/
theorem forwardEdgeAdvancesTravel : Obligations.ForwardEdgeAdvancesTravel := by
  unfold Obligations.ForwardEdgeAdvancesTravel
  intro acc s timed forward debt
  have edge := acceptLevels_forward timed forward
  rw [forwardEdge_of_no_debt (by simpa using debt)] at edge
  obtain ⟨travel, debt', stallFlag, stallTimer⟩ := advance_travel (s.setBpu (s.bpu.withLevels acc))
  have trigger := advance_trigger (s.setBpu (s.bpu.withLevels acc))
  have index := advance_index (s.setBpu (s.bpu.withLevels acc))
  refine ⟨_, exec_encoderEdgeAccepted acc s, ?_⟩
  simp only [State.setBpu_bpu, State.setBpu_cmu, State.setBpu_timeBase, Bpu.withLevels_keeps, debt]
    at travel debt' stallFlag stallTimer trigger index
  simp only [finish_keeps, handOver_keeps, edge]
  exact ⟨travel, debt', stallFlag, by simp [Bpu.beltState, debt', stallFlag], stallTimer, trigger, index⟩

end Sys2Proof.Machine
end

section
/-! A valve that stands off: while the belt does not move and no test holds the valve, no operation at the
end of an event turns it ON. The statement about the stall timer rests on it. -/

namespace Sys2Proof.Machine

/-- Valve `i` is not ON, and has nothing to be ON for: the belt does not move and no test holds it (R122). -/
def State.standsOff (s : State) (i : Nat) : Prop :=
  s.bpu.beltState ≠ .moving ∧ s.vlc.tests i = false ∧ (s.valve i).state ≠ .on

variable {s t : State} {i : Nat}

/-! ## The valves' own operations -/

/-- A valve stands off by the belt and the Valve Controller alone. -/
theorem standsOff_congr (h : s.standsOff i) (bpu : t.bpu = s.bpu) (vlc : t.vlc = s.vlc) :
    t.standsOff i := by
  simpa only [State.standsOff, State.valve, bpu, vlc] using h

/-- The ON test leaves no valve ON whose ON condition fails (R122, R124). -/
theorem onTest_state_ne_on (belt : s.bpu.beltState ≠ .moving) (test : s.vlc.tests i = false) :
    ((onTest i s).valve i).state ≠ .on := by
  have off : (s.valve i).onCondition s.bpu.beltState (s.vlc.tests i) = false := by
    simp [Valve.onCondition, belt, test]
  have due (u : State) : (setImageDue u).valve i = u.valve i := rfl
  have inside : (s.valve i).state = .on → i < s.vlc.valves.length := by
    intro on
    by_contra outside
    simp [State.valve, List.getElem?_eq_none (Nat.le_of_not_lt outside), Valve.reset] at on
  unfold onTest
  simp only [off, Bool.false_eq_true, if_false, Bool.false_and]
  split
  next idle => simp [idle]
  next on =>
    simp only [due, State.setValve_valve, inside on, and_self, if_true]
    unfold Valve.enterHoldoff
    split <;> simp
  next held => simp [held]
  next tripped => simp [tripped]
  next cause disabled => simp [disabled]

theorem onTest_standsOff (j : Nat) (h : s.standsOff i) : (onTest j s).standsOff i := by
  obtain ⟨belt, test, state⟩ := h
  refine ⟨by simpa using belt, by simpa [Vlc.tests, (onTest_vlc j s).2] using test, ?_⟩
  by_cases same : j = i
  · subst same
    exact onTest_state_ne_on belt test
  · rwa [onTest_valve_of_ne same]

/-- A fold over steps that each leave a valve off leaves it off. -/
theorem foldl_standsOff {α : Type} {f : State → α → State}
    (hf : ∀ u a, u.standsOff i → (f u a).standsOff i) (l : List α) (h : s.standsOff i) :
    (l.foldl f s).standsOff i := by
  induction l generalizing s with
  | nil => exact h
  | cons a l ih => exact ih (hf s a h)

theorem handOver_standsOff (before : State) (h : s.standsOff i) : (handOver before s).standsOff i := by
  refine foldl_standsOff (fun u j hu => ?_) _ h
  split
  · exact onTest_standsOff j hu
  · exact hu

/-- A change of the valves' records that leaves their states leaves a valve off. -/
theorem setVlc_standsOff {l : List Valve} (same : l.map Valve.state = s.vlc.valves.map Valve.state)
    (h : s.standsOff i) : (s.setVlc { s.vlc with valves := l }).standsOff i := by
  obtain ⟨belt, test, state⟩ := h
  have at_i : (l.getD i Valve.reset).state = (s.vlc.valves.getD i Valve.reset).state := by
    simpa only [List.getD_map] using congrArg (fun m => m.getD i Valve.reset.state) same
  exact ⟨belt, test, fun on => state (at_i ▸ on)⟩

/-- The states of valves whose records change by their place, each leaving its state. -/
theorem map_state_mapFrom {f : Nat → Valve → Valve} (h : ∀ j v, (f j v).state = v.state) (n : Nat)
    (l : List Valve) : (mapFrom f n l).map Valve.state = l.map Valve.state := by
  induction l generalizing n with
  | nil => rfl
  | cons v l ih => simp [mapFrom, h, ih]

theorem raiseCounts_standsOff (first last : Nat) (h : s.standsOff i) :
    (raiseCounts first last s).standsOff i := by
  refine setVlc_standsOff (s := s) (map_state_mapFrom (fun j v => ?_) 0 s.vlc.valves) h
  split <;> rfl

theorem zeroCounts_standsOff (h : s.standsOff i) : (zeroCounts s).standsOff i :=
  setVlc_standsOff (s := s) (by simp) h

/-- The end of a test leaves a valve off, the tested one too (R132, R133). -/
theorem endTestOff_standsOff (status : Status) (data : Nat → State → List Byte) (h : s.standsOff i) :
    (endTestOff status data s).standsOff i := by
  unfold endTestOff
  split
  next => exact h
  next test _ =>
    obtain ⟨belt, _, state⟩ := h
    have ended : (s.setVlc { s.vlc with test := none }).standsOff i := ⟨belt, rfl, state⟩
    exact standsOff_congr (onTest_standsOff test.valve ended) (by simp) (by simp)

/-! ## The ejections (R105 ~ R119) -/

theorem activate_standsOff (j : Nat) (r : EjectionRecord) (h : s.standsOff i) :
    (activate j r s).standsOff i := by
  have raised : (raiseCounts r.valveFirst r.valveLast
      (s.setEjs { s.ejs with ael := s.ejs.ael.set j (some r) })).standsOff i :=
    raiseCounts_standsOff _ _ h
  unfold activate
  dsimp only
  split
  all_goals exact standsOff_congr raised (by simp) (by simp)

theorem activationTest_standsOff (n : Nat) (h : s.standsOff i) : (activationTest n s).standsOff i := by
  induction n generalizing s with
  | zero => exact h
  | succ n ih =>
    unfold activationTest
    split
    next => exact h
    next r rest =>
      split
      · split
        · exact ih h
        · split
          · exact ih (activate_standsOff _ _ h)
          · exact standsOff_congr h (by simp) (by simp)
      · exact h

theorem mergeQueued_standsOff (k : Nat) (q : EjectionRequest) (r : EjectionRecord) (h : s.standsOff i) :
    (mergeQueued k q r s).standsOff i := by
  unfold mergeQueued
  dsimp only
  split
  · split
    · exact activationTest_standsOff _ h
    · exact h
  · exact h

theorem mergeActive_standsOff (j : Nat) (q : EjectionRequest) (r : EjectionRecord) (h : s.standsOff i) :
    (mergeActive j q r s).standsOff i := by
  unfold mergeActive
  dsimp only
  split <;> split
  · exact raiseCounts_standsOff _ _ (raiseCounts_standsOff _ _ h)
  · exact raiseCounts_standsOff _ _ h
  · exact raiseCounts_standsOff _ _ h
  · exact h

theorem makeRecord_standsOff (q : EjectionRequest) (h : s.standsOff i) :
    (makeRecord q s).standsOff i := by
  unfold makeRecord
  split
  · unfold makeLate
    split
    · exact activate_standsOff _ _ h
    · split <;> exact h
  · unfold makeQueued
    split <;> exact h

theorem takeMerge_standsOff (q : EjectionRequest) (h : s.standsOff i) : (takeMerge q s).standsOff i := by
  unfold takeMerge
  split
  · split
    · exact mergeActive_standsOff _ _ _ h
    · exact h
  · split
    · split
      · exact mergeQueued_standsOff _ _ _ h
      · exact h
    · exact makeRecord_standsOff _ h

theorem takeRequest_standsOff (q : EjectionRequest) (h : s.standsOff i) :
    (takeRequest q s).standsOff i := by
  unfold takeRequest
  split
  · exact h
  · split
    · exact takeMerge_standsOff _ h
    · unfold takeRefuse
      split
      · exact h
      · exact makeRecord_standsOff _ h
    · exact makeRecord_standsOff _ h

theorem takeAll_standsOff (h : s.standsOff i) : (takeAll s).standsOff i :=
  foldl_standsOff (s := s.setEjs _)
    (fun u q hu => handOver_standsOff u (takeRequest_standsOff q hu)) _ h

theorem flush_standsOff (h : s.standsOff i) : (flush s).standsOff i :=
  handOver_standsOff _
    (zeroCounts_standsOff (s := (takeAll s).setEjs _) (takeAll_standsOff h))

/-! ## The end of an event -/

theorem faultEffects_standsOff (c : FaultCause) (h : s.standsOff i) :
    (faultEffects c s).standsOff i := by
  have emptied : (abandonVerdicts (emptyAssembler (s.setCmu
      { s.cmu with engine := .fault, cause := some c, causes := s.cmu.causes.erase c }))).standsOff i :=
    standsOff_congr h (by simp) (by simp)
  exact standsOff_congr (flush_standsOff emptied) (by simp [faultEffects]) (by simp [faultEffects])

theorem endAborted_standsOff (h : s.standsOff i) : (endAborted s).standsOff i := by
  unfold endAborted
  split
  · exact h
  · split
    case h_4 =>
      unfold abortTest
      split
      · exact endTestOff_standsOff _ _ h
      · exact standsOff_congr h (by simp) (by simp)
    all_goals exact standsOff_congr h (by simp) (by simp)

theorem enterFault_standsOff (c : FaultCause) (h : s.standsOff i) : (enterFault c s).standsOff i :=
  standsOff_congr (endAborted_standsOff (faultEffects_standsOff c h)) (by simp [enterFault])
    (by simp [enterFault])

/-- The end of an event leaves a valve off. -/
theorem finish_standsOff (h : s.standsOff i) : (finish s).standsOff i := by
  unfold finish
  split
  · split
    · exact enterFault_standsOff _ h
    · exact h
  · split
    · split
      · exact standsOff_congr h (by simp) (by simp)
      · exact h
    · split
      · exact h
      · exact enterFault_standsOff _ h
    · exact h
  all_goals exact h

/-! ## The stall timer -/

/-- A running stall timer expires (R7). -/
theorem stallExpires_of_some {n : Nat} (h : s.bpu.stallTimer = some n) :
    stallExpires s = s.setBpu { s.bpu with stallFlag := true, stallTimer := none } := by
  simp [stallExpires, h]

/-- The ON test of a valve leaves its reference count (R122). -/
theorem onTest_refCount (i : Nat) (s : State) :
    ((onTest i s).valve i).refCount = (s.valve i).refCount := by
  have counted (c : Counter) (u : State) : (bump c u).valve i = u.valve i := rfl
  have due (u : State) : (setImageDue u).valve i = u.valve i := rfl
  have holdoff (n : Nat) (v : Valve) : (v.enterHoldoff n).refCount = v.refCount := by
    unfold Valve.enterHoldoff
    split <;> rfl
  have written (v : Valve) (h : v.refCount = (s.valve i).refCount) :
      ((s.setValve i v).valve i).refCount = (s.valve i).refCount := by
    rw [State.setValve_valve]
    split
    · exact h
    · rfl
  unfold onTest
  dsimp only
  split
  · split
    · exact written _ rfl
    · rfl
  · split
    · rfl
    · exact written _ (holdoff _ _)
  · split
    · exact written _ rfl
    · rfl
  · rfl
  · rfl

/-- The hand-over leaves the reference counts (R114). -/
theorem handOver_refCount (before s : State) {i : Nat} (hi : i < 64) :
    ((handOver before s).valve i).refCount = (s.valve i).refCount := by
  rw [handOver_valve before s hi]
  split
  · exact onTest_refCount i s
  · rfl

/-- A change of the belt state to one that does not move turns a valve off that no test holds (R8). -/
theorem handOver_standsOff_of_belt {before : State} (hi : i < 64)
    (changed : before.bpu.beltState ≠ s.bpu.beltState) (belt : s.bpu.beltState ≠ .moving)
    (test : s.vlc.tests i = false) : (handOver before s).standsOff i := by
  have same : (handOver before s).vlc.test = s.vlc.test := (onTests_prefix _ s 64).2.1
  refine ⟨by simpa using belt, by simpa [Vlc.tests, same] using test, ?_⟩
  rw [handOver_valve before s hi, if_pos (.inl changed)]
  exact onTest_state_ne_on belt test

/-- Settles O11: the expiry makes a MOVING belt STOPPED, the hand-over applies the ON test to every valve,
and the end of the event leaves each of them off. -/
theorem stallExpiryStopsTheBelt : Obligations.StallExpiryStopsTheBelt := by
  unfold Obligations.StallExpiryStopsTheBelt
  intro n s timer
  have expired := stallExpires_of_some timer
  have bpu : (finish (handOver s (stallExpires s))).bpu
      = { s.bpu with stallFlag := true, stallTimer := none } := by simp [expired]
  refine ⟨_, rfl, bpu, fun moving => ?_, fun i hi rest => ?_⟩
  · have stopped : (stallExpires s).bpu.beltState = .stopped := by
      have debt : ¬ 0 < s.bpu.debt := fun h => by simp [Bpu.beltState, h] at moving
      simp [expired, Bpu.beltState, debt]
    refine ⟨?_, fun i hi test => ?_⟩
    · show (finish (handOver s (stallExpires s))).bpu.beltState = .stopped
      simpa using stopped
    · have off : (handOver s (stallExpires s)).standsOff i :=
        handOver_standsOff_of_belt hi (by simp [moving, stopped]) (by simp [stopped])
          (by simpa using test)
      obtain ⟨_, _, state⟩ := finish_standsOff off
      exact state
  · have still : (handOver s (stallExpires s)).atRest :=
      atRest_congr rest (by simp) (by simp) (by simp) (by simp)
    show ((finish (handOver s (stallExpires s))).valve i).refCount = (s.valve i).refCount
    rw [finish_of_atRest still, handOver_refCount s _ hi]
    simp [State.valve]

end Sys2Proof.Machine
end

section
/-! The counter line_triggers: a line trigger advances it, and nothing the Line Intake Unit does at the trigger
or the Command Unit does at its end moves it. For an operation `f` the lemma `f_lineTriggers` says so. -/

namespace Sys2Proof.Machine

/-! ## Counters (R196) -/

/-- A counter's index is its place in the list of counters. -/
theorem Counter.index_eq_ctorIdx (c : Counter) : c.index = c.ctorIdx := by
  cases c <;> rfl

/-- Every counter has an index of its own. -/
theorem Counter.index_injective : Function.Injective Counter.index :=
  Function.LeftInverse.injective (g := Counter.ofNat) fun c => by
    rw [Counter.index_eq_ctorIdx, Counter.ofNat_ctorIdx]

/-- A counter stands when the Report Unit's counters do. -/
theorem counter_congr {s t : State} (h : t.rpu.counters = s.rpu.counters) (c : Counter) :
    t.counter c = s.counter c := by
  rw [State.counter, State.counter, h]

/-- No other block's record holds a counter. -/
@[simp] theorem State.set_counter (s : State) (c : Counter) :
    (∀ x, (s.setBpu x).counter c = s.counter c) ∧ (∀ x, (s.setLiu x).counter c = s.counter c)
      ∧ (∀ x, (s.setCapture x).counter c = s.counter c) ∧ (∀ x, (s.setOas x).counter c = s.counter c)
      ∧ (∀ x, (s.setVdu x).counter c = s.counter c) ∧ (∀ x, (s.setEjs x).counter c = s.counter c)
      ∧ (∀ x, (s.setVlc x).counter c = s.counter c) ∧ (∀ x, (s.setTbs x).counter c = s.counter c)
      ∧ (∀ x, (s.setCmu x).counter c = s.counter c) ∧ (∀ x, (s.setLki x).counter c = s.counter c) :=
  ⟨fun _ => rfl, fun _ => rfl, fun _ => rfl, fun _ => rfl, fun _ => rfl, fun _ => rfl, fun _ => rfl,
    fun _ => rfl, fun _ => rfl, fun _ => rfl⟩

/-- A rise of one counter leaves every other. -/
@[simp] theorem bumpBy_counter_of_ne {c d : Counter} (h : d ≠ c) (n : Nat) (s : State) :
    (bumpBy d n s).counter c = s.counter c := by
  have ne : d.index ≠ c.index := fun e => h (Counter.index_injective e)
  simp [State.counter, bumpBy, List.getElem?_modify_ne _ _ ne]

@[simp] theorem bump_counter_of_ne {c d : Counter} (h : d ≠ c) (s : State) :
    (bump d s).counter c = s.counter c :=
  bumpBy_counter_of_ne h 1 s

/-- A counter that rises by 1 (R196). -/
theorem bump_counter_self (c : Counter) {s : State} (h : c.index < s.rpu.counters.length) :
    (bump c s).counter c = s.counter c + 1 := by
  simp [State.counter, bump, bumpBy, List.getElem?_eq_getElem h]

/-- A frame that joins the Report Queue moves no counter (R190, R192). -/
@[simp] theorem joinRq_counter (x : Report) (c : Counter) (s : State) :
    (joinRq x s).counter c = s.counter c := by
  refine counter_congr ?_ c
  simp only [joinRq, roKick, roChoose, roSendPass, roSendReport, roSend]
  repeat' split
  all_goals rfl

/-- An operation that replaces the Report Queue alone moves no counter. -/
@[simp] theorem setRq_counter (s : State) (q : List Report) (c : Counter) :
    (s.setRpu { s.rpu with rq := q }).counter c = s.counter c := rfl

/-! ## Responses, notices, causes -/

@[simp] theorem admitResponse_lineTriggers (x : Response) (s : State) :
    (admitResponse x s).counter .lineTriggers = s.counter .lineTriggers := by
  simp only [admitResponse]
  repeat' split
  all_goals simp

@[simp] theorem notice_lineTriggers (n : Notice) (s : State) :
    (notice n s).counter .lineTriggers = s.counter .lineTriggers := by
  simp only [notice]
  repeat' split
  all_goals simp

@[simp] theorem endCommand_lineTriggers (status : Status) (detail : Nat) (data : List Byte) (s : State) :
    (endCommand status detail data s).counter .lineTriggers = s.counter .lineTriggers := by
  simp only [endCommand, respond]
  repeat' split
  all_goals simp

@[simp] theorem raiseCause_lineTriggers (c : FaultCause) (s : State) :
    (raiseCause c s).counter .lineTriggers = s.counter .lineTriggers := by
  simp only [raiseCause]
  repeat' split
  all_goals simp

/-! ## Valves -/

@[simp] theorem onTest_lineTriggers (i : Nat) (s : State) :
    (onTest i s).counter .lineTriggers = s.counter .lineTriggers := by
  simp only [onTest, setImageDue, State.setValve]
  repeat' split
  all_goals simp

@[simp] theorem handOver_lineTriggers (before s : State) :
    (handOver before s).counter .lineTriggers = s.counter .lineTriggers := by
  refine foldl_keeps _ (fun t : State => t.counter .lineTriggers) (fun t i => ?_) _ s
  split
  · exact onTest_lineTriggers i t
  · rfl

@[simp] theorem raiseCounts_lineTriggers (first last : Nat) (s : State) :
    (raiseCounts first last s).counter .lineTriggers = s.counter .lineTriggers := by
  simp [raiseCounts]

@[simp] theorem zeroCounts_lineTriggers (s : State) :
    (zeroCounts s).counter .lineTriggers = s.counter .lineTriggers := by
  simp [zeroCounts]

@[simp] theorem endTestOff_lineTriggers (status : Status) (data : Nat → State → List Byte) (s : State) :
    (endTestOff status data s).counter .lineTriggers = s.counter .lineTriggers := by
  simp only [endTestOff]
  repeat' split
  all_goals simp

/-! ## Ejections -/

@[simp] theorem activate_lineTriggers (i : Nat) (r : EjectionRecord) (s : State) :
    (activate i r s).counter .lineTriggers = s.counter .lineTriggers := by
  simp only [activate]
  repeat' split
  all_goals simp

@[simp] theorem countWait_lineTriggers (r : EjectionRecord) (rest : List EjectionRecord) (s : State) :
    (countWait r rest s).counter .lineTriggers = s.counter .lineTriggers := by
  simp only [countWait]
  repeat' split
  all_goals simp

@[simp] theorem activationTest_lineTriggers (n : Nat) (s : State) :
    (activationTest n s).counter .lineTriggers = s.counter .lineTriggers := by
  induction n generalizing s with
  | zero => rfl
  | succ n ih =>
    simp only [activationTest]
    repeat' split
    all_goals simp [ih]

@[simp] theorem mergeQueued_lineTriggers (k : Nat) (q : EjectionRequest) (r : EjectionRecord) (s : State) :
    (mergeQueued k q r s).counter .lineTriggers = s.counter .lineTriggers := by
  simp only [mergeQueued, testHead]
  repeat' split
  all_goals simp

@[simp] theorem mergeActive_lineTriggers (i : Nat) (q : EjectionRequest) (r : EjectionRecord) (s : State) :
    (mergeActive i q r s).counter .lineTriggers = s.counter .lineTriggers := by
  simp only [mergeActive]
  repeat' split
  all_goals simp

@[simp] theorem makeRecord_lineTriggers (q : EjectionRequest) (s : State) :
    (makeRecord q s).counter .lineTriggers = s.counter .lineTriggers := by
  simp only [makeRecord, makeLate, makeQueued]
  repeat' split
  all_goals simp

@[simp] theorem takeRequest_lineTriggers (q : EjectionRequest) (s : State) :
    (takeRequest q s).counter .lineTriggers = s.counter .lineTriggers := by
  simp only [takeRequest, takeMerge, takeRefuse]
  repeat' split
  all_goals simp

@[simp] theorem takeAll_lineTriggers (s : State) :
    (takeAll s).counter .lineTriggers = s.counter .lineTriggers :=
  foldl_keeps _ (fun t : State => t.counter .lineTriggers) (fun t q => by simp [requestEvent]) _
    (s.setEjs _)

@[simp] theorem flush_lineTriggers (s : State) :
    (flush s).counter .lineTriggers = s.counter .lineTriggers := by
  simp [flush, dropRecords]

/-! ## Calibration and tables -/

@[simp] theorem endCalibrate_lineTriggers (status : Status) (detail : Nat) (s : State) :
    (endCalibrate status detail s).counter .lineTriggers = s.counter .lineTriggers := by
  simp [endCalibrate]

@[simp] theorem skipLine_lineTriggers (s : State) :
    (skipLine s).counter .lineTriggers = s.counter .lineTriggers := by
  simp only [skipLine]
  repeat' split
  all_goals simp

@[simp] theorem skipLines_lineTriggers (n : Nat) (s : State) :
    (skipLines n s).counter .lineTriggers = s.counter .lineTriggers := by
  induction n generalizing s with
  | zero => rfl
  | succ n ih => simp [skipLines, ih]

@[simp] theorem calibrateIfDone_lineTriggers (s : State) :
    (calibrateIfDone s).counter .lineTriggers = s.counter .lineTriggers := by
  simp only [calibrateIfDone, completeCalibrate]
  repeat' split
  all_goals simp

@[simp] theorem captureSlot_lineTriggers (slot : RingSlot) (s : State) :
    (captureSlot slot s).counter .lineTriggers = s.counter .lineTriggers := by
  simp only [captureSlot, captureOwn]
  repeat' split
  all_goals simp

@[simp] theorem swapAtQuietPoint_lineTriggers (s : State) :
    (swapAtQuietPoint s).counter .lineTriggers = s.counter .lineTriggers := by
  simp only [swapAtQuietPoint, swapQuietly, exchangeBanks]
  repeat' split
  all_goals simp

@[simp] theorem swapAtDeadline_lineTriggers (s : State) :
    (swapAtDeadline s).counter .lineTriggers = s.counter .lineTriggers := by
  simp only [swapAtDeadline, swapForced, exchangeBanks, markMixed]
  repeat' split
  all_goals simp

@[simp] theorem swapCount_lineTriggers (s : State) :
    (swapCount s).counter .lineTriggers = s.counter .lineTriggers :=
  counter_congr (by simp) _

@[simp] theorem lineBoundary_lineTriggers (s : State) :
    (lineBoundary s).counter .lineTriggers = s.counter .lineTriggers := by
  simp [lineBoundary]

/-! ## Assembly -/

@[simp] theorem closeAllObjects_lineTriggers (s : State) :
    (closeAllObjects s).counter .lineTriggers = s.counter .lineTriggers :=
  counter_congr (by simp) _

@[simp] theorem takeCloseAll_lineTriggers (s : State) :
    (takeCloseAll s).counter .lineTriggers = s.counter .lineTriggers :=
  counter_congr (by simp) _

@[simp] theorem applyLostLine_lineTriggers (s : State) :
    (applyLostLine s).counter .lineTriggers = s.counter .lineTriggers := by
  simp only [applyLostLine, emptyPlr]
  repeat' split
  all_goals simp

@[simp] theorem applyLostLines_lineTriggers (n : Nat) (s : State) :
    (applyLostLines n s).counter .lineTriggers = s.counter .lineTriggers := by
  induction n generalizing s with
  | zero => rfl
  | succ n ih => simp [applyLostLines, ih]

/-! ## Intake -/

@[simp] theorem emptyRing_lineTriggers (s : State) :
    (emptyRing s).counter .lineTriggers = s.counter .lineTriggers :=
  counter_congr (by simp) _

@[simp] theorem freeSlot_lineTriggers (index : Nat) (s : State) :
    (freeSlot index s).counter .lineTriggers = s.counter .lineTriggers :=
  counter_congr (by simp) _

@[simp] theorem setRingSlot_lineTriggers (slot : RingSlot) (s : State) :
    (setRingSlot slot s).counter .lineTriggers = s.counter .lineTriggers :=
  counter_congr (by simp) _

@[simp] theorem takeSlot_lineTriggers (slot : RingSlot) (s : State) :
    (takeSlot slot s).counter .lineTriggers = s.counter .lineTriggers := by
  simp only [takeSlot, takeRow, countClassified]
  repeat' split
  all_goals simp

@[simp] theorem deliverOne_lineTriggers (s : State) :
    (deliverOne s).counter .lineTriggers = s.counter .lineTriggers := by
  simp only [deliverOne, deliverSlot]
  repeat' split
  all_goals simp

@[simp] theorem deliver_lineTriggers (s : State) :
    (deliver s).counter .lineTriggers = s.counter .lineTriggers := by
  unfold deliver
  generalize s.liu.busy.length = n
  induction n generalizing s with
  | zero => rfl
  | succ n ih => simp [deliverN, ih]

@[simp] theorem enterHunt1_lineTriggers (cause : HuntCause) (offset : LineNo) (s : State) :
    (enterHunt1 cause offset s).counter .lineTriggers = s.counter .lineTriggers := by
  simp only [enterHunt1, leaveLocked, requestCloseAll]
  repeat' split
  all_goals simp

@[simp] theorem syncLoss_lineTriggers (s : State) :
    (syncLoss s).counter .lineTriggers = s.counter .lineTriggers := by
  simp only [syncLoss, lossEvent]
  repeat' split
  all_goals simp

@[simp] theorem settle_lineTriggers (x : RingSlot) (s : State) :
    (settle x s).counter .lineTriggers = s.counter .lineTriggers := by
  simp only [settle, syncPartial]
  repeat' split
  all_goals simp

@[simp] theorem settleN_lineTriggers (n : Nat) (s : State) :
    (settleN n s).counter .lineTriggers = s.counter .lineTriggers := by
  induction n generalizing s with
  | zero => rfl
  | succ n ih =>
    rw [settleN, ih, settleOldest]
    split
    · simp
    · rfl

@[simp] theorem huntAdvance_lineTriggers (s : State) :
    (huntAdvance s).counter .lineTriggers = s.counter .lineTriggers := by
  simp only [huntAdvance, huntTimeout, enterHunt2, enterFailed]
  repeat' split
  all_goals simp

@[simp] theorem allocate_lineTriggers (s : State) :
    (allocate s).counter .lineTriggers = s.counter .lineTriggers := by
  simp only [allocate]
  repeat' split
  all_goals simp

@[simp] theorem intakeTrigger_lineTriggers (s : State) :
    (intakeTrigger s).counter .lineTriggers = s.counter .lineTriggers := by
  simp only [intakeTrigger, settleDue]
  repeat' split
  all_goals simp

/-! ## The end of an event -/

@[simp] theorem endAborted_lineTriggers (s : State) :
    (endAborted s).counter .lineTriggers = s.counter .lineTriggers := by
  simp only [endAborted, abortTest]
  repeat' split
  all_goals simp

@[simp] theorem faultEffects_lineTriggers (c : FaultCause) (s : State) :
    (faultEffects c s).counter .lineTriggers = s.counter .lineTriggers := by
  simp [faultEffects, emptyAssembler, abandonVerdicts]

@[simp] theorem finish_lineTriggers (s : State) :
    (finish s).counter .lineTriggers = s.counter .lineTriggers := by
  simp only [finish, enterFault, runOut]
  repeat' split
  all_goals simp

/-- Settles O13: a trigger is the belt's part of it, which advances line_triggers, and the intake's part,
which leaves the belt and that counter. -/
theorem lineTriggerAtLinePitch : Obligations.LineTriggerAtLinePitch := by
  unfold Obligations.LineTriggerAtLinePitch
  intro s
  constructor
  · intro reached
    refine ⟨_, congrArg (fun t => Host.Outcome.next (finish t)) (lineTriggerTest_of_reached reached), ?_,
      fun length => ?_⟩
    · simp only [finish_keeps, lineTrigger_bpu]
    · have inside : Counter.lineTriggers.index < s.rpu.counters.length := by rw [length]; decide
      simp only [finish_lineTriggers, lineTrigger, intakeTrigger_lineTriggers, beltTrigger]
      exact bump_counter_self .lineTriggers inside
  · intro below rest
    show Host.Outcome.next (finish (lineTriggerTest s)) = .next s
    rw [lineTriggerTest_of_below below, finish_of_atRest rest]

end Sys2Proof.Machine
end

section
/-! The line in assembly: the operations of the Verdict Unit, the Table Store and the Object Assembler that
leave it, though they change other registers of the assembler. For an operation `f` the lemma `f_line` says so. -/

namespace Sys2Proof.Machine

@[simp] theorem closingMove_line (s : State) :
    (closingMove s).oas.lineInAssembly = s.oas.lineInAssembly := by
  unfold closingMove
  repeat' split
  all_goals rfl

@[simp] theorem pumpN_line (n : Nat) (s : State) :
    (pumpN n s).oas.lineInAssembly = s.oas.lineInAssembly := by
  induction n generalizing s with
  | zero => rfl
  | succ n ih => simp [pumpN, ih]

@[simp] theorem pump_line (s : State) : (pump s).oas.lineInAssembly = s.oas.lineInAssembly :=
  pumpN_line _ s

@[simp] theorem evaluationCompletes_line (s : State) :
    (evaluationCompletes s).oas.lineInAssembly = s.oas.lineInAssembly := by
  unfold evaluationCompletes
  split
  · rfl
  · simp

@[simp] theorem swapAtDeadline_line (s : State) :
    (swapAtDeadline s).oas.lineInAssembly = s.oas.lineInAssembly := by
  simp only [swapAtDeadline, swapForced, markMixed]
  repeat' split
  all_goals simp

@[simp] theorem lineBoundary_line (s : State) :
    (lineBoundary s).oas.lineInAssembly = s.oas.lineInAssembly := by
  simp [lineBoundary]

@[simp] theorem closeObject_line (mark : ObjectFlags → ObjectFlags) (i : Nat) (s : State) :
    (closeObject mark i s).oas.lineInAssembly = s.oas.lineInAssembly := by
  unfold closeObject
  split
  · rfl
  · simp [State.setSlot]

@[simp] theorem closeAllObjects_line (s : State) :
    (closeAllObjects s).oas.lineInAssembly = s.oas.lineInAssembly := by
  unfold closeAllObjects
  exact foldl_keeps _ (fun t : State => t.oas.lineInAssembly) (fun t i => closeObject_line _ i t) _ s

@[simp] theorem closeAllRequest_line (s : State) :
    (closeAllRequest s).oas.lineInAssembly = s.oas.lineInAssembly := by
  simp [closeAllRequest]

@[simp] theorem takeCloseAll_line (s : State) :
    (takeCloseAll s).oas.lineInAssembly = s.oas.lineInAssembly := by
  unfold takeCloseAll
  split
  · exact closeAllRequest_line s
  · rfl

@[simp] theorem requestCloseAll_line (s : State) :
    (requestCloseAll s).oas.lineInAssembly = s.oas.lineInAssembly := by
  unfold requestCloseAll
  split
  · exact takeCloseAll_line _
  · rfl

@[simp] theorem applyLostLine_line (s : State) :
    (applyLostLine s).oas.lineInAssembly = s.oas.lineInAssembly := by
  simp only [applyLostLine, emptyPlr]
  split <;> simp

@[simp] theorem applyLostLines_line (n : Nat) (s : State) :
    (applyLostLines n s).oas.lineInAssembly = s.oas.lineInAssembly := by
  induction n generalizing s with
  | zero => rfl
  | succ n ih => simp [applyLostLines, ih]

/-- A line that has been applied is no longer in assembly (R57). -/
@[simp] theorem applyLine_line (l : LineInAssembly) (s : State) :
    (applyLine l s).oas.lineInAssembly = none := rfl

@[simp] theorem abandonOpen_line (s : State) :
    (abandonOpen s).oas.lineInAssembly = s.oas.lineInAssembly := by
  simp [abandonOpen]

@[simp] theorem flushDrain_line (s : State) :
    (flushDrain s).oas.lineInAssembly = s.oas.lineInAssembly := by
  simp [flushDrain, abandonClosing]

@[simp] theorem abortExecuting_line (s : State) :
    (abortExecuting s).oas.lineInAssembly = s.oas.lineInAssembly := by
  unfold abortExecuting
  split <;> simp

end Sys2Proof.Machine
end

section
/-! The conservation of the ring slots (R21, R22, R30): what the law says of the slots, and how each operation
of the Line Intake Unit keeps it. For an operation `f` the lemma `f_ringLaw` says so. -/

namespace Sys2Proof.Machine

variable {s t : State} {i : Nat} {x y : RingSlot}

/-! ## What the law reads, and what it says -/

/-- The law is read from the ring and the line in assembly. -/
theorem ringLaw_congr (h : s.ringLaw) (liu : t.liu = s.liu)
    (line : t.oas.lineInAssembly = s.oas.lineInAssembly) : t.ringLaw := by
  rw [State.ringLaw, liu, line]
  exact h

/-- Both branches of a test keep the law. -/
theorem ite_ringLaw {c : Prop} [Decidable c] (ht : s.ringLaw) (hu : t.ringLaw) :
    (if c then s else t).ringLaw := by
  split
  · exact ht
  · exact hu

/-- No two slots that are not FREE have one index (R21). -/
theorem State.ringLaw.nodup (h : s.ringLaw) : (s.liu.busy.map RingSlot.index).Nodup := by
  obtain ⟨conserved, _⟩ := h
  exact (conserved.nodup_iff.2 (by decide)).of_append_left

/-- A slot that is not FREE is known by its index. -/
theorem State.ringLaw.slot_ext (h : s.ringLaw) (hx : x ∈ s.liu.busy) (hy : y ∈ s.liu.busy)
    (same : x.index = y.index) : x = y :=
  List.inj_on_of_nodup_map h.nodup hx hy same

/-- The line in assembly stands in no slot of another state (R56). -/
theorem State.ringLaw.slot_ne (h : s.ringLaw) (hx : x ∈ s.liu.busy) (state : x.state ≠ .assembling) :
    ∀ l ∈ s.oas.lineInAssembly, l.slot ≠ x.index := by
  obtain ⟨_, line⟩ := id h
  intro l hl same
  obtain ⟨y, hy, index, assembling⟩ := line l hl
  exact state (h.slot_ext hx hy (same.symm.trans index.symm) ▸ assembling)

/-- With no slot ASSEMBLING there is no line in assembly (R56). -/
theorem State.ringLaw.line_eq_none (h : s.ringLaw)
    (none_assembling : ∀ y ∈ s.liu.busy, y.state ≠ .assembling) : s.oas.lineInAssembly = none := by
  obtain ⟨_, line⟩ := h
  refine Option.eq_none_iff_forall_not_mem.2 fun l hl => ?_
  obtain ⟨y, hy, _, assembling⟩ := line l hl
  exact none_assembling y hy assembling

/-! ## The elementary changes of the ring -/

/-- A change of each slot that leaves its index, and leaves it ASSEMBLING where it is so. -/
theorem setLiu_map_ringLaw {l : Liu} {f : RingSlot → RingSlot} (h : s.ringLaw)
    (index : ∀ y, (f y).index = y.index) (assembling : ∀ y, y.state = .assembling → f y = y)
    (busy : l.busy = s.liu.busy.map f) (free : l.freeOrder = s.liu.freeOrder) : (s.setLiu l).ringLaw := by
  obtain ⟨conserved, line⟩ := h
  refine ⟨?_, fun m hm => ?_⟩
  · simpa [busy, free, Function.comp_def, index] using conserved
  · obtain ⟨y, hy, slot, state⟩ := line m hm
    exact ⟨y, by simpa [busy] using ⟨y, hy, assembling y state⟩, slot, state⟩

/-- A slot replaced by its index, another one than the slot of the line in assembly. -/
theorem setRingSlot_ringLaw (h : s.ringLaw) (other : ∀ l ∈ s.oas.lineInAssembly, l.slot ≠ x.index) :
    (setRingSlot x s).ringLaw := by
  obtain ⟨conserved, line⟩ := h
  refine ⟨?_, fun l hl => ?_⟩
  · have index (y : RingSlot) : (if y.index = x.index then x else y).index = y.index := by
      split
      next same => exact same.symm
      next => rfl
    simpa [setRingSlot, Function.comp_def, index] using conserved
  · obtain ⟨y, hy, slot, state⟩ := line l hl
    have ne : y.index ≠ x.index := slot ▸ other l hl
    exact ⟨y, List.mem_map.2 ⟨y, hy, if_neg ne⟩, slot, state⟩

/-- A slot that is not FREE, and in which no line is in assembly, becomes FREE (R30). -/
theorem freeSlot_ringLaw (h : s.ringLaw) (held : i ∈ s.liu.busy.map RingSlot.index)
    (other : ∀ l ∈ s.oas.lineInAssembly, l.slot ≠ i) : (freeSlot i s).ringLaw := by
  have rest : (s.liu.busy.filter (fun y => decide (y.index ≠ i))).map RingSlot.index
      = (s.liu.busy.map RingSlot.index).erase i := by
    rw [h.nodup.erase_eq_filter, List.filter_map]
    congr 1
    exact List.filter_congr fun y _ => by simp [bne, beq_eq_decide]
  obtain ⟨conserved, line⟩ := h
  refine ⟨?_, fun l hl => ?_⟩
  · calc (s.liu.busy.filter (fun y => decide (y.index ≠ i))).map RingSlot.index ++ (s.liu.freeOrder ++ [i])
      _ = (s.liu.busy.map RingSlot.index).erase i ++ (s.liu.freeOrder ++ [i]) := by rw [rest]
      _ = ((s.liu.busy.map RingSlot.index).erase i ++ s.liu.freeOrder) ++ [i] := by rw [List.append_assoc]
      List.Perm _ (i :: ((s.liu.busy.map RingSlot.index).erase i ++ s.liu.freeOrder)) :=
        List.perm_append_singleton _ _
      List.Perm _ (s.liu.busy.map RingSlot.index ++ s.liu.freeOrder) :=
        ((List.perm_cons_erase held).symm.append_right _)
      List.Perm _ [0, 1, 2, 3, 4, 5, 6, 7] := conserved
  · obtain ⟨y, hy, slot, state⟩ := line l hl
    have ne : y.index ≠ i := slot ▸ other l hl
    exact ⟨y, List.mem_filter.2 ⟨hy, decide_eq_true ne⟩, slot, state⟩

/-- The ring emptied is eight FREE slots, with no line in assembly (R21). -/
theorem emptyRing_ringLaw (s : State) : (emptyRing s).ringLaw := by
  constructor
  · simp [emptyRing, Liu.reset]
  · simp [emptyRing]

/-- The slot taken is ASSEMBLING and the line in assembly stands in it (R56). -/
theorem takeRow_ringLaw (h : s.ringLaw) (hx : x ∈ s.liu.busy) : (takeRow x s).ringLaw := by
  have free : (s.setOas { s.oas with lineInAssembly := none }).ringLaw := ⟨h.1, nofun⟩
  obtain ⟨conserved, _⟩ := setRingSlot_ringLaw (x := { x with state := .assembling }) free nofun
  refine ⟨by simpa [takeRow, setRingSlot] using conserved, fun l hl => ?_⟩
  cases hl
  refine ⟨{ x with state := .assembling }, ?_, rfl, rfl⟩
  simpa [takeRow, setRingSlot] using ⟨x, hx, fun ne => absurd rfl ne⟩

/-- The first of the free order is allocated (R22). -/
theorem allocate_ringLaw (h : s.ringLaw) : (allocate s).ringLaw := by
  unfold allocate
  split
  next => exact h
  next i rest free =>
    obtain ⟨conserved, line⟩ := h
    refine ⟨?_, fun l hl => ?_⟩
    · simpa [newSlot, free] using conserved
    · obtain ⟨y, hy, slot⟩ := line l hl
      exact ⟨y, List.mem_append_left _ hy, slot⟩

/-! ## Delivery (R29, R30, R56, R58) -/

/-- A slot to be delivered is the oldest and has settled, with none ASSEMBLING (R29). -/
theorem deliverable_eq_some (h : deliverable s = some x) :
    x ∈ s.liu.busy ∧ x.settled = true ∧ ∀ y ∈ s.liu.busy, y.state ≠ .assembling := by
  unfold deliverable at h
  split at h
  next => cases h
  next z rest busy =>
    split at h
    next ready =>
      cases h
      simp only [Bool.and_eq_true, List.all_eq_true, decide_eq_true_eq] at ready
      exact ⟨by simp [busy], ready⟩
    next => cases h

theorem takeSlot_ringLaw (h : s.ringLaw) (hx : x ∈ s.liu.busy) (line : s.oas.lineInAssembly = none) :
    (takeSlot x s).ringLaw := by
  have held : x.index ∈ s.liu.busy.map RingSlot.index := List.mem_map_of_mem hx
  have signalled : (lineBoundary s).ringLaw := ringLaw_congr h (by simp) (by simp)
  unfold takeSlot
  dsimp only
  split
  · exact freeSlot_ringLaw signalled (by simpa using held) (by simp [line])
  · split
    · exact freeSlot_ringLaw (ringLaw_congr signalled (by simp) (by simp)) (by simpa using held)
        (by simp [line])
    · exact takeRow_ringLaw signalled (by simpa using hx)

theorem deliverSlot_ringLaw (h : s.ringLaw) (due : deliverable s = some x) : (deliverSlot x s).ringLaw := by
  obtain ⟨hx, _, none_assembling⟩ := deliverable_eq_some due
  have line := h.line_eq_none none_assembling
  have freed : (freeSlot x.index s).ringLaw :=
    freeSlot_ringLaw h (List.mem_map_of_mem hx) (by simp [line])
  unfold deliverSlot
  split
  · exact takeSlot_ringLaw h hx line
  · exact ringLaw_congr freed (by simp) (by simp)
  · exact freed
  · exact h
  · exact h

theorem deliverOne_ringLaw (h : s.ringLaw) : (deliverOne s).ringLaw := by
  unfold deliverOne
  split
  next due => exact deliverSlot_ringLaw h due
  next => exact h

theorem deliverN_ringLaw (n : Nat) (h : s.ringLaw) : (deliverN n s).ringLaw := by
  induction n generalizing s with
  | zero => exact h
  | succ n ih => exact ih (deliverOne_ringLaw h)

theorem deliver_ringLaw (h : s.ringLaw) : (deliver s).ringLaw := deliverN_ringLaw _ h

/-! ## Synchronisation (R26 ~ R36) -/

theorem notice_ringLaw (n : Notice) (h : s.ringLaw) : (notice n s).ringLaw :=
  ringLaw_congr h (by simp) (by simp)

theorem raiseCause_ringLaw (c : FaultCause) (h : s.ringLaw) : (raiseCause c s).ringLaw :=
  ringLaw_congr h (by simp) (by simp)

/-- Slots marked NOSYNC: an ASSEMBLING one has been delivered and is not marked (R31). -/
theorem enterHunt1_ringLaw (cause : HuntCause) (offset : LineNo) (h : s.ringLaw) :
    (enterHunt1 cause offset s).ringLaw := by
  have marked : (s.setLiu
      { s.liu with
        sync := .hunt1
        consecutiveLoss := 0
        completeRun := 0
        huntCount := 0
        realignPending := false
        offset := offset
        busy := s.liu.busy.map markNosync }).ringLaw :=
    setLiu_map_ringLaw (f := markNosync) h (fun y => by unfold markNosync; split <;> rfl)
      (fun _ assembling => if_pos assembling) rfl rfl
  exact ringLaw_congr marked (by simp [enterHunt1]) (by simp [enterHunt1])

theorem syncLoss_ringLaw (h : s.ringLaw) : (syncLoss s).ringLaw := by
  unfold syncLoss
  split
  · exact ite_ringLaw (enterHunt1_ringLaw _ _ h) h
  · exact h
  · exact h
  · exact h

theorem syncPartial_ringLaw (h : s.ringLaw) : (syncPartial s).ringLaw := by
  unfold syncPartial
  split <;> exact h

theorem huntComplete_ringLaw (h : s.ringLaw) : (huntComplete s).ringLaw :=
  ite_ringLaw (notice_ringLaw (s := s.setLiu _) _ h) h

theorem syncComplete_ringLaw (h : s.ringLaw) : (syncComplete s).ringLaw := by
  unfold syncComplete
  split
  · exact h
  · exact huntComplete_ringLaw h
  · exact huntComplete_ringLaw h
  · exact h

theorem enterHunt2_ringLaw (h : s.ringLaw) : (enterHunt2 s).ringLaw :=
  notice_ringLaw (s := s.setLiu _) _ h

theorem enterFailed_ringLaw (s : State) : (enterFailed s).ringLaw :=
  raiseCause_ringLaw _ (notice_ringLaw _ (emptyRing_ringLaw _))

theorem huntTimeout_ringLaw (h : s.ringLaw) : (huntTimeout s).ringLaw := by
  unfold huntTimeout
  refine ite_ringLaw ?_ h
  split
  · exact enterHunt2_ringLaw h
  · exact enterFailed_ringLaw s
  · exact h
  · exact h

theorem huntAdvance_ringLaw (h : s.ringLaw) : (huntAdvance s).ringLaw := by
  unfold huntAdvance
  split
  · exact huntTimeout_ringLaw h
  · exact huntTimeout_ringLaw h
  · exact h
  · exact h

/-! ## The deadline and the trigger (R22, R27, R28) -/

/-- A FILLING slot settles: the line in assembly stands in another one (R27). -/
theorem settle_ringLaw (h : s.ringLaw) (hx : x ∈ s.liu.busy) (filling : x.state = .filling) :
    (settle x s).ringLaw := by
  have other := h.slot_ne hx (by simp [filling])
  refine ite_ringLaw (syncPartial_ringLaw (s := bump .linesPartial (setRingSlot _ s)) ?_)
    (syncLoss_ringLaw (s := bump .linesLost (setRingSlot _ s)) ?_)
  all_goals exact setRingSlot_ringLaw h other

theorem settleOldest_ringLaw (h : s.ringLaw) : (settleOldest s).ringLaw := by
  unfold settleOldest
  split
  next y found =>
    have due := List.find?_some found
    simp only [Bool.and_eq_true, decide_eq_true_eq] at due
    exact deliver_ringLaw (settle_ringLaw h (List.mem_of_find?_eq_some found) due.2)
  next => exact h

theorem settleN_ringLaw (n : Nat) (h : s.ringLaw) : (settleN n s).ringLaw := by
  induction n generalizing s with
  | zero => exact h
  | succ n ih => exact ih (settleOldest_ringLaw h)

/-- The slots that are due are FILLING, and are marked (R27). -/
theorem settleDue_ringLaw (h : s.ringLaw) : (settleDue s).ringLaw := by
  refine settleN_ringLaw _ (setLiu_map_ringLaw (f := markDue s.cmu.config.latencyLines s.bpu.line) h
    (fun y => ?_) (fun y assembling => ?_) rfl rfl)
  · unfold markDue
    split <;> rfl
  · simp [markDue, assembling]

theorem intakeTrigger_ringLaw (h : s.ringLaw) : (intakeTrigger s).ringLaw := by
  have settled := settleDue_ringLaw h
  have hunted : (if s.liu.sync = .locked then settleDue s else huntAdvance (settleDue s)).ringLaw :=
    ite_ringLaw settled (huntAdvance_ringLaw settled)
  exact ite_ringLaw (ite_ringLaw (allocate_ringLaw hunted) hunted) h

/-! ## LINE frames (R23 ~ R26, R35) -/

/-- Realignment empties the received sets of FILLING slots only (R35). -/
theorem realign_ringLaw (m : LineNo) (h : s.ringLaw) : (realign m s).ringLaw := by
  refine ite_ringLaw (setLiu_map_ringLaw h (fun y => ?_) (fun y assembling => ?_) rfl rfl) h
  · split <;> rfl
  · simp [assembling]

/-- A FILLING slot takes a window part: the line in assembly stands in another one (R25, R26). -/
theorem fillSlot_ringLaw (part : List (Nat × Sample)) (h : s.ringLaw) (hx : x ∈ s.liu.busy)
    (filling : x.state = .filling) : (fillSlot part x s).ringLaw := by
  have other := h.slot_ne hx (by simp [filling])
  refine ite_ringLaw
    (deliver_ringLaw (syncComplete_ringLaw (s := setRingSlot _ (bumpBy .duplicateColumns _ s)) ?_)) ?_
  all_goals exact setRingSlot_ringLaw (s := bumpBy .duplicateColumns _ s) h other

theorem matchFrame_ringLaw (m : LineNo) (part : List (Nat × Sample)) (h : s.ringLaw) :
    (matchFrame m part s).ringLaw := by
  unfold matchFrame
  refine ite_ringLaw (syncLoss_ringLaw (s := bump .framesEarly s) h) ?_
  split
  next y found =>
    have matched := List.find?_some found
    simp only [Bool.and_eq_true, decide_eq_true_eq] at matched
    exact fillSlot_ringLaw part h (List.mem_of_find?_eq_some found) matched.2
  next => exact h

theorem intakeFrame_ringLaw (payload : List Byte) (h : s.ringLaw) : (intakeFrame payload s).ringLaw :=
  ite_ringLaw (matchFrame_ringLaw _ _ (realign_ringLaw _ h)) h

/-! ## The end of a line's assembly (R57, R76, R78) -/

/-- The line in assembly leaves its slot, which becomes FREE. -/
theorem freeSlot_line_ringLaw {l : LineInAssembly} (h : s.ringLaw) (line : s.oas.lineInAssembly = some l)
    (liu : t.liu = s.liu) (ended : t.oas.lineInAssembly = none) : (freeSlot l.slot t).ringLaw := by
  obtain ⟨conserved, assembling⟩ := h
  obtain ⟨y, hy, slot, _⟩ := assembling l line
  refine freeSlot_ringLaw ⟨by rw [liu]; exact conserved, by simp [ended]⟩ ?_ (by simp [ended])
  rw [liu, ← slot]
  exact List.mem_map_of_mem hy

theorem assemblyCompletes_ringLaw (h : s.ringLaw) : (assemblyCompletes s).ringLaw := by
  unfold assemblyCompletes
  split
  next => exact h
  next l line => exact deliver_ringLaw (freeSlot_line_ringLaw h line (by simp) (by simp))

theorem abandonLine_ringLaw (h : s.ringLaw) : (abandonLine s).ringLaw := by
  unfold abandonLine
  split
  next => exact h
  next l line => exact freeSlot_line_ringLaw h line rfl rfl

theorem closeAllFirst_ringLaw (h : s.ringLaw) : (closeAllFirst s).ringLaw :=
  ite_ringLaw
    (deliver_ringLaw (ringLaw_congr (abandonLine_ringLaw h) (by simp) (by simp))) h

end Sys2Proof.Machine
end

section
/-! The conservation of the ring slots through the changes of engine state, the belt, the commands and the
link, and through every row of the table to the step. -/

namespace Sys2Proof.Machine

variable {s t : State}

/-! ## Engine states (R17, R38, R170 ~ R177) -/

/-- FAULT entry empties the ring (R175). -/
theorem enterFault_ringLaw (c : FaultCause) (s : State) : (enterFault c s).ringLaw := by
  have emptied : (faultEffects c s).ringLaw := emptyRing_ringLaw _
  exact ringLaw_congr emptied (by simp [enterFault]) (by simp [enterFault])

theorem takeCause_ringLaw (c : FaultCause) (h : s.ringLaw) : (takeCause c s).ringLaw :=
  ite_ringLaw (enterFault_ringLaw c s) h

theorem finish_ringLaw (h : s.ringLaw) : (finish s).ringLaw := by
  have ran_out : (runOut s).ringLaw := ringLaw_congr h (by simp) (by simp)
  unfold finish
  split
  · split
    · exact enterFault_ringLaw _ s
    · exact h
  · split
    · exact ite_ringLaw ran_out h
    · exact ite_ringLaw h (enterFault_ringLaw _ s)
    · exact h
  all_goals exact h

theorem startSorting_ringLaw (h : s.ringLaw) : (startSorting s).ringLaw :=
  deliver_ringLaw (s := (s.setEngine .sorting).setOas _) h

theorem stopSorting_ringLaw (tag : Word16) (h : s.ringLaw) : (stopSorting tag s).ringLaw := by
  have abandoned : (abandonLine (beginCommand .stop tag (s.setEngine .draining))).ringLaw :=
    abandonLine_ringLaw h
  have opened : (abandonOpen (abandonLine (beginCommand .stop tag (s.setEngine .draining)))).ringLaw :=
    ringLaw_congr abandoned (by simp) (by simp)
  exact deliver_ringLaw (s := State.setOas _ _) opened

theorem clearFault_ringLaw (h : s.ringLaw) : (clearFault s).ringLaw :=
  enterHunt1_ringLaw _ _ (ringLaw_congr h (by simp) (by simp))

/-- A change of the observed window empties the ring (R38). -/
theorem configure_ringLaw (new : Configuration) (h : s.ringLaw) : (configure new s).ringLaw := by
  have before : (configureDebt new
      (configureBelt s.cmu.config new (s.setCmu { s.cmu with config := new }))).ringLaw :=
    ringLaw_congr h (by simp) (by simp)
  have intake : (configureIntake s.cmu.config new (configureDebt new
      (configureBelt s.cmu.config new (s.setCmu { s.cmu with config := new })))).ringLaw :=
    ite_ringLaw before (emptyRing_ringLaw _)
  exact ringLaw_congr intake (by simp [configure]) (by simp [configure])

/-! ## The belt (R3 ~ R7, R13) -/

theorem lineTriggerTest_ringLaw (h : s.ringLaw) : (lineTriggerTest s).ringLaw :=
  ite_ringLaw (intakeTrigger_ringLaw (s := beltTrigger s) h) h

theorem advance_ringLaw (h : s.ringLaw) : (advance s).ringLaw := by
  have tested : (missingIndexTest (stepTravel s)).ringLaw := ringLaw_congr h (by simp) (by simp)
  exact ringLaw_congr (lineTriggerTest_ringLaw tested) (by simp [advance]) (by simp [advance])

theorem decodePair_ringLaw (old new : Bool × Bool) (h : s.ringLaw) : (decodePair old new s).ringLaw :=
  ite_ringLaw h (ite_ringLaw (t := ite ..) h
    (ite_ringLaw (ite_ringLaw h (advance_ringLaw h)) (ringLaw_congr h (by simp) (by simp))))

theorem acceptLevels_ringLaw (acc : Accepted) (h : s.ringLaw) : (acceptLevels acc s).ringLaw := by
  cases acc with
  | a level => exact decodePair_ringLaw _ _ (ringLaw_congr h (by simp) (by simp))
  | b level => exact decodePair_ringLaw _ _ (ringLaw_congr h (by simp) (by simp))
  | ab levelA levelB => exact decodePair_ringLaw _ _ (ringLaw_congr h (by simp) (by simp))
  | z level =>
    have accepted : (acceptZ level s).ringLaw := ringLaw_congr h (by simp) (by simp)
    exact ite_ringLaw (ringLaw_congr accepted (by simp) (by simp)) accepted

theorem beltEvent_ringLaw {f : State → State} (h : (f s).ringLaw) : (beltEvent f s).ringLaw :=
  finish_ringLaw (ringLaw_congr h (by simp) (by simp))

theorem acceptAtOnce_ringLaw (acc : Accepted) (h : s.ringLaw) : (acceptAtOnce acc s).ringLaw :=
  ite_ringLaw (beltEvent_ringLaw (acceptLevels_ringLaw acc h)) h

/-! ## Commands (R129 ~ R131, R149 ~ R177) -/

theorem answer_ringLaw {c : Command} {tag : Word16} {status : Status} {detail : Nat} {data : List Byte}
    (h : s.ringLaw) : (answer c tag status detail data s).ringLaw :=
  ringLaw_congr h (by simp [answer]) (by simp [answer])

theorem doAbort_ringLaw {tag : Word16} (h : s.ringLaw) : (doAbort tag s).ringLaw := by
  unfold doAbort
  split
  · exact answer_ringLaw h
  · exact answer_ringLaw (ringLaw_congr h (by simp) (by simp))

theorem doBankSwap_ringLaw {tag : Word16} {p : List Byte} (h : s.ringLaw) :
    (doBankSwap tag p s).ringLaw := by
  unfold doBankSwap
  split
  · exact answer_ringLaw h
  · split
    · exact answer_ringLaw h
    · exact ite_ringLaw h (answer_ringLaw h)

theorem doStart_ringLaw {tag : Word16} (h : s.ringLaw) : (doStart tag s).ringLaw := by
  unfold doStart
  split
  · exact answer_ringLaw h
  · exact ite_ringLaw (ite_ringLaw
      (ite_ringLaw (answer_ringLaw (startSorting_ringLaw h)) (answer_ringLaw h)) (answer_ringLaw h))
      (answer_ringLaw h)

theorem doValveControl_ringLaw {tag : Word16} {p : List Byte} (h : s.ringLaw) :
    (doValveControl tag p s).ringLaw := by
  have cool : (enableIfCool tag (u8 p 0) s).ringLaw :=
    ite_ringLaw (answer_ringLaw (ringLaw_congr h (by simp) (by simp))) (answer_ringLaw h)
  refine ite_ringLaw ?_ (answer_ringLaw (ringLaw_congr h (by simp) (by simp)))
  unfold doEnable
  split
  · exact answer_ringLaw h
  · exact answer_ringLaw h
  · exact answer_ringLaw h
  · exact cool
  · exact cool
  · exact ite_ringLaw (answer_ringLaw h) cool

theorem doValveTest_ringLaw {tag : Word16} {p : List Byte} (h : s.ringLaw) :
    (doValveTest tag p s).ringLaw :=
  ite_ringLaw
    (ite_ringLaw (ringLaw_congr h (by simp [startTest]) (by simp [startTest])) (answer_ringLaw h))
    (answer_ringLaw h)

theorem acceptCommand_ringLaw {c : Command} {tag : Word16} {p : List Byte} (h : s.ringLaw) :
    (acceptCommand c tag p s).ringLaw := by
  cases c with
  | readCounters => exact answer_ringLaw (ite_ringLaw h h)
  | abort => exact doAbort_ringLaw h
  | resync => exact answer_ringLaw (enterHunt1_ringLaw _ _ h)
  | configure => exact answer_ringLaw (configure_ringLaw _ h)
  | cctWrite => exact ite_ringLaw (answer_ringLaw h) (answer_ringLaw h)
  | blockMark =>
    exact ite_ringLaw (answer_ringLaw h)
      (ite_ringLaw (ite_ringLaw (answer_ringLaw h) (answer_ringLaw h)) (answer_ringLaw h))
  | bankCopy => exact h
  | bankSwap => exact doBankSwap_ringLaw h
  | calibrate => exact ite_ringLaw (ite_ringLaw h (answer_ringLaw h)) (answer_ringLaw h)
  | start => exact doStart_ringLaw h
  | stop => exact stopSorting_ringLaw tag h
  | clearFault => exact answer_ringLaw (clearFault_ringLaw h)
  | valveControl => exact doValveControl_ringLaw h
  | valveTest => exact doValveTest_ringLaw h
  | _ => exact answer_ringLaw h

theorem testCommand_ringLaw {c : Command} {tag : Word16} {p : List Byte} (h : s.ringLaw) :
    (testCommand c tag p s).ringLaw := by
  unfold testCommand
  refine ite_ringLaw (answer_ringLaw h) (ite_ringLaw (answer_ringLaw h) ?_)
  split
  · exact answer_ringLaw h
  · split
    · exact answer_ringLaw h
    · exact acceptCommand_ringLaw h

theorem receiveCommand_ringLaw {tag : Word16} {payload : List Byte} (h : s.ringLaw) :
    (receiveCommand tag payload s).ringLaw := by
  unfold receiveCommand
  split
  · exact ringLaw_congr h (by simp) (by simp)
  · split
    · exact ringLaw_congr h (by simp) (by simp)
    · exact testCommand_ringLaw h

/-! ## The link (R179 ~ R185) -/

theorem enumerate_ringLaw (n : Nat) (h : s.ringLaw) : (enumerate n s).ringLaw := by
  unfold enumerate
  split
  · exact ite_ringLaw (enterHunt1_ringLaw (s := s.setCmu _) _ _ h) h
  · exact ite_ringLaw (ite_ringLaw h (ringLaw_congr h (by simp) (by simp)))
      (ringLaw_congr h (by simp) (by simp))

/-- Both resets empty the ring (R39). -/
theorem resetBlocks_ringLaw (tbs : Tbs) (config : Configuration) (lki : Lki) (s : State) :
    (resetBlocks tbs config lki s).ringLaw :=
  ⟨List.Perm.refl _, nofun⟩

theorem localAction_ringLaw (f : Frame) (h : s.ringLaw) : (localAction f s).ringLaw :=
  ite_ringLaw (intakeFrame_ringLaw _ h)
    (ite_ringLaw (ite_ringLaw (ite_ringLaw h (receiveCommand_ringLaw h)) h)
      (ite_ringLaw (ite_ringLaw (enumerate_ringLaw _ h) h)
        (ite_ringLaw (ite_ringLaw (resetBlocks_ringLaw _ _ _ s) h)
          (ite_ringLaw (ite_ringLaw h h) h))))

theorem receiveDi_ringLaw (f : Frame) (h : s.ringLaw) : (receiveDi f s).ringLaw :=
  ite_ringLaw (finish_ringLaw (localAction_ringLaw f (ringLaw_congr h (by simp) (by simp)))) h

theorem receiveNotGood_ringLaw (lane : Lane) (bytes : List Byte) (cut : Bool) (h : s.ringLaw) :
    (receiveNotGood lane bytes cut s).ringLaw := by
  unfold receiveNotGood
  split
  · exact receiveDi_ringLaw _ h
  · exact ringLaw_congr h (by simp) (by simp)
  · exact h
  · exact h

/-! ## Every row of the table -/

/-- What a command answers keeps the law if the state it names does. -/
theorem of_next_ringLaw {u : State} (h : u.ringLaw) :
    ∀ v, (Host.Outcome.next u : Host.Outcome State Fault Refusal) = .next v → v.ringLaw := by
  rintro v ⟨⟩
  exact h

/-- A command that stops on an operand out of range makes no state. -/
theorem of_ite_fault_ringLaw {c : Prop} [Decidable c] {u : State} {r : Fault} (h : u.ringLaw) :
    ∀ v, (if c then .next u else .fault r : Host.Outcome State Fault Refusal) = .next v → v.ringLaw := by
  intro v hv
  split at hv
  · exact of_next_ringLaw h v hv
  · cases hv

/-- Every command keeps the law: the rows that act on the ring by the lemma of their operation, the frames on
DI by the one reception, and the others since they leave the ring and the line in assembly. -/
theorem exec_ringLaw (c : Instr) (h : s.ringLaw) : ∀ t, exec c s = .next t → t.ringLaw := by
  cases c with
  | encoderEdgeAccepted acc => exact of_next_ringLaw (beltEvent_ringLaw (acceptLevels_ringLaw acc h))
  | stallTimerExpiry =>
    exact of_next_ringLaw (beltEvent_ringLaw (ringLaw_congr h (by simp) (by simp)))
  | missingIndex => exact of_next_ringLaw (finish_ringLaw (ringLaw_congr h (by simp) (by simp)))
  | lineTrigger => exact of_next_ringLaw (finish_ringLaw (lineTriggerTest_ringLaw h))
  | slotDue => exact of_next_ringLaw (finish_ringLaw (settleOldest_ringLaw h))
  | huntTimeout => exact of_next_ringLaw (finish_ringLaw (huntTimeout_ringLaw h))
  | slotDelivery => exact of_next_ringLaw (finish_ringLaw (deliver_ringLaw h))
  | calibrateCompletion => exact of_next_ringLaw (ringLaw_congr h (by simp) (by simp))
  | lineAssemblyCompletion => exact of_next_ringLaw (finish_ringLaw (assemblyCompletes_ringLaw h))
  | closeAll => exact of_next_ringLaw (finish_ringLaw (closeAllFirst_ringLaw h))
  | closingToVq => exact of_next_ringLaw (finish_ringLaw (ringLaw_congr h (by simp) (by simp)))
  | vqTake => exact of_next_ringLaw (finish_ringLaw (ringLaw_congr h (by simp) (by simp)))
  | evaluationCompletion => exact of_next_ringLaw (finish_ringLaw (ringLaw_congr h (by simp) (by simp)))
  | ejectionRequest src => exact of_next_ringLaw (finish_ringLaw (ringLaw_congr h (by simp) (by simp)))
  | holdoffExpiry valve => exact of_ite_fault_ringLaw (ringLaw_congr h (by simp) (by simp))
  | thermalTick => exact of_next_ringLaw (ringLaw_congr h (by simp) (by simp))
  | valveTrip valve => exact of_ite_fault_ringLaw (ringLaw_congr h (by simp) (by simp))
  | valveTestExpiry => exact of_next_ringLaw (ringLaw_congr h (by simp) (by simp))
  | imageStart => exact of_next_ringLaw (ite_ringLaw h h)
  | imageTransmissionEnd => exact of_next_ringLaw (ite_ringLaw h h)
  | statusFrame bytes => exact of_next_ringLaw (ringLaw_congr h (by simp) (by simp))
  | answerWindowClose =>
    exact of_next_ringLaw (ite_ringLaw (finish_ringLaw (ringLaw_congr h (by simp) (by simp))) h)
  | bankCopyStep => exact of_next_ringLaw (ringLaw_congr h (by simp) (by simp))
  | swapAtQuietPoint => exact of_next_ringLaw (ringLaw_congr h (by simp) (by simp))
  | swapForced => exact of_next_ringLaw (ringLaw_congr h (by simp) (by simp))
  | scrubCheck => exact of_next_ringLaw (ringLaw_congr h (by simp) (by simp))
  | drainRunOut => exact of_next_ringLaw (ringLaw_congr h (by simp) (by simp))
  | faultEntry cause => exact of_next_ringLaw (takeCause_ringLaw cause h)
  | laterCause cause => exact of_next_ringLaw (ringLaw_congr h (by simp) (by simp))
  | frameNotGood lane bytes cut => exact of_next_ringLaw (receiveNotGood_ringLaw lane bytes cut h)
  | pauseTimerExpiry => exact of_next_ringLaw (ringLaw_congr h (by simp) (by simp))
  | passBufferEntry f => exact of_next_ringLaw (ringLaw_congr h (by simp) (by simp))
  | pauseRepeatExpiry => exact of_next_ringLaw (ringLaw_congr h (by simp) (by simp))
  | doFrameBoundary => exact of_next_ringLaw (ringLaw_congr h (by simp) (by simp))
  | roTransmissionEnd => exact of_next_ringLaw (ringLaw_congr h (by simp) (by simp))
  | silenceTimerExpiry => exact of_next_ringLaw (finish_ringLaw (ringLaw_congr h (by simp) (by simp)))
  | powerOnReset => exact of_next_ringLaw (resetBlocks_ringLaw _ _ _ s)
  | encoderInputChange ch level =>
    cases ch with
    | a => exact of_next_ringLaw (ite_ringLaw h (ite_ringLaw h (acceptAtOnce_ringLaw _ h)))
    | b => exact of_next_ringLaw (ite_ringLaw h (ite_ringLaw h (acceptAtOnce_ringLaw _ h)))
    | z => exact of_next_ringLaw (ite_ringLaw h (ite_ringLaw h (acceptAtOnce_ringLaw _ h)))
  | diSymbolReceived sym => exact of_next_ringLaw (ringLaw_congr h (by simp) (by simp))
  | cctEntryChange name index code => exact of_ite_fault_ringLaw (ringLaw_congr h (by simp) (by simp))
  | _ => exact of_next_ringLaw (receiveDi_ringLaw _ h)

/-- Settles O59: a step is the passing of time, which leaves the ring, or a command on the state with the
queue's rest. -/
theorem stepConservesTheRing : Obligations.StepConservesTheRing := by
  unfold Obligations.StepConservesTheRing
  intro s t h hs
  unfold step at hs
  split at hs
  next => exact of_next_ringLaw (u := tick s) h t hs
  next c rest _ => exact exec_ringLaw (s := s.setPending rest) c h t hs

end Sys2Proof.Machine
end

section
/-! The end of a capture, the entry to HUNT1 (R31, R36, R49) register by register, and the statement about
RESYNC. -/

namespace Sys2Proof.Machine

/-! ## The departure from LOCKED (R49, R165) -/

/-- A command that ends is no longer the executing one (R165). -/
@[simp] theorem endCommand_executing (status : Status) (detail : Nat) (data : List Byte) (s : State) :
    (endCommand status detail data s).cmu.executing = none := by
  cases executing : s.cmu.executing <;> simp [endCommand, executing]

/-- CALIBRATE ends with its capture discarded (R49, R165). -/
@[simp] theorem endCalibrate_ends (status : Status) (detail : Nat) (s : State) :
    (endCalibrate status detail s).capture = none
      ∧ (endCalibrate status detail s).cmu.executing = none := by
  simp [endCalibrate]

/-- A departure from LOCKED leaves no capture (R49). -/
theorem leaveLocked_capture (before : SyncState) (s : State) :
    (leaveLocked before s).capture = if before = .locked then none else s.capture := by
  cases running : s.capture <;> by_cases locked : before = .locked <;>
    simp [leaveLocked, running, locked]

/-- A departure from LOCKED ends the CALIBRATE whose capture is under way (R49). -/
theorem leaveLocked_executing (before : SyncState) (s : State) :
    (leaveLocked before s).cmu.executing
      = if before = .locked ∧ s.capture.isSome then none else s.cmu.executing := by
  by_cases ends : before = .locked ∧ s.capture.isSome
  · rw [if_pos ends]
    simp [leaveLocked, ends]
  · rw [if_neg ends]
    simp only [leaveLocked, Bool.and_eq_true, decide_eq_true_eq, if_neg ends]

/-! ## The entry to HUNT1 (R31, R36) -/

/-- Outside SORTING no close-all request is made (R31). -/
theorem requestCloseAll_of_ne {s : State} (h : s.cmu.engine ≠ .sorting) : requestCloseAll s = s := if_neg h

theorem enterHunt1_liu (cause : HuntCause) (offset : LineNo) (s : State) :
    (enterHunt1 cause offset s).liu
      = { s.liu with
          sync := .hunt1
          consecutiveLoss := 0
          completeRun := 0
          huntCount := 0
          realignPending := false
          offset := offset
          busy := s.liu.busy.map markNosync } := by
  simp [enterHunt1]

theorem enterHunt1_capture (cause : HuntCause) (offset : LineNo) (s : State) :
    (enterHunt1 cause offset s).capture = if s.liu.sync = .locked then none else s.capture := by
  simp [enterHunt1, leaveLocked_capture]

theorem enterHunt1_executing (cause : HuntCause) (offset : LineNo) (s : State) :
    (enterHunt1 cause offset s).cmu.executing
      = if s.liu.sync = .locked ∧ s.capture.isSome then none else s.cmu.executing := by
  simp [enterHunt1, leaveLocked_executing]

/-- Outside SORTING the entry to HUNT1 leaves the objects (R31). -/
theorem enterHunt1_objects (cause : HuntCause) (offset : LineNo) {s : State}
    (h : s.cmu.engine ≠ .sorting) :
    (enterHunt1 cause offset s).oas = s.oas ∧ (enterHunt1 cause offset s).vdu = s.vdu := by
  have same (x : Liu) : requestCloseAll (s.setLiu x) = s.setLiu x := requestCloseAll_of_ne h
  simp [enterHunt1, same]

/-- Settles O24: the accepted command enters HUNT1 from the state in which its frame has been heard, and its
answer leaves what the entry made. -/
theorem resyncEntersHunt1 : Obligations.ResyncEntersHunt1 := by
  unfold Obligations.ResyncEntersHunt1
  intro h p s accepted
  have standby : s.cmu.engine = .standby := by
    obtain ⟨_, _, taken, _⟩ := accepted
    simpa [Command.takenIn] using taken
  have heard : (s.heardCommand .resync h p).cmu.engine ≠ .sorting := by simp [standby]
  obtain ⟨oas, vdu⟩ := enterHunt1_objects .resync s.liu.offset heard
  have entered : receiveDi (commandOf .resync h p) s
      = answer .resync h.tag .ok s.liu.sync.code []
          (enterHunt1 .resync s.liu.offset (s.heardCommand .resync h p)) := by
    rw [receiveDi_of_accepts accepted, acceptCommand, doResync, finish_of_idle] <;> simp [answer, standby]
  refine ⟨_, _, congrArg Host.Outcome.next entered, rfl, ?_⟩
  simp [answer, enterHunt1_liu, enterHunt1_capture, enterHunt1_executing, oas, vdu, standby, markNosync]

end Sys2Proof.Machine
end

section
/-! The delivery (R29, R30) and the take of a slot (R56, R58), case by case, and the statement about the order
of delivery. -/

namespace Sys2Proof.Machine

variable {s : State} {x : RingSlot} {rest : List RingSlot}

/-! ## Which slot is delivered (R29) -/

/-- A slot has settled when it is COMPLETE, PARTIAL or LOST. -/
theorem RingSlot.settled_iff (x : RingSlot) :
    x.settled = true ↔ x.state = .complete ∨ x.state = .partialLine ∨ x.state = .lost := by
  unfold RingSlot.settled
  cases x.state <;> simp

/-- The slot to be delivered is read from the ring. -/
theorem deliverable_congr {t : State} (h : t.liu = s.liu) : deliverable t = deliverable s := by
  unfold deliverable
  rw [h]

/-- The oldest slot that has settled is to be delivered, unless a slot is ASSEMBLING (R29). -/
theorem deliverable_of_settled (busy : s.liu.busy = x :: rest) (settled : x.settled = true)
    (free : ∀ y ∈ rest, y.state ≠ .assembling) : deliverable s = some x := by
  have own : x.state ≠ .assembling := by
    intro assembling
    simp [RingSlot.settled, assembling] at settled
  simpa [deliverable, busy, settled, own] using free

/-- Nothing is to be delivered while the oldest slot has not settled (R29). -/
theorem deliverable_of_head (head : ∀ y ∈ s.liu.busy.head?, y.settled = false) :
    deliverable s = none := by
  cases busy : s.liu.busy with
  | nil => simp [deliverable, busy]
  | cons y rest =>
    have unsettled : y.settled = false := head y (by simp [busy])
    simp [deliverable, busy, unsettled]

/-! ## How many deliveries an event makes (R30) -/

theorem deliverN_of_none (n : Nat) (h : deliverable s = none) : deliverN n s = s := by
  induction n with
  | zero => rfl
  | succ n ih => simpa [deliverN, deliverOne, h] using ih

/-- With nothing to deliver the delivery changes nothing (log 1). -/
theorem deliver_of_none (h : deliverable s = none) : deliver s = s := deliverN_of_none _ h

/-- A delivery after which nothing is to be delivered is the only one. -/
theorem deliver_of_last (due : deliverable s = some x) (last : deliverable (deliverSlot x s) = none) :
    deliver s = deliverSlot x s := by
  obtain ⟨held, _⟩ := deliverable_eq_some due
  obtain ⟨n, length⟩ := Nat.exists_eq_add_one.2 (List.length_pos_of_mem held)
  rw [deliver, length, deliverN, deliverOne, due]
  exact deliverN_of_none n last

/-- A slot freed with the next one FILLING is the only one delivered. -/
theorem deliver_of_freed (due : deliverable s = some x) (freed : (deliverSlot x s).liu.busy = rest)
    (next : ∀ y ∈ rest.head?, y.state = .filling) : deliver s = deliverSlot x s := by
  refine deliver_of_last due (deliverable_of_head fun y hy => ?_)
  simp [RingSlot.settled, next y (freed ▸ hy)]

/-! ## The takers (R29, R47, R56, R58) -/

theorem deliverSlot_of_sorting (h : s.cmu.engine = .sorting) (x : RingSlot) :
    deliverSlot x s = takeSlot x s := by
  simp [deliverSlot, h]

theorem deliverSlot_of_standby (h : s.cmu.engine = .standby) (x : RingSlot) :
    deliverSlot x s = captureSlot x (freeSlot x.index s) := by
  simp [deliverSlot, h]

theorem deliverSlot_of_draining (h : s.cmu.engine = .draining) (x : RingSlot) :
    deliverSlot x s = freeSlot x.index s := by
  simp [deliverSlot, h]

/-- The oldest slot becomes FREE. -/
theorem freeSlot_oldest (busy : s.liu.busy = x :: rest) (others : ∀ y ∈ rest, y.index ≠ x.index) :
    freeSlot x.index s
      = s.setLiu { s.liu with busy := rest, freeOrder := s.liu.freeOrder ++ [x.index] } := by
  have kept : rest.filter (fun y => decide (y.index ≠ x.index)) = rest :=
    List.filter_eq_self.2 fun y hy => decide_eq_true (others y hy)
  rw [freeSlot, busy, List.filter_cons_of_neg (by simp), kept]

/-- With no capture under way a line skipped is not counted (R47). -/
theorem skipLines_of_none (n : Nat) (h : s.capture = none) : skipLines n s = s := by
  induction n with
  | zero => rfl
  | succ n ih => simpa [skipLines, skipLine, h] using ih

/-- With no capture under way there is no taker in STANDBY (R29). -/
theorem captureSlot_of_none (x : RingSlot) (h : s.capture = none) : captureSlot x s = s := by
  simp [captureSlot, skipLines_of_none _ h, captureOwn, h]

/-- With no swap pending a line boundary leaves nothing but its mark (R159). -/
theorem lineBoundary_of_no_swap (h : s.tbs.swap = none) :
    lineBoundary s = s.setTbs { s.tbs with boundary := false } := by
  simp [lineBoundary, swapAtQuietPoint, swapAtDeadline, swapCount, h, State.setTbs]

theorem takeSlot_of_nosync (h : x.nosync = true) (s : State) :
    takeSlot x s = freeSlot x.index (lineBoundary s) := by
  simp [takeSlot, h]

theorem takeSlot_of_lost (h : x.nosync = false) (lost : x.state = .lost) (s : State) :
    takeSlot x s
      = freeSlot x.index (applyLostLine (applyLostLines (min 3 x.lostBefore) (lineBoundary s))) := by
  simp [takeSlot, h, lost]

theorem takeSlot_of_line (h : x.nosync = false) (line : x.state ≠ .lost) (s : State) :
    takeSlot x s = takeRow x (lineBoundary s) := by
  simp [takeSlot, h, line]

/-- The take of a row marks its slot ASSEMBLING (R56). -/
theorem takeRow_liu (x : RingSlot) (s : State) :
    (takeRow x s).liu
      = { s.liu with
          busy := s.liu.busy.map
            (fun y => if y.index = x.index then { x with state := .assembling } else y) } := by
  simp [takeRow, setRingSlot]

/-- The row taken is the line in assembly, stamped with the generation (R40, R56). -/
theorem takeRow_oas (x : RingSlot) (s : State) :
    (takeRow x s).oas
      = { s.oas with
          lineInAssembly :=
            some
              { slot := x.index
                line := x.line
                position := x.position
                isPartial := decide (x.state = .partialLine)
                lostBefore := x.lostBefore
                generation := s.tbs.generation
                classRow :=
                  (classifyLine s.tbs.ccal s.tbs.activeBank x.samples).map (fun c => c.code) } } := by
  simp [takeRow]

/-- A counter that rises by a number (R196). -/
theorem bumpBy_counter_self (c : Counter) (n : Nat) (h : c.index < s.rpu.counters.length) :
    (bumpBy c n s).counter c = s.counter c + BitVec.ofNat 32 n := by
  simp [State.counter, bumpBy, List.getElem?_eq_getElem h]

/-- The take of a row counts its pixels in BAD blocks and its overrides, and queues no frame (R44, R45). -/
theorem takeRow_counts (x : RingSlot) (length : s.rpu.counters.length = 54) :
    let row := classifyLine s.tbs.ccal s.tbs.activeBank x.samples
    (takeRow x s).counter .badBlockPixels
        = s.counter .badBlockPixels + BitVec.ofNat 32 (row.countP (fun c => c.badBlock))
      ∧ (takeRow x s).counter .nirOverrides
        = s.counter .nirOverrides + BitVec.ofNat 32 (row.countP (fun c => c.override)) := by
  have counted (row : List Classified) :
      (countClassified row s).counter .badBlockPixels
          = s.counter .badBlockPixels + BitVec.ofNat 32 (row.countP (fun c => c.badBlock))
        ∧ (countClassified row s).counter .nirOverrides
          = s.counter .nirOverrides + BitVec.ofNat 32 (row.countP (fun c => c.override)) := by
    rw [countClassified, bumpBy_counter_of_ne (by decide),
      bumpBy_counter_self _ _ (by simp [length, Counter.index]),
      bumpBy_counter_self _ _ (by simp [length, Counter.index, bumpBy]),
      bumpBy_counter_of_ne (by decide)]
    exact ⟨rfl, rfl⟩
  exact counted _

/-- After the take of a row nothing is to be delivered: a slot is ASSEMBLING (R29). -/
theorem deliverable_takeRow (held : x ∈ s.liu.busy) : deliverable (takeRow x s) = none := by
  by_contra due
  obtain ⟨y, due⟩ := Option.ne_none_iff_exists'.1 due
  obtain ⟨_, _, none_assembling⟩ := deliverable_eq_some due
  refine none_assembling { x with state := .assembling } ?_ rfl
  rw [takeRow_liu]
  exact List.mem_map.2 ⟨x, held, if_pos rfl⟩

/-- Settles O44: the oldest settled slot goes to its taker; freed with the next one FILLING, or taken into
assembly, it is the only one delivered. -/
theorem slotsAreDeliveredInOrder : Obligations.SlotsAreDeliveredInOrder := by
  unfold Obligations.SlotsAreDeliveredInOrder
  intro s
  refine ⟨rfl, fun nothing => ?_, fun x rest busy settled others => ?_⟩
  · show Host.Outcome.next (finish (deliver s)) = .next (finish s)
    rw [deliver_of_none nothing]
  have due := deliverable_of_settled busy (x.settled_iff.2 settled) others
  have held : x ∈ s.liu.busy := by simp [busy]
  have delivered {t : State} (h : deliver s = t) : exec .slotDelivery s = .next (finish t) :=
    congrArg (fun u => Host.Outcome.next (finish u)) h
  have taken (sorting : s.cmu.engine = .sorting) (nosync : x.nosync = false) (line : x.state ≠ .lost) :
      deliver s = takeRow x (lineBoundary s) := by
    have slot : deliverSlot x s = takeRow x (lineBoundary s) := by
      rw [deliverSlot_of_sorting sorting, takeSlot_of_line nosync line]
    rw [deliver_of_last due (slot ▸ deliverable_takeRow (by simpa using held)), slot]
  refine ⟨due, fun next indices => ?_, fun sorting nosync line => delivered (taken sorting nosync line),
    fun sorting swap nosync line => ⟨_, delivered (taken sorting nosync line), ?_⟩⟩
  · intro freed
    have freeing : freeSlot x.index s = freed := freeSlot_oldest busy indices
    have only {t : State} (slot : deliverSlot x s = t) (ring : t.liu = freed.liu) : deliver s = t :=
      (deliver_of_freed (rest := rest) due (by rw [slot, ring]; rfl) next).trans slot
    have standby (engine : s.cmu.engine = .standby) :
        exec .slotDelivery s = .next (captureSlot x freed) := by
      rw [delivered (only (t := captureSlot x freed)
        (by rw [deliverSlot_of_standby engine, freeing]) (by simp))]
      rw [finish_of_idle] <;> simp [freed, engine]
    have nosynced (sorting : s.cmu.engine = .sorting) (nosync : x.nosync = true) :
        exec .slotDelivery s = .next (finish (freeSlot x.index (lineBoundary s))) := by
      refine delivered (only (by rw [deliverSlot_of_sorting sorting, takeSlot_of_nosync nosync]) ?_)
      simp [← freeing, freeSlot]
    refine ⟨fun engine idle => ?_, fun engine => ?_, fun sorting swap nosync => ?_, standby, nosynced,
      fun sorting nosync lost => ?_⟩
    · rw [standby engine, captureSlot_of_none x (s := freed) idle]
    · exact delivered (only (by rw [deliverSlot_of_draining engine, freeing]) rfl)
    · rw [nosynced sorting nosync, lineBoundary_of_no_swap swap, ← freeing]
      rfl
    · refine delivered (only (by rw [deliverSlot_of_sorting sorting, takeSlot_of_lost nosync lost]) ?_)
      simp [← freeing, freeSlot]
  · rw [lineBoundary_of_no_swap swap]
    exact ⟨takeRow_liu x _, takeRow_oas x _, by simp, by simp, by simp, by simp, by simp, rfl,
      fun length => takeRow_counts (s := s.setTbs _) x length⟩

end Sys2Proof.Machine
end

section
/-! The line trigger at the Line Intake Unit (R22, R27, R28, R34), step by step, and the statement about it. -/

namespace Sys2Proof.Machine

variable {s : State}

/-! ## Its steps -/

/-- With no slot due none settles (R27; log 1). -/
theorem settleOldest_of_none (h : ∀ x ∈ s.liu.busy, x.due = true → x.state ≠ .filling) :
    settleOldest s = s := by
  have nothing : s.liu.busy.find? (fun x => x.due && decide (x.state = .filling)) = none := by
    simpa using h
  simp only [settleOldest, nothing]

theorem settleN_of_none (n : Nat) (h : ∀ x ∈ s.liu.busy, x.due = true → x.state ≠ .filling) :
    settleN n s = s := by
  induction n with
  | zero => rfl
  | succ n ih => rw [settleN, settleOldest_of_none h, ih]

/-- A trigger at which no slot has become due, and none was, settles nothing (R27, R28). -/
theorem settleDue_of_none (h : ∀ x ∈ s.liu.busy, x.due = false
      ∧ (x.state = .filling → (s.bpu.line - x.line).toNat < s.cmu.config.latencyLines)) :
    settleDue s = s := by
  have unmarked : s.liu.busy.map (markDue s.cmu.config.latencyLines s.bpu.line) = s.liu.busy := by
    have same (x : RingSlot) (hx : x ∈ s.liu.busy) :
        markDue s.cmu.config.latencyLines s.bpu.line x = x := by
      obtain ⟨_, early⟩ := h x hx
      exact if_neg fun ⟨filling, late⟩ => absurd (early filling) (Nat.not_lt.2 late)
    exact (List.map_congr_left same).trans (List.map_id' _)
  rw [settleDue, unmarked]
  exact settleN_of_none _ fun x hx due => absurd due (by simp [h x hx])

/-- Below 10 the hunt count rises and no more (R34). -/
theorem huntAdvance_of_lt (hunting : s.liu.sync = .hunt1 ∨ s.liu.sync = .hunt2)
    (below : s.liu.huntCount + 1 < 10) :
    huntAdvance s = s.setLiu { s.liu with huntCount := s.liu.huntCount + 1 } := by
  rcases hunting with sync | sync <;> simp [huntAdvance, sync, huntTimeout, Nat.not_le.2 below]

/-- While hunting the count rises and its tenth trigger is tested for (R34). -/
theorem huntAdvance_eq (hunting : s.liu.sync = .hunt1 ∨ s.liu.sync = .hunt2) :
    huntAdvance s = huntTimeout (s.setLiu { s.liu with huntCount := s.liu.huntCount + 1 }) := by
  rcases hunting with sync | sync <;> simp only [huntAdvance, sync]

/-- The first of the free order takes the new line (R22). -/
theorem allocate_of_free {i : Nat} {rest : List Nat} (free : s.liu.freeOrder = i :: rest) :
    allocate s
      = s.setLiu
          { s.liu with
            busy := s.liu.busy ++
              [{ index := i
                 state := .filling
                 line := s.bpu.line
                 position := s.bpu.triggerPos
                 samples := List.replicate s.cmu.config.width none
                 lostBefore := s.liu.pendingLost
                 nosync := decide (s.liu.sync = .hunt1 ∨ s.liu.sync = .hunt2)
                 due := false }]
            freeOrder := rest
            pendingLost := 0 } := by
  simp only [allocate, free, newSlot, Bool.decide_or]

/-- With no slot FREE the line is lost and counted (R22). -/
theorem allocate_of_full (full : s.liu.freeOrder = []) :
    allocate s
      = bump .lineOverruns
          (s.setLiu { s.liu with pendingLost := min 65535 (s.liu.pendingLost + 1) }) := by
  simp only [allocate, full]

/-- A trigger leaves an inactive unit as it is (R21). -/
theorem intakeTrigger_of_inactive (h : s.liuActive = false) : intakeTrigger s = s := by
  simp [intakeTrigger, h]

/-- A trigger at an active unit that is LOCKED (R28). -/
theorem intakeTrigger_of_locked (active : s.liuActive = true) (locked : s.liu.sync = .locked)
    (still : (settleDue s).liuActive = true) : intakeTrigger s = allocate (settleDue s) := by
  simp [intakeTrigger, active, locked, still]

/-- A trigger at an active unit that hunts (R28, R34). -/
theorem intakeTrigger_of_hunting (active : s.liuActive = true) (hunting : s.liu.sync ≠ .locked) :
    intakeTrigger s
      = if (huntAdvance (settleDue s)).liuActive then allocate (huntAdvance (settleDue s))
        else huntAdvance (settleDue s) := by
  simp only [intakeTrigger, active, if_true, if_neg hunting]

/-! ## The trigger at its row and inside the advance (R13; log 1) -/

theorem exec_lineTrigger_of_reached (reached : s.cmu.config.linePitch ≤ s.bpu.pitch) :
    exec .lineTrigger s = .next (finish (intakeTrigger (beltTrigger s))) :=
  congrArg (fun t => Host.Outcome.next (finish t)) (lineTriggerTest_of_reached reached)

/-- A trigger that finds the state at rest, and leaves what the Command Unit reads, is ended and no more. -/
theorem exec_lineTrigger_of_atRest {t : State} (reached : s.cmu.config.linePitch ≤ s.bpu.pitch)
    (rest : s.atRest) (made : intakeTrigger (beltTrigger s) = t) (cmu : t.cmu = s.cmu)
    (oas : t.oas = s.oas) (vdu : t.vdu = s.vdu) (ejs : t.ejs = s.ejs) :
    exec .lineTrigger s = .next t := by
  rw [exec_lineTrigger_of_reached reached, made, finish_of_atRest (atRest_congr rest cmu oas vdu ejs)]

/-- A trigger in LOCKED with no slot due allocates and no more (R22, R28). -/
theorem intakeTrigger_of_none_due (active : s.liuActive = true) (locked : s.liu.sync = .locked)
    (none_due : ∀ x ∈ s.liu.busy, x.due = false
      ∧ (x.state = .filling → (s.bpu.line - x.line).toNat < s.cmu.config.latencyLines)) :
    intakeTrigger s = allocate s := by
  have settled := settleDue_of_none none_due
  rw [intakeTrigger_of_locked active locked (by rw [settled]; exact active), settled]

/-- A forward edge without debt, with the index check not ARMED, that reaches line_pitch (R5, R13). -/
theorem advance_of_reached (armed : s.bpu.armed = false)
    (reached : s.cmu.config.linePitch ≤ s.bpu.pitch + 1) :
    advance s = ejectionAdvance (intakeTrigger (beltTrigger (stepTravel s))) := by
  have checked : missingIndexTest (stepTravel s) = stepTravel s :=
    missingIndexTest_of_not_missing fun missing => by simp [State.indexMissing, stepTravel, armed] at missing
  rw [advance, checked, lineTriggerTest_of_reached reached, lineTrigger]

/-- Settles O42: the trigger is the belt's part and the intake's, and the intake's is its three steps. -/
theorem triggerAllocatesASlot : Obligations.TriggerAllocatesASlot := by
  unfold Obligations.TriggerAllocatesASlot
  refine ⟨fun s reached rest => ⟨fun inactive => ?_, fun active locked none_due => ?_⟩,
    fun s => exec_lineTrigger_of_reached, fun acc s timed forward debt armed reached => ?_,
    fun s => ⟨intakeTrigger_of_inactive, fun active => ⟨?_, ?_, ?_⟩, rfl, fun n => ⟨rfl, rfl⟩,
      fun hunting => ⟨huntAdvance_of_lt hunting, fun _ => ?_⟩, fun i free => allocate_of_free,
      allocate_of_full⟩⟩
  · have nothing : intakeTrigger (beltTrigger s) = beltTrigger s := intakeTrigger_of_inactive inactive
    exact ⟨_, exec_lineTrigger_of_atRest reached rest nothing (by simp) (by simp) (by simp) (by simp),
      by simp⟩
  · have allocated : intakeTrigger (beltTrigger s) = allocate (beltTrigger s) :=
      intakeTrigger_of_none_due active locked none_due
    refine ⟨fun i order free => ?_, fun full => ?_⟩
    · rw [allocate_of_free (s := beltTrigger s) free] at allocated
      exact ⟨_, exec_lineTrigger_of_atRest reached rest allocated (by simp) (by simp) (by simp) (by simp),
        by simp [beltTrigger, locked]⟩
    · rw [allocate_of_full (s := beltTrigger s) full] at allocated
      refine ⟨_, exec_lineTrigger_of_atRest reached rest allocated (by simp) (by simp) (by simp)
        (by simp), by simp, fun length => ?_⟩
      rw [bump_counter_self _ (by simp [beltTrigger, bump, bumpBy, length, Counter.index])]
      simp [beltTrigger]
  · have edge := acceptLevels_forward timed forward
    rw [forwardEdge_of_no_debt (by simpa using debt), advance_of_reached (by simpa using armed)
      (by simpa using reached)] at edge
    rw [exec_encoderEdgeAccepted, edge]
    simp only [stepTravel, State.setBpu_bpu, State.setBpu_cmu, Bpu.withLevels_keeps]
    rfl
  · exact fun locked still => intakeTrigger_of_locked active locked still
  · exact fun hunting still => (intakeTrigger_of_hunting active hunting).trans (if_pos still)
  · exact fun hunting ended =>
      (intakeTrigger_of_hunting active hunting).trans (if_neg (ne_true_of_eq_false ended))
  · rw [huntAdvance_eq hunting]
    rfl

end Sys2Proof.Machine
end

section
/-! The counters that neither a delivery nor a sync effect moves: for an operation `f` the lemma `f_counter` says
so. -/

namespace Sys2Proof.Machine

/-- The counters that an operation of a delivery or of a sync effect can advance: frames dropped on the way to the
Report Queue, the classifier's, the swaps', and the lines bridged (R44, R45, R59, R160, R195). -/
def deliveryCounters : List Counter :=
  [.reportsDropped, .noticesDropped, .badBlockPixels, .nirOverrides, .swapsCompleted, .swapsForced,
    .linesBridged]

variable {c : Counter}

/-- A rise of one of these counters leaves every other counter. -/
theorem bumpBy_deliveryCounter {d : Counter} (hd : d ∈ deliveryCounters) (hc : c ∉ deliveryCounters)
    (n : Nat) (s : State) : (bumpBy d n s).counter c = s.counter c :=
  bumpBy_counter_of_ne (fun same : d = c => hc (same ▸ hd)) n s

theorem bump_deliveryCounter {d : Counter} (hd : d ∈ deliveryCounters) (hc : c ∉ deliveryCounters)
    (s : State) : (bump d s).counter c = s.counter c :=
  bumpBy_deliveryCounter hd hc 1 s

/-! ## Responses, notices, CALIBRATE -/

theorem respond_counter (hc : c ∉ deliveryCounters) (code : Byte) (tag : Word16) (status : Status)
    (detail : Nat) (data : List Byte) (s : State) :
    (respond code tag status detail data s).counter c = s.counter c := by
  have reports := bump_deliveryCounter (d := .reportsDropped) (by decide) hc
  have notices := bump_deliveryCounter (d := .noticesDropped) (by decide) hc
  simp only [respond, admitResponse]
  repeat' split
  all_goals simp [reports, notices]

theorem notice_counter (hc : c ∉ deliveryCounters) (n : Notice) (s : State) :
    (notice n s).counter c = s.counter c := by
  have notices := bump_deliveryCounter (d := .noticesDropped) (by decide) hc
  simp only [notice]
  repeat' split
  all_goals simp [notices]

theorem endCommand_counter (hc : c ∉ deliveryCounters) (status : Status) (detail : Nat)
    (data : List Byte) (s : State) : (endCommand status detail data s).counter c = s.counter c := by
  cases executing : s.cmu.executing <;> simp [endCommand, executing, respond_counter hc]

theorem endCalibrate_counter (hc : c ∉ deliveryCounters) (status : Status) (detail : Nat) (s : State) :
    (endCalibrate status detail s).counter c = s.counter c := by
  simp [endCalibrate, endCommand_counter hc]

theorem skipLines_counter (hc : c ∉ deliveryCounters) (n : Nat) (s : State) :
    (skipLines n s).counter c = s.counter c := by
  have skip (t : State) : (skipLine t).counter c = t.counter c := by
    simp only [skipLine]
    repeat' split
    all_goals simp [endCalibrate_counter hc]
  induction n generalizing s with
  | zero => rfl
  | succ n ih => rw [skipLines, ih, skip]

theorem calibrateIfDone_counter (hc : c ∉ deliveryCounters) (s : State) :
    (calibrateIfDone s).counter c = s.counter c := by
  simp only [calibrateIfDone, completeCalibrate]
  repeat' split
  all_goals simp [endCalibrate_counter hc]

theorem captureSlot_counter (hc : c ∉ deliveryCounters) (x : RingSlot) (s : State) :
    (captureSlot x s).counter c = s.counter c := by
  have skip (t : State) : (skipLine t).counter c = t.counter c := skipLines_counter hc 1 t
  simp only [captureSlot, captureOwn]
  repeat' split
  all_goals simp [skip, skipLines_counter hc, calibrateIfDone_counter hc]

/-! ## The line boundary, lost lines, the take of a slot -/

theorem lineBoundary_counter (hc : c ∉ deliveryCounters) (s : State) :
    (lineBoundary s).counter c = s.counter c := by
  have completed := bump_deliveryCounter (d := .swapsCompleted) (by decide) hc
  have forced := bump_deliveryCounter (d := .swapsForced) (by decide) hc
  have quietly (t : State) : (swapAtQuietPoint t).counter c = t.counter c := by
    simp only [swapAtQuietPoint, swapQuietly, exchangeBanks]
    split <;> simp [endCommand_counter hc, completed]
  have deadline (t : State) : (swapAtDeadline t).counter c = t.counter c := by
    simp only [swapAtDeadline, swapForced, exchangeBanks, markMixed]
    repeat' split
    all_goals simp [endCommand_counter hc, completed, forced]
  have count (t : State) : (swapCount t).counter c = t.counter c := counter_congr (by simp) c
  simp [lineBoundary, count, deadline, quietly]

theorem applyLostLine_counter (hc : c ∉ deliveryCounters) (s : State) :
    (applyLostLine s).counter c = s.counter c := by
  have bridged := bump_deliveryCounter (d := .linesBridged) (by decide) hc
  have closed (t : State) : (closeAllObjects t).counter c = t.counter c := counter_congr (by simp) c
  simp only [applyLostLine, emptyPlr]
  split <;> simp [bridged, closed]

theorem applyLostLines_counter (hc : c ∉ deliveryCounters) (n : Nat) (s : State) :
    (applyLostLines n s).counter c = s.counter c := by
  induction n generalizing s with
  | zero => rfl
  | succ n ih => rw [applyLostLines, ih, applyLostLine_counter hc]

theorem takeRow_counter (hc : c ∉ deliveryCounters) (x : RingSlot) (s : State) :
    (takeRow x s).counter c = s.counter c := by
  have bad := bumpBy_deliveryCounter (d := .badBlockPixels) (by decide) hc
  have overrides := bumpBy_deliveryCounter (d := .nirOverrides) (by decide) hc
  simp [takeRow, setRingSlot, countClassified, bad, overrides]

theorem deliver_counter (hc : c ∉ deliveryCounters) (s : State) :
    (deliver s).counter c = s.counter c := by
  have free (i : Nat) (t : State) : (freeSlot i t).counter c = t.counter c := counter_congr (by simp) c
  have take (x : RingSlot) (t : State) : (takeSlot x t).counter c = t.counter c := by
    simp only [takeSlot]
    repeat' split
    all_goals simp [free, lineBoundary_counter hc, applyLostLine_counter hc, applyLostLines_counter hc,
      takeRow_counter hc]
  have one (t : State) : (deliverOne t).counter c = t.counter c := by
    simp only [deliverOne, deliverSlot]
    repeat' split
    all_goals simp [free, take, captureSlot_counter hc]
  have all (n : Nat) (t : State) : (deliverN n t).counter c = t.counter c := by
    induction n generalizing t with
    | zero => rfl
    | succ n ih => rw [deliverN, ih, one]
  exact all _ s

/-! ## Sync effects (R27, R31, R33) -/

theorem enterHunt1_counter (hc : c ∉ deliveryCounters) (cause : HuntCause) (offset : LineNo) (s : State) :
    (enterHunt1 cause offset s).counter c = s.counter c := by
  have close (t : State) : (requestCloseAll t).counter c = t.counter c := counter_congr (by simp) c
  have leave (b : SyncState) (t : State) : (leaveLocked b t).counter c = t.counter c := by
    simp only [leaveLocked]
    split <;> simp [endCalibrate_counter hc]
  simp [enterHunt1, leave, notice_counter hc, close]

theorem syncLoss_counter (hc : c ∉ deliveryCounters) (s : State) :
    (syncLoss s).counter c = s.counter c := by
  simp only [syncLoss, lossEvent]
  repeat' split
  all_goals simp [enterHunt1_counter hc]

theorem syncPartial_counter (c : Counter) (s : State) : (syncPartial s).counter c = s.counter c :=
  counter_congr (by simp) c

end Sys2Proof.Machine
end

section
/-! What a delivery and a sync effect leave: the sync registers, and a state at rest. The settlement of a due slot
(R27, R33) and the hunt timeout (R34), and the statement about them. -/

namespace Sys2Proof.Machine

variable {s t : State} {x : RingSlot}

/-! ## A delivery leaves the sync registers, and a state at rest -/

/-- An event that leaves the engine and its causes, and in DRAINING the objects and the ejections, leaves a state
at rest so. -/
theorem atRest_of_engine (rest : s.atRest) (engine : t.cmu.engine = s.cmu.engine)
    (causes : t.cmu.causes = s.cmu.causes)
    (draining : s.cmu.engine = .draining → t.oas = s.oas ∧ t.vdu = s.vdu ∧ t.ejs = s.ejs) : t.atRest := by
  obtain ⟨none_stands, running⟩ := rest
  refine ⟨causes.trans none_stands, fun drain => ?_⟩
  rw [engine] at drain
  obtain ⟨oas, vdu, ejs⟩ := draining drain
  rw [drained_congr oas vdu ejs, running drain]

/-- A delivery in DRAINING leaves the objects: the slot is freed and no more (R29). -/
theorem deliver_draining (h : s.cmu.engine = .draining) :
    (deliver s).oas = s.oas ∧ (deliver s).vdu = s.vdu := by
  have one (t : State) (ht : t.cmu.engine = .draining) :
      (deliverOne t).oas = t.oas ∧ (deliverOne t).vdu = t.vdu := by
    unfold deliverOne
    split
    · rw [deliverSlot_of_draining ht]
      simp
    · exact ⟨rfl, rfl⟩
  have all (n : Nat) (t : State) (ht : t.cmu.engine = .draining) :
      (deliverN n t).oas = t.oas ∧ (deliverN n t).vdu = t.vdu := by
    induction n generalizing t with
    | zero => exact ⟨rfl, rfl⟩
    | succ n ih =>
      obtain ⟨oas, vdu⟩ := ih (deliverOne t) (by simpa using ht)
      obtain ⟨oas', vdu'⟩ := one t ht
      exact ⟨oas.trans oas', vdu.trans vdu'⟩
  exact all _ s h

theorem deliver_atRest (rest : s.atRest) : (deliver s).atRest := by
  refine atRest_of_engine rest (by simp) (by simp) fun draining => ?_
  obtain ⟨oas, vdu⟩ := deliver_draining draining
  exact ⟨oas, vdu, by simp⟩

/-- Of the Line Intake Unit a delivery changes the ring alone (R29, R30). -/
theorem deliver_liu (s : State) :
    (deliver s).liu
      = { s.liu with busy := (deliver s).liu.busy, freeOrder := (deliver s).liu.freeOrder } := by
  have slot (x : RingSlot) (t : State) :
      (deliverSlot x t).liu
        = { t.liu with
            busy := (deliverSlot x t).liu.busy
            freeOrder := (deliverSlot x t).liu.freeOrder } := by
    simp only [deliverSlot, takeSlot]
    repeat' split
    all_goals simp [freeSlot, takeRow_liu]
  have one (t : State) :
      (deliverOne t).liu
        = { t.liu with busy := (deliverOne t).liu.busy, freeOrder := (deliverOne t).liu.freeOrder } := by
    unfold deliverOne
    split
    · exact slot _ t
    · rfl
  have all (n : Nat) (t : State) :
      (deliverN n t).liu
        = { t.liu with busy := (deliverN n t).liu.busy, freeOrder := (deliverN n t).liu.freeOrder } := by
    induction n generalizing t with
    | zero => rfl
    | succ n ih =>
      rw [deliverN, ih, one]
  exact all _ s

/-- A delivery leaves the sync registers. -/
@[simp] theorem deliver_sync (s : State) :
    (deliver s).liu.sync = s.liu.sync ∧ (deliver s).liu.offset = s.liu.offset
      ∧ (deliver s).liu.consecutiveLoss = s.liu.consecutiveLoss
      ∧ (deliver s).liu.completeRun = s.liu.completeRun
      ∧ (deliver s).liu.huntCount = s.liu.huntCount
      ∧ (deliver s).liu.realignPending = s.liu.realignPending := by
  rw [deliver_liu]
  simp

/-! ## Sync effects (R27, R31, R33) -/

theorem lossEvent_of_lt (h : s.liu.consecutiveLoss < 2) :
    lossEvent s = s.setLiu { s.liu with consecutiveLoss := s.liu.consecutiveLoss + 1 } :=
  if_neg (by omega)

/-- The third loss event in a row enters HUNT1 (R33). -/
theorem lossEvent_of_third (h : 2 ≤ s.liu.consecutiveLoss) :
    lossEvent s = enterHunt1 .loss s.liu.offset s :=
  if_pos (by omega)

theorem syncLoss_of_locked (h : s.liu.sync = .locked) : syncLoss s = lossEvent s := by
  simp only [syncLoss, h]

theorem syncLoss_of_hunting (h : s.liu.sync = .hunt1 ∨ s.liu.sync = .hunt2) :
    syncLoss s = s.setLiu { s.liu with completeRun := 0 } := by
  rcases h with sync | sync <;> simp only [syncLoss, sync]

/-- A PARTIAL settlement ends a complete run, and has no effect in LOCKED (R27). -/
theorem syncPartial_sync (s : State) :
    (syncPartial s).liu.sync = s.liu.sync
      ∧ (syncPartial s).liu.consecutiveLoss = s.liu.consecutiveLoss
      ∧ (syncPartial s).liu.completeRun
          = (if s.liu.sync = .hunt1 ∨ s.liu.sync = .hunt2 then 0 else s.liu.completeRun) := by
  cases sync : s.liu.sync <;> simp [syncPartial, sync]

theorem syncPartial_atRest (rest : s.atRest) : (syncPartial s).atRest :=
  atRest_congr rest (by simp) (by simp) (by simp) (by simp)

/-- Entry to HUNT1 in DRAINING makes no close-all request, and leaves a state at rest so (R31). -/
theorem enterHunt1_atRest (cause : HuntCause) (offset : LineNo) (rest : s.atRest) :
    (enterHunt1 cause offset s).atRest := by
  refine atRest_of_engine rest (by simp) (by simp) fun draining => ?_
  obtain ⟨oas, vdu⟩ := enterHunt1_objects cause offset (s := s) (by simp [draining])
  exact ⟨oas, vdu, by simp⟩

theorem syncLoss_atRest (rest : s.atRest) : (syncLoss s).atRest := by
  unfold syncLoss
  split
  · unfold lossEvent
    split
    · exact enterHunt1_atRest _ _ rest
    · exact rest
  all_goals exact rest

/-! ## Settlement (R27) -/

theorem settle_of_received (received : x.samples.any (fun p => p.isSome) = true) (s : State) :
    settle x s
      = syncPartial (bump .linesPartial (setRingSlot { x with state := .partialLine, due := false } s)) :=
  if_pos received

theorem settle_of_nothing_received (nothing : x.samples.any (fun p => p.isSome) = false) (s : State) :
    settle x s = syncLoss (bump .linesLost (setRingSlot { x with state := .lost, due := false } s)) :=
  if_neg (by simp [nothing])

theorem settle_atRest (rest : s.atRest) : (settle x s).atRest := by
  unfold settle
  split
  · exact syncPartial_atRest (s := bump .linesPartial _) rest
  · exact syncLoss_atRest (s := bump .linesLost _) rest

/-- The oldest due slot settles, with its delivery, and no more where the state is at rest (R27, R29). -/
theorem exec_slotDue_of_due
    (found : s.liu.busy.find? (fun y => y.due && decide (y.state = .filling)) = some x) :
    exec .slotDue s = .next (finish (deliver (settle x s))) := by
  show Host.Outcome.next (finish (settleOldest s)) = _
  simp only [settleOldest, found]

theorem exec_slotDue_of_atRest (rest : s.atRest)
    (found : s.liu.busy.find? (fun y => y.due && decide (y.state = .filling)) = some x) :
    exec .slotDue s = .next (deliver (settle x s)) := by
  rw [exec_slotDue_of_due found, finish_of_atRest (deliver_atRest (settle_atRest rest))]

/-- A PARTIAL settlement advances its counter and not that of the lines lost (R27). -/
theorem settle_partial_counts (received : x.samples.any (fun p => p.isSome) = true)
    (length : s.rpu.counters.length = 54) :
    (deliver (settle x s)).counter .linesPartial = s.counter .linesPartial + 1
      ∧ (deliver (settle x s)).counter .linesLost = s.counter .linesLost := by
  rw [deliver_counter (by decide), deliver_counter (by decide), settle_of_received received,
    syncPartial_counter, syncPartial_counter]
  exact ⟨bump_counter_self _ (s := setRingSlot _ s) (by simp [length, Counter.index]),
    bump_counter_of_ne (by decide) _⟩

/-- A LOST settlement advances its counter and not that of the lines PARTIAL (R27). -/
theorem settle_lost_counts (nothing : x.samples.any (fun p => p.isSome) = false)
    (length : s.rpu.counters.length = 54) :
    (deliver (settle x s)).counter .linesLost = s.counter .linesLost + 1
      ∧ (deliver (settle x s)).counter .linesPartial = s.counter .linesPartial := by
  rw [deliver_counter (by decide), deliver_counter (by decide), settle_of_nothing_received nothing,
    syncLoss_counter (by decide), syncLoss_counter (by decide)]
  exact ⟨bump_counter_self _ (s := setRingSlot _ s) (by simp [length, Counter.index]),
    bump_counter_of_ne (by decide) _⟩

/-- The sync effect of a PARTIAL settlement (R27). -/
theorem settle_partial_sync (received : x.samples.any (fun p => p.isSome) = true) :
    (settle x s).liu.sync = s.liu.sync
      ∧ (settle x s).liu.consecutiveLoss = s.liu.consecutiveLoss
      ∧ (settle x s).liu.completeRun
          = (if s.liu.sync = .hunt1 ∨ s.liu.sync = .hunt2 then 0 else s.liu.completeRun) := by
  rw [settle_of_received received]
  exact syncPartial_sync (bump .linesPartial (setRingSlot _ s))

/-- The sync effect of a LOST settlement: a loss event in LOCKED, the end of a complete run while hunting (R27,
R33). -/
theorem settle_lost_sync (nothing : x.samples.any (fun p => p.isSome) = false) :
    (s.liu.sync = .locked → s.liu.consecutiveLoss < 2 →
        (settle x s).liu.sync = .locked
          ∧ (settle x s).liu.consecutiveLoss = s.liu.consecutiveLoss + 1)
      ∧ (s.liu.sync = .locked → 2 ≤ s.liu.consecutiveLoss →
          (settle x s).liu.sync = .hunt1 ∧ (settle x s).liu.consecutiveLoss = 0
            ∧ (settle x s).liu.huntCount = 0 ∧ (settle x s).liu.offset = s.liu.offset)
      ∧ (s.liu.sync = .hunt1 ∨ s.liu.sync = .hunt2 →
          (settle x s).liu.sync = s.liu.sync ∧ (settle x s).liu.completeRun = 0) := by
  rw [settle_of_nothing_received nothing]
  generalize lost : bump .linesLost (setRingSlot { x with state := .lost, due := false } s) = u
  have sync : u.liu.sync = s.liu.sync := by rw [← lost]; rfl
  have loss : u.liu.consecutiveLoss = s.liu.consecutiveLoss := by rw [← lost]; rfl
  have offset : u.liu.offset = s.liu.offset := by rw [← lost]; rfl
  rw [← sync, ← loss, ← offset]
  refine ⟨fun locked few => ?_, fun locked third => ?_, fun hunting => ?_⟩
  · rw [syncLoss_of_locked locked, lossEvent_of_lt few]
    exact ⟨locked, rfl⟩
  · rw [syncLoss_of_locked locked, lossEvent_of_third third, enterHunt1_liu]
    exact ⟨rfl, rfl, rfl, rfl⟩
  · rw [syncLoss_of_hunting hunting]
    exact ⟨rfl, rfl⟩

/-! ## The hunt timeout (R34) -/

theorem huntTimeout_of_none
    (h : s.liu.huntCount < 10 ∨ s.liu.sync = .locked ∨ s.liu.sync = .failed) : huntTimeout s = s := by
  unfold huntTimeout
  rcases h with few | sync | sync
  · exact if_neg (Nat.not_le.2 few)
  · simp [sync]
  · simp [sync]

/-- The ring emptied is eight FREE slots; the sync registers stand (R21). -/
theorem emptyRing_liu (s : State) :
    (emptyRing s).liu
      = { s.liu with busy := [], freeOrder := [0, 1, 2, 3, 4, 5, 6, 7], pendingLost := 0 } := by
  simp [emptyRing, Liu.reset]

/-- HUNT2 ends in FAILED with the ring emptied (R34). -/
theorem enterFailed_liu (s : State) :
    (enterFailed s).liu
      = { s.liu with
          sync := .failed
          huntCount := 0
          busy := []
          freeOrder := [0, 1, 2, 3, 4, 5, 6, 7]
          pendingLost := 0 } := by
  simp [enterFailed, emptyRing_liu]

/-- FAULT entry leaves the ring empty and the sync state FAILED (R175). -/
theorem enterFault_liu (c : FaultCause) (s : State) :
    (enterFault c s).liu
      = { s.liu with
          sync := .failed
          busy := []
          freeOrder := [0, 1, 2, 3, 4, 5, 6, 7]
          pendingLost := 0 } := by
  simp [enterFault, faultEffects, emptyRing_liu]

/-- What the end of an event does: nothing, the drain's running out, or FAULT entry (R172, R175). -/
theorem finish_cases (s : State) :
    finish s = s ∨ finish s = runOut s ∨ ∃ c, finish s = enterFault c s := by
  unfold finish
  split
  · split
    · exact .inr (.inr ⟨_, rfl⟩)
    · exact .inl rfl
  · split
    · split
      · exact .inr (.inl rfl)
      · exact .inl rfl
    · split
      · exact .inl rfl
      · exact .inr (.inr ⟨_, rfl⟩)
    · exact .inl rfl
  all_goals exact .inl rfl

/-- With no close-all request standing the entry to FAILED leaves the drain's conditions (R34, R172). -/
theorem enterFailed_drained (h : s.oas.closeAllDue = false) : (enterFailed s).drained = s.drained := by
  simp [enterFailed, emptyRing, takeCloseAll, h, State.drained, State.quiet]

/-- The entry to FAILED is a fault in SORTING and DRAINING (R34, R175). -/
theorem finish_enterFailed (rest : s.atRest)
    (h : s.cmu.engine = .sorting ∨ (s.cmu.engine = .draining ∧ s.oas.closeAllDue = false)) :
    (finish (enterFailed s)).cmu.engine = .fault
      ∧ (finish (enterFailed s)).cmu.cause = some .syncFailed := by
  obtain ⟨none_stands, running⟩ := rest
  have engine : s.cmu.engine = .sorting ∨ s.cmu.engine = .draining := h.imp_right And.left
  have causes : (enterFailed s).cmu.causes = [.syncFailed] := by
    rw [enterFailed, raiseCause_cmu (by simpa using engine)]
    simp [none_stands]
  rw [finish_of_single_cause causes (by simpa using engine)]
  · exact enterFault_engine _ _
  · intro draining
    have drain : s.cmu.engine = .draining := by simpa using draining
    rcases h with sorting | ⟨_, none_due⟩
    · simp [drain] at sorting
    · rw [enterFailed_drained none_due]
      exact running drain

/-- HUNT1 ends in HUNT2 at rest: the notice is all that the rest of the unit sees (R34). -/
theorem enterHunt2_atRest (rest : s.atRest) : (enterHunt2 s).atRest :=
  atRest_congr rest (by simp) (by simp) (by simp) (by simp)

/-- After the entry to FAILED the ring is empty, whatever the end of the event takes (R34, R175). -/
theorem finish_enterFailed_liu (s : State) :
    (finish (enterFailed s)).liu.sync = .failed ∧ (finish (enterFailed s)).liu.busy = []
      ∧ (finish (enterFailed s)).liu.freeOrder = [0, 1, 2, 3, 4, 5, 6, 7]
      ∧ (finish (enterFailed s)).liu.pendingLost = 0 := by
  rcases finish_cases (enterFailed s) with same | ran_out | ⟨c, faulted⟩
  · simp [same, enterFailed_liu]
  · simp [ran_out, enterFailed_liu]
  · simp [faulted, enterFault_liu]

/-- In STANDBY the entry to FAILED raises no fault (R34, R175). -/
theorem finish_enterFailed_standby (standby : s.cmu.engine = .standby) :
    (finish (enterFailed s)).cmu = s.cmu := by
  have same : (enterFailed s).cmu = s.cmu := by simp [enterFailed, raiseCause, standby]
  rw [finish_of_idle (by simp [same, standby]) (by simp [same, standby]), same]

theorem huntTimeout_of_hunt1 (reached : 10 ≤ s.liu.huntCount) (sync : s.liu.sync = .hunt1) :
    huntTimeout s = enterHunt2 s := by
  simp only [huntTimeout, if_pos reached, sync]

theorem huntTimeout_of_hunt2 (reached : 10 ≤ s.liu.huntCount) (sync : s.liu.sync = .hunt2) :
    huntTimeout s = enterFailed s := by
  simp only [huntTimeout, if_pos reached, sync]

theorem exec_huntTimeout (s : State) : exec .huntTimeout s = .next (finish (huntTimeout s)) := rfl

/-! ## The statement -/

/-- With no slot due and FILLING the settlement finds none (R27). -/
theorem exec_slotDue_of_none (rest : s.atRest)
    (none_due : ∀ x ∈ s.liu.busy, x.due = true → x.state ≠ .filling) : exec .slotDue s = .next s := by
  show Host.Outcome.next (finish (settleOldest s)) = _
  rw [settleOldest_of_none none_due, finish_of_atRest rest]

/-- Settles O43: the delivery that follows a settlement moves neither the sync registers nor the two counters,
and leaves a state at rest; so the sync effect of the settlement stands at the end of the event. -/
theorem dueSlotsAndHuntTimeout : Obligations.DueSlotsAndHuntTimeout := by
  unfold Obligations.DueSlotsAndHuntTimeout
  refine ⟨fun s rest => ⟨exec_slotDue_of_none rest, fun x found => ⟨fun received => ?_, fun nothing => ?_⟩⟩,
    fun s rest => ⟨fun none_due => ?_, fun reached sync => ?_, fun reached sync => ?_⟩⟩
  · refine ⟨by rw [exec_slotDue_of_due found, settle_of_received received], _,
      exec_slotDue_of_atRest rest found, ?_⟩
    obtain ⟨sync, _, loss, run, _, _⟩ := deliver_sync (settle x s)
    obtain ⟨sync', loss', run'⟩ := settle_partial_sync (s := s) received
    exact ⟨sync.trans sync', loss.trans loss', run.trans run', settle_partial_counts received⟩
  · refine ⟨by rw [exec_slotDue_of_due found, settle_of_nothing_received nothing], _,
      exec_slotDue_of_atRest rest found, ?_⟩
    obtain ⟨sync, offset, loss, run, hunt, _⟩ := deliver_sync (settle x s)
    obtain ⟨few, third, hunting⟩ := settle_lost_sync (s := s) nothing
    rw [sync, offset, loss, run, hunt]
    exact ⟨few, third, hunting, settle_lost_counts nothing⟩
  · rw [exec_huntTimeout, huntTimeout_of_none none_due, finish_of_atRest rest]
  · rw [exec_huntTimeout, huntTimeout_of_hunt1 reached sync, finish_of_atRest (enterHunt2_atRest rest)]
    rfl
  · refine ⟨_, by rw [exec_huntTimeout, huntTimeout_of_hunt2 reached sync], ?_⟩
    obtain ⟨failed, busy, free, lost⟩ := finish_enterFailed_liu s
    exact ⟨failed, busy, free, lost, finish_enterFailed rest, finish_enterFailed_standby⟩

end Sys2Proof.Machine
end

section
/-! The closing of every OPEN object (R60, R76): the moves into the Verdict Queue open and close none, so that
after the slots 0 ~ 95 have been closed none is OPEN. -/

namespace Sys2Proof.Machine

variable {s : State}

/-- The object of a slot after a slot was replaced. -/
theorem openObject_setSlot (i j : Nat) (x : OotSlot) (s : State) :
    (s.setSlot i x).openObject j
      = if i = j ∧ i < s.oas.oot.length then x.object? else s.openObject j := by
  simp only [State.openObject, State.setSlot, State.setOas, List.getD_eq_getElem?_getD, List.getElem?_set]
  by_cases same : i = j
  · subst same
    by_cases inside : i < s.oas.oot.length <;> simp [inside]
  · simp [same]

/-- The slot that a move sets FREE was CLOSING (R72). -/
@[simp] theorem openObject_closingMove (j : Nat) (s : State) :
    (closingMove s).openObject j = s.openObject j := by
  unfold closingMove
  split
  · rfl
  · split
    · split
      next i rest _ _ _ o closing =>
        have freed : (s.setSlot i .free).openObject j = s.openObject j := by
          rw [openObject_setSlot]
          split
          next here =>
            obtain ⟨rfl, _⟩ := here
            rw [State.openObject, closing]
            rfl
          next => rfl
        exact freed
      all_goals rfl
    · rfl

@[simp] theorem openObject_vduTake (j : Nat) (s : State) : (vduTake s).openObject j = s.openObject j := by
  simp [State.openObject]

@[simp] theorem openObject_pump (j : Nat) (s : State) : (pump s).openObject j = s.openObject j := by
  have moves (n : Nat) (t : State) : (pumpN n t).openObject j = t.openObject j := by
    induction n generalizing t with
    | zero => rfl
    | succ n ih => rw [pumpN, ih]; simp
  exact moves _ s

/-- The slot closed is no longer OPEN, and every other slot keeps its object (R71). -/
theorem openObject_closeObject (mark : ObjectFlags → ObjectFlags) (i j : Nat) (s : State) :
    (closeObject mark i s).openObject j = if i = j then none else s.openObject j := by
  unfold closeObject
  split
  next none_open =>
    split
    next here => rw [← here, none_open]
    next => rfl
  next o opened =>
    have inside : i < s.oas.oot.length := by
      by_contra outside
      simp [State.openObject, List.getElem?_eq_none (Nat.not_lt.1 outside), OotSlot.object?] at opened
    have closed : (s.setSlot i (.closing { o with flags := mark o.flags })).openObject j
        = if i = j then none else s.openObject j := by
      rw [openObject_setSlot]
      simp [inside, OotSlot.object?]
    rw [openObject_pump]
    exact closed

/-- After the close of every object no slot of the table is OPEN (R60, R76). -/
theorem openObject_closeAllObjects (j : Nat) (s : State) :
    (closeAllObjects s).openObject j = if j < 96 then none else s.openObject j := by
  have below (n : Nat) :
      ((List.range n).foldl (fun t i => closeObject (fun f => { f with lineLoss := true }) i t) s).openObject j
        = if j < n then none else s.openObject j := by
    induction n with
    | zero => rfl
    | succ n ih =>
      rw [List.range_succ, List.foldl_append, List.foldl_cons, List.foldl_nil, openObject_closeObject, ih,
        ← ite_or]
      exact if_congr (by omega) rfl rfl
  exact below 96

/-- With no object read from any slot none is counted OPEN. -/
theorem openCount_eq_zero (h : ∀ j, s.openObject j = none) : s.oas.openCount = 0 := by
  refine List.countP_eq_zero.2 fun x hx opened => ?_
  obtain ⟨j, here⟩ := List.mem_iff_getElem?.1 hx
  have none_open := h j
  rw [State.openObject, List.getD_eq_getElem?_getD, here] at none_open
  cases x with
  | opened o => cases none_open
  | closing o => cases opened
  | free => cases opened

/-- A close-all request taken leaves no object OPEN and no run of the previous line (R76). -/
theorem closeAllRequest_empties (length : s.oas.oot.length = 96) :
    (closeAllRequest s).oas.openCount = 0 ∧ (closeAllRequest s).oas.plr = [] := by
  have none_open (j : Nat) : (closeAllObjects s).openObject j = none := by
    rw [openObject_closeAllObjects]
    split
    next => rfl
    next outside =>
      simp [State.openObject, List.getElem?_eq_none (length ▸ Nat.not_lt.1 outside), OotSlot.object?]
  unfold closeAllRequest
  generalize closeAllObjects s = t at none_open
  exact ⟨openCount_eq_zero (s := t) none_open, rfl⟩

/-- In SORTING with no line in assembly a close-all request is taken where it is made (R31, R76). -/
theorem requestCloseAll_of_sorting (sorting : s.cmu.engine = .sorting)
    (no_line : s.oas.lineInAssembly = none) :
    requestCloseAll s = closeAllRequest (s.setOas { s.oas with closeAllDue := true }) := by
  rw [requestCloseAll, if_pos sorting]
  exact if_pos (by simp [no_line])

/-- Entry to HUNT1 in SORTING closes every object (R31, R76). -/
theorem enterHunt1_empties (cause : HuntCause) (offset : LineNo) (sorting : s.cmu.engine = .sorting)
    (no_line : s.oas.lineInAssembly = none) (length : s.oas.oot.length = 96) :
    (enterHunt1 cause offset s).oas.openCount = 0 ∧ (enterHunt1 cause offset s).oas.plr = [] := by
  have request (x : Liu) : requestCloseAll (s.setLiu x)
      = closeAllRequest ((s.setLiu x).setOas { s.oas with closeAllDue := true }) :=
    requestCloseAll_of_sorting sorting no_line
  have emptied (x : Liu) := closeAllRequest_empties
    (s := (s.setLiu x).setOas { s.oas with closeAllDue := true }) length
  simpa [enterHunt1, request] using emptied _

end Sys2Proof.Machine
end

section
/-! LINE frames (R23 ~ R26, R33, R35, R199): the window part of a frame, what a frame matches, the fill of a slot,
the realignment, and the statement about them. -/

namespace Sys2Proof.Machine

variable {s : State} {x : RingSlot} {m : LineNo} {part : List (Nat × Sample)} {h : Header}
  {payload : List Byte}

/-! ## The window part (R23) and the samples of a slot (R25) -/

theorem mem_windowPart (c : Configuration) (column : Nat) (samples : List Sample) (q : Nat × Sample) :
    q ∈ windowPart c column samples ↔
      ∃ (i : Nat) (p : Sample), samples[i]? = some p ∧ column + i ≤ 4095 ∧ c.windowFirst ≤ column + i
        ∧ column + i ≤ c.windowLast ∧ q = (column + i - c.windowFirst, p) := by
  have placed (y : Nat × Sample) :
      y ∈ mapFrom (fun i p => (column + i, p)) 0 samples
        ↔ ∃ (i : Nat) (p : Sample), samples[i]? = some p ∧ (column + i, p) = y := by
    simp [List.mem_iff_getElem?, getElem?_mapFrom, Option.map_eq_some_iff]
  simp only [windowPart, List.mem_map, List.mem_filter, placed, Bool.and_eq_true, decide_eq_true_eq]
  constructor
  · rintro ⟨_, ⟨⟨i, p, sample, rfl⟩, ⟨in_line, first⟩, last⟩, rfl⟩
    exact ⟨i, p, sample, in_line, first, last, rfl⟩
  · rintro ⟨i, p, sample, in_line, first, last, rfl⟩
    exact ⟨_, ⟨⟨i, p, sample, rfl⟩, ⟨in_line, first⟩, last⟩, rfl⟩

/-- A column received keeps its sample; another has that of the window part, if there is one (R25). -/
theorem getElem?_addSamples (part : List (Nat × Sample)) (samples : List (Option Sample)) (i : Nat) :
    (addSamples part samples)[i]? = samples[i]?.map (fun old => old <|> part.lookup i) := by
  rw [addSamples, getElem?_mapFrom, Nat.zero_add]
  congr 1
  funext old
  cases old <;> rfl

/-! ## What a frame is matched with (R24) -/

theorem matchFrame_of_early (early : 32768 ≤ (s.bpu.line - (m - s.liu.offset)).toNat) :
    matchFrame m part s = syncLoss (bump .framesEarly s) :=
  if_pos early

/-- An EARLY frame in LOCKED before the third loss event in a row (R24, R33). -/
theorem matchFrame_of_early_loss (early : 32768 ≤ (s.bpu.line - (m - s.liu.offset)).toNat)
    (locked : s.liu.sync = .locked) (few : s.liu.consecutiveLoss < 2) :
    matchFrame m part s
      = bump .framesEarly
          (s.setLiu { s.liu with consecutiveLoss := s.liu.consecutiveLoss + 1 }) := by
  rw [matchFrame_of_early early, syncLoss_of_locked (s := bump _ s) locked,
    lossEvent_of_lt (s := bump _ s) few]
  rfl

/-- An EARLY frame that is the third loss event in a row (R24, R33). -/
theorem matchFrame_of_early_third (early : 32768 ≤ (s.bpu.line - (m - s.liu.offset)).toNat)
    (locked : s.liu.sync = .locked) (third : 2 ≤ s.liu.consecutiveLoss) :
    matchFrame m part s = enterHunt1 .loss s.liu.offset (bump .framesEarly s) := by
  rw [matchFrame_of_early early, syncLoss_of_locked (s := bump _ s) locked,
    lossEvent_of_third (s := bump _ s) third]
  rfl

/-- An EARLY frame while hunting ends a complete run (R24). -/
theorem matchFrame_of_early_hunting (early : 32768 ≤ (s.bpu.line - (m - s.liu.offset)).toNat)
    (hunting : s.liu.sync = .hunt1 ∨ s.liu.sync = .hunt2) :
    matchFrame m part s = bump .framesEarly (s.setLiu { s.liu with completeRun := 0 }) := by
  rw [matchFrame_of_early early, syncLoss_of_hunting (s := bump _ s) hunting]
  rfl

/-- A frame that is not EARLY and whose line has no FILLING slot is STALE (R24). -/
theorem matchFrame_of_stale (in_time : ¬ 32768 ≤ (s.bpu.line - (m - s.liu.offset)).toNat)
    (unmatched : ∀ x ∈ s.liu.busy, x.line = m - s.liu.offset → x.state ≠ .filling) :
    matchFrame m part s = bump .framesStale s := by
  have none_found : s.liu.busy.find?
      (fun y => decide (y.line = m - s.liu.offset) && decide (y.state = .filling)) = none := by
    simpa using unmatched
  simp only [matchFrame, if_neg in_time, none_found]

theorem matchFrame_of_match (in_time : ¬ 32768 ≤ (s.bpu.line - (m - s.liu.offset)).toNat)
    (found : s.liu.busy.find?
      (fun y => decide (y.line = m - s.liu.offset) && decide (y.state = .filling)) = some x) :
    matchFrame m part s = fillSlot part x s := by
  simp only [matchFrame, if_neg in_time, found]

/-! ## The fill of a slot (R25, R26) -/

/-- A fill that leaves a column not received (R25). -/
theorem fillSlot_of_open (missing : (addSamples part x.samples).any (fun p => p.isNone) = true) :
    fillSlot part x s
      = bumpBy .duplicateColumns (duplicates part x.samples)
          (setRingSlot { x with samples := addSamples part x.samples } s) := by
  have not_all : ¬ (addSamples part x.samples).all (fun p => p.isSome) = true := by
    simpa using missing
  rw [fillSlot, if_neg not_all]
  rfl

/-- The fill that brings the last column (R26). -/
theorem fillSlot_of_complete (complete : (addSamples part x.samples).all (fun p => p.isSome) = true) :
    fillSlot part x s
      = deliver (syncComplete
          (setRingSlot { x with samples := addSamples part x.samples, state := .complete, due := false }
            (bumpBy .duplicateColumns (duplicates part x.samples) s))) :=
  if_pos complete

theorem syncComplete_atRest (rest : s.atRest) : (syncComplete s).atRest :=
  atRest_congr rest (by simp) (by simp) (by simp) (by simp)

/-- A COMPLETE settlement leaves the line offset, and sets no realignment pending (R26, R32). -/
theorem syncComplete_offset (s : State) :
    (syncComplete s).liu.offset = s.liu.offset
      ∧ (s.liu.realignPending = false → (syncComplete s).liu.realignPending = false) := by
  have hunt : (huntComplete s).liu.offset = s.liu.offset
      ∧ (s.liu.realignPending = false → (huntComplete s).liu.realignPending = false) := by
    unfold huntComplete
    split
    · simp [lock]
    · exact ⟨rfl, id⟩
  unfold syncComplete
  split
  · exact ⟨rfl, id⟩
  · exact hunt
  · exact hunt
  · exact ⟨rfl, id⟩

/-- The sync effect of a COMPLETE settlement at an active unit (R26, R32). -/
theorem syncComplete_sync (active : s.liu.sync ≠ .failed) :
    (syncComplete s).liu.consecutiveLoss
        = (if s.liu.completeRun < 3 ∧ s.liu.sync ≠ .locked then s.liu.consecutiveLoss else 0)
      ∧ (s.liu.sync = .locked → (syncComplete s).liu.sync = .locked)
      ∧ (s.liu.sync ≠ .locked → 3 ≤ s.liu.completeRun → (syncComplete s).liu.sync = .locked)
      ∧ (s.liu.sync ≠ .locked → s.liu.completeRun < 3 →
          (syncComplete s).liu.sync = s.liu.sync
            ∧ (syncComplete s).liu.completeRun = s.liu.completeRun + 1) := by
  by_cases locked : s.liu.sync = .locked
  · simp [syncComplete, locked]
  · have hunts : syncComplete s = huntComplete s := by
      cases sync : s.liu.sync with
      | locked => exact absurd sync locked
      | hunt1 => simp only [syncComplete, sync]
      | hunt2 => simp only [syncComplete, sync]
      | failed => exact absurd sync active
    rw [hunts]
    by_cases below : s.liu.completeRun < 3
    · have rises : huntComplete s = s.setLiu { s.liu with completeRun := s.liu.completeRun + 1 } :=
        if_neg (by omega)
      simp [rises, locked, below, Nat.not_le.2 below]
    · have locks : huntComplete s = lock s := if_pos (by omega)
      simp [locks, lock, locked, below]

theorem fillSlot_atRest (rest : s.atRest) : (fillSlot part x s).atRest := by
  unfold fillSlot
  dsimp only
  split
  · exact deliver_atRest (syncComplete_atRest (s := setRingSlot _ (bumpBy _ _ s)) rest)
  · exact rest

theorem fillSlot_offset (part : List (Nat × Sample)) (x : RingSlot) (s : State) :
    (fillSlot part x s).liu.offset = s.liu.offset
      ∧ (s.liu.realignPending = false → (fillSlot part x s).liu.realignPending = false) := by
  unfold fillSlot
  dsimp only
  split
  · obtain ⟨_, offset, _, _, _, pending⟩ := deliver_sync (syncComplete (setRingSlot
      { x with samples := addSamples part x.samples, state := .complete, due := false }
      (bumpBy .duplicateColumns (duplicates part x.samples) s)))
    rw [offset, pending]
    exact syncComplete_offset (setRingSlot _ (bumpBy _ _ s))
  · exact ⟨rfl, id⟩

/-- A completing fill at an active unit has the sync effect of its settlement, which the delivery leaves
(R26, R32). -/
theorem fillSlot_sync (complete : (addSamples part x.samples).all (fun p => p.isSome) = true)
    (active : s.liu.sync ≠ .failed) :
    (fillSlot part x s).liu.consecutiveLoss
        = (if s.liu.completeRun < 3 ∧ s.liu.sync ≠ .locked then s.liu.consecutiveLoss else 0)
      ∧ (s.liu.sync = .locked → (fillSlot part x s).liu.sync = .locked)
      ∧ (s.liu.sync ≠ .locked → 3 ≤ s.liu.completeRun → (fillSlot part x s).liu.sync = .locked)
      ∧ (s.liu.sync ≠ .locked → s.liu.completeRun < 3 →
          (fillSlot part x s).liu.sync = s.liu.sync
            ∧ (fillSlot part x s).liu.completeRun = s.liu.completeRun + 1) := by
  rw [fillSlot_of_complete complete]
  obtain ⟨sync, _, loss, run, _, _⟩ := deliver_sync (syncComplete (setRingSlot
    { x with samples := addSamples part x.samples, state := .complete, due := false }
    (bumpBy .duplicateColumns (duplicates part x.samples) s)))
  rw [sync, loss, run]
  exact syncComplete_sync (s := setRingSlot _ (bumpBy _ _ s)) active

/-! ## Realignment (R35) -/

theorem realign_of_pending (realigns : s.liu.sync = .hunt2 ∧ s.liu.realignPending = true) :
    realign m s
      = s.setLiu
          { s.liu with
            offset := m - s.bpu.line
            realignPending := false
            busy := s.liu.busy.map (fun y =>
              if y.state = .filling then { y with samples := y.samples.map (fun _ => none) } else y) } :=
  if_pos (by simp [realigns])

theorem realign_of_not (settled : ¬ (s.liu.sync = .hunt2 ∧ s.liu.realignPending = true)) :
    realign m s = s :=
  if_neg (by simpa using settled)

theorem realign_realignPending (m : LineNo) (s : State) :
    ¬ ((realign m s).liu.sync = .hunt2 ∧ (realign m s).liu.realignPending = true) := by
  by_cases realigns : s.liu.sync = .hunt2 ∧ s.liu.realignPending = true
  · simp [realign_of_pending realigns]
  · rwa [realign_of_not realigns]

theorem doChoose_of_pause (pause : (s.lki.pauseDue && decide (s.lki.link = .up)) = true) :
    doChoose s
      = bump .pausesSent (s.setLki { s.lki with doFrame := some pauseFrame, pauseDue := false }) :=
  if_pos pause

theorem doChoose_of_empty (pause : ¬ (s.lki.pauseDue && decide (s.lki.link = .up)) = true)
    (queue : s.lki.forwardQueue = []) : doChoose s = s := by
  rw [doChoose, if_neg pause, queue]

theorem doChoose_of_frame {f : Frame} {waiting : List Frame}
    (pause : ¬ (s.lki.pauseDue && decide (s.lki.link = .up)) = true)
    (queue : s.lki.forwardQueue = f :: waiting) :
    doChoose s = s.setLki { s.lki with doFrame := some f, forwardQueue := waiting } := by
  rw [doChoose, if_neg pause, queue]

theorem doChoose_setLiu (l : Liu) (s : State) : doChoose (s.setLiu l) = (doChoose s).setLiu l := by
  by_cases pause : (s.lki.pauseDue && decide (s.lki.link = .up)) = true
  · rw [doChoose_of_pause pause, doChoose_of_pause (s := s.setLiu l) pause]
    rfl
  · cases queue : s.lki.forwardQueue with
    | nil => rw [doChoose_of_empty pause queue, doChoose_of_empty (s := s.setLiu l) pause queue]
    | cons f waiting =>
      rw [doChoose_of_frame pause queue, doChoose_of_frame (s := s.setLiu l) pause queue]
      rfl

theorem doKick_setLiu (l : Liu) (s : State) : doKick (s.setLiu l) = (doKick s).setLiu l := by
  rw [doKick, doChoose_setLiu, doKick, apply_ite (State.setLiu · l)]
  rfl

theorem joinForward_of_room {f : Frame} (room : s.lki.forwardQueue.length < 2) :
    joinForward f s = doKick (s.setLki { s.lki with forwardQueue := s.lki.forwardQueue ++ [f] }) :=
  if_pos room

theorem joinForward_of_full {f : Frame} (full : ¬ s.lki.forwardQueue.length < 2) :
    joinForward f s = bump .forwardDrops s :=
  if_neg full

theorem joinForward_setLiu (f : Frame) (l : Liu) (s : State) :
    joinForward f (s.setLiu l) = (joinForward f s).setLiu l := by
  by_cases room : s.lki.forwardQueue.length < 2
  · rw [joinForward_of_room room, joinForward_of_room (s := s.setLiu l) room]
    exact doKick_setLiu l (s.setLki _)
  · rw [joinForward_of_full room, joinForward_of_full (s := s.setLiu l) room]
    rfl

/-- The hearing of a frame neither reads nor changes the Line Intake Unit. -/
theorem heard_setLiu (f : Frame) (l : Liu) (s : State) :
    (s.setLiu l).heard f = (s.heard f).setLiu l := by
  have arrives : arrive (s.setLiu l) = (arrive s).setLiu l := doKick_setLiu l (s.setLki _)
  rw [State.heard, arrives, State.heard, forward, forward]
  cases forwardOf f with
  | none => rfl
  | some g => exact joinForward_setLiu g l (arrive s)

theorem heard_realign (f : Frame) (m : LineNo) (s : State) :
    (realign m s).heard f = realign m (s.heard f) := by
  by_cases realigns : s.liu.sync = .hunt2 ∧ s.liu.realignPending = true
  · rw [realign_of_pending realigns, heard_setLiu, realign_of_pending (by simpa using realigns)]
    simp
  · rw [realign_of_not realigns, realign_of_not (by simpa using realigns)]

/-! ## The intake of a frame (R21, R23, R199) -/

/-- A frame that meets an inactive unit, is malformed or has no window part is ignored (R21, R23, R199). -/
theorem intakeFrame_of_ignored
    (ignored : s.liuActive = false ∨ linePayloadGood payload = false
      ∨ windowPart s.cmu.config (u16 payload 2) (samplesOf (payload.drop 6)) = []) :
    intakeFrame payload s = s := by
  refine if_neg ?_
  rcases ignored with inactive | malformed | outside
  · simp [inactive]
  · simp [malformed]
  · simp [outside]

/-- The frame is one the Line Intake Unit acts on: the unit is active, the payload is well formed and has a
window part (R21, R23, R199). -/
def State.takesFrame (s : State) (payload : List Byte) : Prop :=
  s.liuActive = true ∧ linePayloadGood payload = true
    ∧ windowPart s.cmu.config (u16 payload 2) (samplesOf (payload.drop 6)) ≠ []

theorem intakeFrame_of_taken (taken : s.takesFrame payload) :
    intakeFrame payload s
      = matchFrame (BitVec.ofNat 16 (u16 payload 0))
          (windowPart s.cmu.config (u16 payload 2) (samplesOf (payload.drop 6)))
          (realign (BitVec.ofNat 16 (u16 payload 0)) s) := by
  obtain ⟨active, good, inside⟩ := taken
  exact if_pos (by simp [active, good, inside])

theorem exec_lineFrame (h : Header) (fits : payload.length ≤ maxPayload) (s : State) :
    exec (.lineFrame h payload) s
      = .next (finish (intakeFrame payload
          (s.heard { ftype := 0x01, hdr := h, payload := payload }))) := by
  show Host.Outcome.next (receiveDi _ s) = _
  rw [receiveDi_of_fits _ s fits]
  rfl

theorem heard_liuActive (f : Frame) (s : State) : (s.heard f).liuActive = s.liuActive := by
  simp [State.liuActive]

theorem heard_atRest (f : Frame) (rest : s.atRest) : (s.heard f).atRest :=
  atRest_congr rest (by simp) (by simp) (by simp) (by simp)

/-- A frame acted on is matched in the state that has heard it, realigned where a realignment is pending
(R24, R35). -/
theorem exec_lineFrame_of_taken (h : Header) (fits : payload.length ≤ maxPayload)
    (taken : s.takesFrame payload) :
    exec (.lineFrame h payload) s
      = .next (finish (matchFrame (BitVec.ofNat 16 (u16 payload 0))
          (windowPart s.cmu.config (u16 payload 2) (samplesOf (payload.drop 6)))
          (realign (BitVec.ofNat 16 (u16 payload 0))
            (s.heard { ftype := 0x01, hdr := h, payload := payload })))) := by
  rw [exec_lineFrame h fits, intakeFrame_of_taken (by simpa [State.takesFrame, heard_liuActive] using taken)]
  simp

/-- With a realignment pending the frame acts as it does in the realigned state (R35). -/
theorem exec_lineFrame_realign (h : Header) (fits : payload.length ≤ maxPayload)
    (taken : s.takesFrame payload) :
    exec (.lineFrame h payload) s
      = exec (.lineFrame h payload) (realign (BitVec.ofNat 16 (u16 payload 0)) s) := by
  have still : (realign (BitVec.ofNat 16 (u16 payload 0)) s).liuActive = s.liuActive := by
    by_cases realigns : s.liu.sync = .hunt2 ∧ s.liu.realignPending = true
    · simp [realign_of_pending realigns, State.liuActive]
    · rw [realign_of_not realigns]
  rw [exec_lineFrame_of_taken h fits taken,
    exec_lineFrame_of_taken h fits (by simpa [State.takesFrame, still] using taken), heard_realign,
    realign_of_not (realign_realignPending _ (s.heard _))]
  simp

/-- A frame that is not EARLY leaves a state at rest, and the line offset (R24 ~ R26). -/
theorem matchFrame_in_time (in_time : ¬ 32768 ≤ (s.bpu.line - (m - s.liu.offset)).toNat)
    (rest : s.atRest) :
    (matchFrame m part s).atRest ∧ (matchFrame m part s).liu.offset = s.liu.offset
      ∧ (s.liu.realignPending = false → (matchFrame m part s).liu.realignPending = false) := by
  cases found : s.liu.busy.find?
      (fun y => decide (y.line = m - s.liu.offset) && decide (y.state = .filling)) with
  | none =>
    rw [matchFrame_of_stale in_time (by simpa using found)]
    exact ⟨rest, rfl, id⟩
  | some x =>
    rw [matchFrame_of_match in_time found]
    exact ⟨fillSlot_atRest rest, fillSlot_offset part x s⟩

/-- Once realigned to its line a frame is not EARLY, and its match leaves the new offset (R35, R36). -/
theorem matchFrame_of_realigned (realigns : s.liu.sync = .hunt2 ∧ s.liu.realignPending = true)
    (rest : s.atRest) :
    (matchFrame m part (realign m s)).atRest
      ∧ (matchFrame m part (realign m s)).liu.offset = m - s.bpu.line
      ∧ (matchFrame m part (realign m s)).liu.realignPending = false := by
  have offset : (realign m s).liu.offset = m - s.bpu.line := by simp [realign_of_pending realigns]
  have settled : (realign m s).liu.realignPending = false := by simp [realign_of_pending realigns]
  have in_time : ¬ 32768 ≤ ((realign m s).bpu.line - (m - (realign m s).liu.offset)).toNat := by
    simp [offset]
  obtain ⟨rest', offset', settled'⟩ := matchFrame_in_time (part := part) in_time
    (atRest_congr rest (by simp) (by simp) (by simp) (by simp))
  exact ⟨rest', offset'.trans offset, settled' settled⟩

/-! ## The statement -/

/-- Settles O41: a frame that the unit acts on is matched in the state that has heard it, which differs from the
state before in the link alone; each clause is the branch of the match that its conditions name. -/
theorem lineFramesFillTheRing : Obligations.LineFramesFillTheRing := by
  unfold Obligations.LineFramesFillTheRing
  intro h payload s fits
  have hearing := heard_keeps { ftype := 0x01, hdr := h, payload := payload } s
  have still := heard_liuActive { ftype := 0x01, hdr := h, payload := payload } s
  have resting (rest : s.atRest) := heard_atRest { ftype := 0x01, hdr := h, payload := payload } rest
  have executes := exec_lineFrame h fits s
  have acts (taken : s.takesFrame payload) := exec_lineFrame_of_taken h fits taken
  generalize s.heard { ftype := 0x01, hdr := h, payload := payload } = u at *
  obtain ⟨_, bpu, liu, _, oas, _, _, _, _, cmu, _⟩ := hearing
  generalize samples : windowPart s.cmu.config (u16 payload 2) (samplesOf (payload.drop 6)) = part at *
  dsimp only
  refine ⟨fun q => samples ▸ mem_windowPart _ _ _ q, fun ignored => ?_, fun active good inside => ?_⟩
  · rw [executes, intakeFrame_of_ignored (by rwa [still, cmu, samples])]
  have taken : s.takesFrame payload := ⟨active, good, samples ▸ inside⟩
  have sync_active : u.liu.sync ≠ .failed := by
    rw [liu]
    intro failed
    simp [State.liuActive, failed] at active
  rw [← liu, ← bpu, ← oas, ← cmu]
  have unaligned (settled : ¬ (u.liu.sync = .hunt2 ∧ u.liu.realignPending = true)) :
      exec (.lineFrame h payload) s
        = .next (finish (matchFrame (BitVec.ofNat 16 (u16 payload 0)) part u)) := by
    rw [acts taken, realign_of_not settled]
  refine ⟨fun settled early locked few => ?_, fun settled early locked third rest => ?_,
    fun settled early hunting => ?_, fun settled in_time unmatched => ?_,
    fun x settled in_time found => ⟨fun missing => ?_, fun complete => ?_, getElem?_addSamples part _,
      fun complete rest => ?_⟩,
    fun realigns => ?_, fun realigns rest => ?_⟩
  · rw [unaligned settled, matchFrame_of_early_loss early locked few]
  · refine ⟨enterHunt1 .loss u.liu.offset (bump .framesEarly u), ?_, ?_⟩
    · rw [unaligned settled, matchFrame_of_early_third early locked third,
        finish_of_atRest (enterHunt1_atRest _ _ (s := bump _ u) (resting rest))]
    · rw [enterHunt1_liu]
      exact ⟨rfl, rfl, rfl, fun sorting no_line length =>
        enterHunt1_empties (s := bump _ u) _ _ sorting no_line length⟩
  · rw [unaligned settled, matchFrame_of_early_hunting early hunting]
  · rw [unaligned settled, matchFrame_of_stale in_time unmatched]
  · rw [unaligned settled, matchFrame_of_match in_time found, fillSlot_of_open missing]
  · rw [unaligned settled, matchFrame_of_match in_time found, fillSlot_of_complete complete]
  · refine ⟨fillSlot part x u, ?_, fillSlot_sync complete sync_active⟩
    rw [unaligned settled, matchFrame_of_match in_time found,
      finish_of_atRest (fillSlot_atRest (resting rest))]
  · rw [liu, bpu, exec_lineFrame_realign h fits taken, realign_of_pending (liu ▸ realigns)]
  · obtain ⟨rest', offset, cleared⟩ := matchFrame_of_realigned
      (m := BitVec.ofNat 16 (u16 payload 0)) (part := part) realigns (resting rest)
    refine ⟨_, ?_, offset, cleared⟩
    rw [acts taken, finish_of_atRest rest']

end Sys2Proof.Machine
end

section
/-! The Pixel Classifier: the correction of a channel (R42), the colour lookup (R43, R44), the NIR band (R45),
the class row (R40, R41), and the statement about a sample's class. -/

namespace Sys2Proof.Machine

variable {cal : ColumnCal} {bank : ProductBank} {p : Sample} {i n : Nat} {v : ClassCode} {e : NbtEntry}

/-! ## Correction and colour lookup (R42, R43) -/

theorem ChannelCal.correct_le (c : ChannelCal) (v : Nat) : c.correct v ≤ 255 := by
  unfold ChannelCal.correct
  split <;> omega

/-- Channels of 0 ~ 255 index the 32,768 entries of the CCT (R43). -/
theorem cctIndex_lt {r g b : Nat} (hr : r ≤ 255) (hg : g ≤ 255) (hb : b ≤ 255) :
    cctIndex r g b < 32768 := by
  unfold cctIndex
  omega

/-! ## The NIR band and the class of a sample (R44, R45) -/

theorem nirBand_inside (low : e.low ≤ n) (high : n ≤ e.high) :
    nirBand e n v = { code := v, badBlock := false, override := false } :=
  if_neg (by omega)

theorem nirBand_outside (outside : n < e.low ∨ e.high < n) :
    nirBand e n v = { code := e.override, badBlock := false, override := true } :=
  if_pos outside

/-- A pixel in a BAD block is FAULT, with neither its entry nor the NIR band read (R44). -/
theorem classify_of_bad
    (index : cctIndex (cal.r.correct p.r.toNat) (cal.g.correct p.g.toNat) (cal.b.correct p.b.toNat) = i)
    (bad : (bank.block (i / 256)).state = .bad) :
    classify cal bank p = { code := 15, badBlock := true, override := false } := by
  subst index
  exact if_pos bad

/-- A pixel in another block has its entry tested against the NIR band of that entry's class (R43, R45). -/
theorem classify_of_read
    (index : cctIndex (cal.r.correct p.r.toNat) (cal.g.correct p.g.toNat) (cal.b.correct p.b.toNat) = i)
    (read : (bank.block (i / 256)).state ≠ .bad)
    (entry : (bank.block (i / 256)).codes.getD (i % 256) 0 = v) (band : bank.nbt[v.val]? = some e) :
    classify cal bank p = nirBand e (cal.n.correct p.n.toNat) v := by
  simp only [classify, index, if_neg read, entry]
  rw [List.getD_eq_getElem?_getD, band, Option.getD_some]

/-! ## The class row (R40) -/

/-- Each window column has the class of its own sample by its own CCal entry (R40, R42). -/
theorem getElem?_classifyLine (ccal : List ColumnCal) (bank : ProductBank)
    (samples : List (Option Sample)) (x : Nat) :
    (classifyLine ccal bank samples)[x]?
      = samples[x]?.map (fun p => classifyColumn (ccal.getD x ColumnCal.powerOn) bank p) := by
  rw [classifyLine, getElem?_mapFrom, Nat.zero_add]

/-- Settles O45: a column not received is BACKGROUND; a received sample takes the branch of its CCT block, and
outside a BAD block the branch of the NIR band. -/
theorem pixelClass : Obligations.PixelClass := by
  unfold Obligations.PixelClass
  refine ⟨fun _ _ => rfl, fun _ _ => rfl, getElem?_classifyLine, fun cal bank p => ?_⟩
  intro r g b n index block v
  refine ⟨cctIndex_lt (cal.r.correct_le _) (cal.g.correct_le _) (cal.b.correct_le _),
    fun bad => classify_of_bad rfl bad, fun e read band => ?_⟩
  have tested : classifyColumn cal bank (some p) = nirBand e n v := classify_of_read rfl read rfl band
  exact ⟨fun low high => tested.trans (nirBand_inside low high),
    fun outside => tested.trans (nirBand_outside outside)⟩

end Sys2Proof.Machine
end

section
/-! CALIBRATE: its acceptance (R46), the lines it skips and captures (R47, R48), its completion (R50 ~ R52),
and the statement about it. -/

namespace Sys2Proof.Machine

variable {s : State} {k : Capture} {x : RingSlot} {n : Nat}

/-! ## Acceptance (R46) -/

theorem doCalibrate_of_unwindowed (none_own : s.cmu.config.ownLast < s.cmu.config.ownFirst)
    (tag : Word16) : doCalibrate tag s = answer .calibrate tag .badParam 2 [] s := by
  simp [doCalibrate, Configuration.windowed, none_own]

theorem doCalibrate_of_unlocked (window : s.cmu.config.ownFirst ≤ s.cmu.config.ownLast)
    (unlocked : s.liu.sync ≠ .locked) (tag : Word16) :
    doCalibrate tag s = answer .calibrate tag .notLocked 0 [] s := by
  simp [doCalibrate, Configuration.windowed, window, unlocked]

theorem doCalibrate_of_locked (window : s.cmu.config.ownFirst ≤ s.cmu.config.ownLast)
    (locked : s.liu.sync = .locked) (tag : Word16) :
    doCalibrate tag s
      = beginCommand .calibrate tag (s.setCapture (some (Capture.start s.cmu.config.width))) := by
  simp [doCalibrate, Configuration.windowed, window, locked]

theorem doCalibrate_engine (tag : Word16) (s : State) :
    (doCalibrate tag s).cmu.engine = s.cmu.engine := by
  unfold doCalibrate
  repeat' split
  all_goals simp [answer]

/-- An accepted CALIBRATE meets its own tests in the state that has heard it; in STANDBY its event ends
there. -/
theorem exec_calibrate_of_accepts {h : Header} {params : List Byte}
    (accepted : s.accepts .calibrate h params) :
    exec (.calibrate h params) s = .next (doCalibrate h.tag (s.heardCommand .calibrate h params)) := by
  have standby : s.cmu.engine = .standby := by
    obtain ⟨_, _, taken, _⟩ := accepted
    simpa [Command.takenIn] using taken
  show Host.Outcome.next (receiveDi (commandOf .calibrate h params) s) = _
  rw [receiveDi_of_accepts accepted, acceptCommand, finish_of_idle] <;>
    simp [doCalibrate_engine, standby]

/-! ## The end of CALIBRATE (R48, R50 ~ R53) -/

/-- The executing CALIBRATE ends: its capture is discarded, it executes no longer, and it is answered. -/
theorem endCalibrate_of_executing {e : Executing} (executing : s.cmu.executing = some e)
    (calibrate : e.command = .calibrate) (status : Status) (detail : Nat) :
    endCalibrate status detail s
      = answer .calibrate e.tag status detail []
          ((s.setCapture none).setCmu { s.cmu with executing := none }) := by
  simp [endCalibrate, endCommand, executing, calibrate, answer]

/-- What was captured shows nowhere in the end. -/
theorem endCalibrate_setCapture (status : Status) (detail : Nat) (c : Option Capture) (s : State) :
    endCalibrate status detail (s.setCapture c) = endCalibrate status detail s := rfl

/-! ## Skipped lines (R47, R48) -/

theorem skipLine_of_lt (capture : s.capture = some k) (few : k.skipped + 1 < 16) :
    skipLine s = s.setCapture (some { k with skipped := k.skipped + 1 }) := by
  simp only [skipLine, capture]
  exact if_neg (by omega)

/-- The sixteenth skip ends the command (R48). -/
theorem skipLine_of_sixteenth (capture : s.capture = some k) (sixteenth : 16 ≤ k.skipped + 1) :
    skipLine s = endCalibrate .calLineLoss 0 s := by
  simp only [skipLine, capture]
  exact if_pos sixteenth

theorem skipLines_of_lt (capture : s.capture = some k) (few : k.skipped + n < 16) :
    skipLines n s = s.setCapture (some { k with skipped := k.skipped + n }) := by
  induction n generalizing s k with
  | zero => rw [skipLines, Nat.add_zero, ← capture]; rfl
  | succ n ih =>
    rw [skipLines, skipLine_of_lt capture (by omega), ih rfl (by simp only; omega)]
    simp only [State.setCapture, Nat.add_assoc, Nat.add_comm 1 n]

theorem skipLines_of_sixteenth (capture : s.capture = some k) (before : k.skipped < 16)
    (sixteenth : 16 ≤ k.skipped + n) : skipLines n s = endCalibrate .calLineLoss 0 s := by
  induction n generalizing s k with
  | zero => omega
  | succ n ih =>
    rw [skipLines]
    by_cases few : k.skipped + 1 < 16
    · rw [skipLine_of_lt capture few, ih rfl few (by simp only; omega), endCalibrate_setCapture]
    · rw [skipLine_of_sixteenth capture (by omega), skipLines_of_none n (by simp)]

/-! ## The slot's own line (R47) -/

theorem captureOwn_of_nosync (nosync : x.nosync = true) (s : State) : captureOwn x s = s := by
  unfold captureOwn
  split <;> simp [nosync]

theorem captureOwn_of_incomplete (capture : s.capture = some k) (nosync : x.nosync = false)
    (incomplete : x.state ≠ .complete) : captureOwn x s = skipLine s := by
  simp [captureOwn, capture, nosync, incomplete]

theorem captureOwn_of_complete (capture : s.capture = some k) (nosync : x.nosync = false)
    (complete : x.state = .complete) :
    captureOwn x s
      = calibrateIfDone
          (s.setCapture
            (some
              { k with
                captured := k.captured + 1
                columns := captureColumns s.tbs.ccal x.samples k.columns })) := by
  simp [captureOwn, capture, nosync, complete]

theorem captureSlot_of_none_lost (none_lost : x.lostBefore = 0) (s : State) :
    captureSlot x s = captureOwn x s := by
  simp [captureSlot, none_lost, skipLines]

/-- The lines lost before the slot are skipped, and then its own line is met (R47). -/
theorem captureSlot_of_lost_before (capture : s.capture = some k)
    (few : k.skipped + x.lostBefore < 16) :
    captureSlot x s
      = captureSlot { x with lostBefore := 0 }
          (s.setCapture (some { k with skipped := k.skipped + x.lostBefore })) := by
  rw [captureSlot, captureSlot_of_none_lost rfl, Nat.min_eq_left (by omega),
    skipLines_of_lt capture few]
  rfl

/-- The sixteenth skip among the lines lost before ends the command, and the slot's own line is not captured
(R48). -/
theorem captureSlot_of_sixteenth (capture : s.capture = some k) (before : k.skipped < 16)
    (sixteenth : 16 ≤ k.skipped + x.lostBefore) :
    captureSlot x s = endCalibrate .calLineLoss 0 s := by
  rw [captureSlot, skipLines_of_sixteenth capture before (by omega)]
  simp [captureOwn]

/-- Each column of a line captured takes its dark-corrected sample (R47). -/
theorem getElem?_captureColumns (ccal : List ColumnCal) (samples : List (Option Sample))
    (columns : List ColumnCapture) (i : Nat) :
    (captureColumns ccal samples columns)[i]?
      = columns[i]?.map (fun q => (samples.getD i none).elim q (q.add (ccal.getD i ColumnCal.powerOn))) := by
  rw [captureColumns, getElem?_mapFrom, Nat.zero_add]
  cases samples.getD i none <;> rfl

/-! ## Completion (R50 ~ R52) -/

theorem calibrateIfDone_of_none (idle : s.capture = none) : calibrateIfDone s = s := by
  simp [calibrateIfDone, idle]

theorem calibrateIfDone_of_lt (capture : s.capture = some k) (few : k.captured < 64) :
    calibrateIfDone s = s := by
  simp only [calibrateIfDone, capture]
  exact if_neg (by omega)

theorem calibrateIfDone_of_done (capture : s.capture = some k) (done : 64 ≤ k.captured) :
    calibrateIfDone s = completeCalibrate k s := by
  simp only [calibrateIfDone, capture]
  exact if_pos done

/-- An unsteady column ends the command before any gain is formed (R50). -/
theorem completeCalibrate_of_unsteady {i : Nat}
    (unsteady : k.columns.findIdx? (ColumnCapture.unsteady s.cmu.config.calTolerance) = some i) :
    completeCalibrate k s = endCalibrate .calUnsteady (s.cmu.config.windowFirst + i) s := by
  simp [completeCalibrate, unsteady]

/-- A column without a gain in range ends a steady capture (R51). -/
theorem completeCalibrate_of_range {i : Nat}
    (steady : ∀ q ∈ k.columns, q.unsteady s.cmu.config.calTolerance = false)
    (range : k.columns.findIdx? (fun q => (gainsOf s.cmu.config q).isNone) = some i) :
    completeCalibrate k s = endCalibrate .calRange (s.cmu.config.windowFirst + i) s := by
  simp [completeCalibrate, List.findIdx?_eq_none_iff.2 steady, range]

/-- A steady capture with all its gains in range writes them together (R52). -/
theorem completeCalibrate_of_gains
    (steady : ∀ q ∈ k.columns, q.unsteady s.cmu.config.calTolerance = false)
    (gains : ∀ q ∈ k.columns, (gainsOf s.cmu.config q).isSome = true) :
    completeCalibrate k s
      = endCalibrate .ok 0
          (s.setTbs { s.tbs with ccal := writeGains s.cmu.config k.columns s.tbs.ccal }) := by
  have in_range : k.columns.findIdx? (fun q => (gainsOf s.cmu.config q).isNone) = none :=
    List.findIdx?_eq_none_iff.2 fun q hq => by
      rw [Option.isNone_eq_false_iff]
      exact gains q hq
  simp [completeCalibrate, List.findIdx?_eq_none_iff.2 steady, in_range]

/-- The entry of a column of the window has its gains replaced; every other entry stands (R52). -/
theorem getElem?_writeGains (c : Configuration) (columns : List ColumnCapture) (ccal : List ColumnCal)
    (i : Nat) :
    (writeGains c columns ccal)[i]?
      = ccal[i]?.map (fun e => (columns[i]?.bind (gainsOf c)).elim e e.setGains) := by
  rw [writeGains, getElem?_mapFrom, Nat.zero_add]
  cases columns[i]? <;> rfl

/-! ## The gain (R51) -/

theorem gainOf_zero (t : Nat) : gainOf t 0 = none := if_pos rfl

/-- The gain is the `g` with `g - 1/2 ≤ 16,384 x t / s < g + 1/2`, if it lies in range (R51). -/
theorem gainOf_of_rounds {t sum g : Nat} (positive : 0 < sum)
    (least : 2 * g * sum ≤ 2 * 16384 * t + sum) (greatest : 2 * 16384 * t + sum < 2 * (g + 1) * sum) :
    gainOf t sum = if 128 ≤ g ∧ g ≤ 511 then some g else none := by
  have rounded : (2 * 16384 * t + sum) / (2 * sum) = g :=
    Nat.div_eq_of_lt_le (by linarith) (by linarith)
  rw [gainOf, if_neg (by omega), rounded]

/-! ## The statement -/

/-- Settles O31: an accepted command meets R46's tests in turn, a delivered slot is skipped or captured line
by line, and 64 lines captured end in the first of R50's, R51's and R52's cases that holds. -/
theorem calibrateCapturesAndCompletes : Obligations.CalibrateCapturesAndCompletes := by
  unfold Obligations.CalibrateCapturesAndCompletes
  refine ⟨⟨fun h p s accepted => ?_, fun s => ⟨fun idle => ?_, fun k capture few => ?_, ?_⟩⟩,
    fun x k s capture => ?_, fun x s idle => captureSlot_of_none x idle,
    fun t sum => ⟨gainOf_zero t, fun positive g => gainOf_of_rounds positive⟩⟩
  · rw [exec_calibrate_of_accepts accepted]
    refine ⟨fun unwindowed => ?_, fun window unlocked => ?_, fun window locked => ?_⟩
    · rw [doCalibrate_of_unwindowed (by simpa using unwindowed)]
    · rw [doCalibrate_of_unlocked (by simpa using window) (by simpa using unlocked)]
    · rw [doCalibrate_of_locked (by simpa using window) (by simpa using locked)]
      simp [beginCommand, Capture.start, Accumulator.start]
  · exact congrArg Host.Outcome.next (calibrateIfDone_of_none idle)
  · exact congrArg Host.Outcome.next (calibrateIfDone_of_lt capture few)
  · intro k e capture done executing calibrate ended column
    have completes {t : State} (completed : completeCalibrate k s = t) :
        exec .calibrateCompletion s = .next t :=
      congrArg Host.Outcome.next ((calibrateIfDone_of_done capture done).trans completed)
    have ends (status : Status) (detail : Nat) {t : State} (cmu : t.cmu = s.cmu) :
        endCalibrate status detail t = ended status detail t := by
      rw [endCalibrate_of_executing (cmu ▸ executing) calibrate, cmu]
    refine ⟨fun i unsteady => completes ((completeCalibrate_of_unsteady unsteady).trans (ends _ _ rfl)),
      fun i steady range =>
        completes ((completeCalibrate_of_range steady range).trans (ends _ _ rfl)),
      fun good => ⟨writeGains s.cmu.config k.columns s.tbs.ccal, completes ?_, fun i => ?_⟩⟩
    · exact (completeCalibrate_of_gains (fun q hq => (good q hq).1) (fun q hq => (good q hq).2)).trans
        (ends _ _ rfl)
    · rw [getElem?_writeGains]
      cases k.columns[i]?.bind (gainsOf s.cmu.config) <;> rfl
  · intro own lost
    have ends {t : State} (ended : t = endCalibrate .calLineLoss 0 s) : lost t :=
      fun e executing calibrate => ended.trans (endCalibrate_of_executing executing calibrate _ _)
    have own_line : captureSlot own s = captureOwn own s := captureSlot_of_none_lost rfl s
    refine ⟨captureSlot_of_lost_before capture,
      fun before sixteenth => ends (captureSlot_of_sixteenth capture before sixteenth),
      fun nosync => own_line.trans (captureOwn_of_nosync nosync s),
      fun nosync incomplete => ?_, fun nosync complete => ?_⟩
    · have skips : captureSlot own s = skipLine s :=
        own_line.trans (captureOwn_of_incomplete capture nosync (by
          rcases incomplete with state | state <;> simp [own, state]))
      exact ⟨fun few => skips.trans (skipLine_of_lt capture few),
        fun sixteenth => ends (skips.trans (skipLine_of_sixteenth capture sixteenth))⟩
    · refine ⟨congrArg Host.Outcome.next (own_line.trans (captureOwn_of_complete capture nosync complete)),
        fun i => ?_⟩
      rw [getElem?_captureColumns]
      cases x.samples.getD i none <;> rfl

end Sys2Proof.Machine
end

section
/-! The runs of a class row (R61): the run of a block of columns not of class 0, and the list of runs grown
column by column. The statement about them. -/

namespace Sys2Proof.Machine

/-! ## The run of a block of columns -/

/-- The pixel counts by class of a block of columns. -/
def blockClasses (block : List ClassCode) : List Nat :=
  block.foldl (fun counts k => addClass k counts) (List.replicate 16 0)

/-- The run under way after a block of columns not of class 0, the first of them at `column`: what
`scanRuns` carries. -/
def blockRun (column : Nat) (block : List ClassCode) : Option Run :=
  if block = [] then none
  else some { first := column, last := column + block.length - 1, classes := blockClasses block }

theorem blockClasses_append (block : List ClassCode) (k : ClassCode) :
    blockClasses (block ++ [k]) = addClass k (blockClasses block) := by
  simp [blockClasses]

/-- Each class is counted in its place. -/
theorem getElem?_blockClasses (block : List ClassCode) (k : ClassCode) :
    (blockClasses block)[k.val]? = some (block.countP (fun x => decide (x = k))) := by
  induction block using List.reverseRecOn with
  | nil => simpa [blockClasses] using List.getElem?_replicate_of_lt k.isLt
  | append_singleton block j ih =>
    rw [blockClasses_append, addClass, List.getElem?_modify, ih, List.countP_append]
    by_cases same : j = k
    · simp [same]
    · simp [same, Fin.val_inj]

/-- A column of class 0 ends the run under way. -/
theorem scanRuns_zero (column : Nat) (under_way : Option Run) (ks : List ClassCode) :
    scanRuns column under_way (0 :: ks) = under_way.toList ++ scanRuns (column + 1) none ks := by
  cases under_way <;> rfl

/-- A column not of class 0 begins a run, or makes the run under way longer. -/
theorem scanRuns_cons (column : Nat) (under_way : Option Run) {k : ClassCode} (h : k ≠ 0)
    (ks : List ClassCode) :
    scanRuns column under_way (k :: ks)
      = scanRuns (column + 1) (some (under_way.elim (Run.single column k) (fun r => r.extend column k)))
          ks := by
  cases under_way <;> simp [scanRuns, h]

/-- A column not of class 0 makes the block, and the run, one longer. -/
theorem scanRuns_blockRun_cons (column : Nat) (block : List ClassCode) {k : ClassCode} (h : k ≠ 0)
    (ks : List ClassCode) :
    scanRuns (column + block.length) (blockRun column block) (k :: ks)
      = scanRuns (column + (block ++ [k]).length) (blockRun column (block ++ [k])) ks := by
  rw [scanRuns_cons _ _ h]
  by_cases empty : block = []
  · subst empty
    rfl
  · simp [blockRun, empty, Run.extend, blockClasses_append, Nat.add_assoc]

/-! ## What the runs of a row are -/

/-- A run of a row that begins at column `first`: it lies in the row and counts its own columns by class. -/
structure Run.Within (r : Run) (first : Nat) (row : List ClassCode) : Prop where
  first_le : first ≤ r.first
  ordered : r.first ≤ r.last
  last_lt : r.last < first + row.length
  classes : ∀ k : ClassCode, r.classes[k.val]?
    = some (((row.drop (r.first - first)).take r.pixels).countP (fun x => decide (x = k)))

/-- The runs of a row that begins at column `first`, as R61 defines them. -/
structure AreRuns (first : Nat) (row : List ClassCode) (runs : List Run) : Prop where
  separated : runs.Pairwise (fun a b => a.last + 1 < b.first)
  few : runs.length ≤ (row.length + 1) / 2
  within : ∀ r ∈ runs, r.Within first row
  covers : ∀ i < row.length, (row[i]? ≠ some 0 ↔ ∃ r ∈ runs, r.first ≤ first + i ∧ first + i ≤ r.last)

/-- A row without a column of class 0 is one run, or none when it is empty. -/
theorem areRuns_block (column : Nat) {block : List ClassCode} (h : ∀ k ∈ block, k ≠ 0) :
    AreRuns column block (blockRun column block).toList := by
  by_cases empty : block = []
  · subst empty
    exact ⟨.nil, by simp [blockRun], by simp [blockRun], by simp⟩
  have pos := List.length_pos_iff.2 empty
  rw [blockRun, if_neg empty, Option.toList_some]
  refine ⟨List.pairwise_singleton _ _, by simp; omega, fun r hr => ?_, fun i hi => ?_⟩
  · obtain rfl := List.mem_singleton.1 hr
    refine ⟨le_rfl, by simp; omega, by simp; omega, fun k => ?_⟩
    have pixels : column + block.length - 1 + 1 - column = block.length := by omega
    simp [Run.pixels, pixels, getElem?_blockClasses]
  · have here : block[i]? ≠ some 0 := fun zero => h 0 (List.mem_of_getElem? zero) rfl
    simp only [List.mem_singleton, exists_eq_left]
    exact iff_of_true here (by omega)

/-- The runs of a row stay runs of the row with columns set before it. -/
theorem Run.Within.append_left {r : Run} {first : Nat} {row before : List ClassCode}
    (h : r.Within (first + before.length) row) : r.Within first (before ++ row) := by
  obtain ⟨first_le, ordered, last_lt, classes⟩ := h
  have shift : r.first - first = before.length + (r.first - (first + before.length)) := by omega
  refine ⟨by omega, ordered, by simp; omega, fun k => ?_⟩
  rw [shift, ← List.drop_drop, List.drop_left, classes]

/-- The runs of a row stay runs of the row with columns set after it. -/
theorem Run.Within.append_right {r : Run} {first : Nat} {row after : List ClassCode}
    (h : r.Within first row) : r.Within first (row ++ after) := by
  obtain ⟨first_le, ordered, last_lt, classes⟩ := h
  refine ⟨first_le, ordered, by simp; omega, fun k => ?_⟩
  rw [List.drop_append_of_le_length (by omega),
    List.take_append_of_le_length (by simp [Run.pixels]; omega), classes]

/-- A column of class 0 parts the runs before it from those after it. -/
theorem AreRuns.append_gap {first : Nat} {before after : List ClassCode} {runs more : List Run}
    (h : AreRuns first before runs) (g : AreRuns (first + (before ++ [0]).length) after more) :
    AreRuns first (before ++ 0 :: after) (runs ++ more) := by
  have row : before ++ 0 :: after = before ++ [0] ++ after := by simp
  refine ⟨List.pairwise_append.2 ⟨h.separated, g.separated, fun a ha b hb => ?_⟩, ?_, fun r hr => ?_,
    fun i hi => ?_⟩
  · have := (h.within a ha).last_lt
    have := (g.within b hb).first_le
    simp at this
    omega
  · have := h.few
    have := g.few
    simp
    omega
  · rcases List.mem_append.1 hr with hr | hr
    · exact (h.within r hr).append_right
    · exact row ▸ (g.within r hr).append_left
  · have left (r) (hr : r ∈ runs) := (h.within r hr).last_lt
    have right (r) (hr : r ∈ more) : first + before.length + 1 ≤ r.first := by
      simpa [Nat.add_assoc] using (g.within r hr).first_le
    simp only [List.mem_append, or_and_right, exists_or]
    rcases Nat.lt_trichotomy i before.length with low | gap | high
    · rw [List.getElem?_append_left low, h.covers i low]
      refine (or_iff_left ?_).symm
      rintro ⟨r, hr, reach, _⟩
      have := right r hr
      omega
    · subst gap
      refine iff_of_false (by simp) ?_
      rintro (⟨r, hr, _, reach⟩ | ⟨r, hr, reach, _⟩)
      · have := left r hr
        omega
      · have := right r hr
        omega
    · obtain ⟨j, rfl⟩ := Nat.exists_eq_add_of_lt high
      have read : (before ++ 0 :: after)[before.length + j + 1]? = after[j]? := by
        rw [row, List.getElem?_append_right (by simp)]
        congr 1
        simp
      have inside : j < after.length := by simp at hi; omega
      have place : first + (before ++ [0]).length + j = first + (before.length + j + 1) := by simp; omega
      rw [read, g.covers j inside, place]
      refine (or_iff_right ?_).symm
      rintro ⟨r, hr, _, reach⟩
      have := left r hr
      omega

/-- The scan from a block of columns on finds the runs of the block and what follows it. -/
theorem areRuns_scanRuns (column : Nat) {block : List ClassCode} (h : ∀ k ∈ block, k ≠ 0)
    (row : List ClassCode) :
    AreRuns column (block ++ row) (scanRuns (column + block.length) (blockRun column block) row) := by
  induction row generalizing column block with
  | nil => simpa [scanRuns] using areRuns_block column h
  | cons k ks ih =>
    by_cases zero : k = 0
    · subst zero
      rw [scanRuns_zero]
      have rest := ih (column + (block ++ [0]).length) (block := []) (by simp)
      exact (areRuns_block column h).append_gap (by simpa [blockRun, Nat.add_assoc] using rest)
    · rw [scanRuns_blockRun_cons column block zero, List.append_cons]
      exact ih column (by simpa [or_imp, forall_and, zero] using h)

/-- Settles O46: the scan keeps, column by column, the runs of the columns it has passed. -/
theorem runsAreMaximal : Obligations.RunsAreMaximal := by
  unfold Obligations.RunsAreMaximal
  intro first row
  obtain ⟨separated, few, within, covers⟩ :
      AreRuns first row (scanRuns first none row) := areRuns_scanRuns first (block := []) (by simp) row
  refine ⟨separated, few, fun r hr => ?_, covers⟩
  obtain ⟨first_le, ordered, last_lt, classes⟩ := within r hr
  exact ⟨first_le, ordered, last_lt, by unfold Run.pixels; omega, classes⟩

end Sys2Proof.Machine
end

section
/-! The closing order list, the Verdict Queue and the Verdict Unit (R71, R72, R83, R84): one move, one take, and
the moves and takes of an event (pump), which stop where none can be made. The statement about them. -/

namespace Sys2Proof.Machine

variable {s : State} {i : Nat} {rest : List Nat} {o : ObjectRecord} {queue : List ObjectRecord}

/-! ## One take and one move -/

/-- The IDLE Verdict Unit takes the head of the queue (R84). -/
theorem vduTake_of_idle (idle : s.vdu.evaluating = none) (head : s.vdu.vq = o :: queue) :
    vduTake s = s.setVdu { vq := queue, evaluating := some o } := by
  simp [vduTake, idle, head]

theorem vduTake_of_evaluating (busy : s.vdu.evaluating.isSome = true) : vduTake s = s := by
  obtain ⟨o, evaluating⟩ := Option.isSome_iff_exists.1 busy
  simp [vduTake, evaluating]

theorem vduTake_of_empty (empty : s.vdu.vq = []) : vduTake s = s := by
  cases evaluating : s.vdu.evaluating <;> simp [vduTake, evaluating, empty]

/-- With the Verdict Unit under evaluation or the queue empty nothing is taken (R84). -/
theorem vduTake_of_stop (stop : s.vdu.evaluating = none → s.vdu.vq = []) : vduTake s = s := by
  cases evaluating : s.vdu.evaluating with
  | none => exact vduTake_of_empty (stop evaluating)
  | some o => exact vduTake_of_evaluating (by simp [evaluating])

/-- After a take an IDLE Verdict Unit has no head to take (R84). -/
theorem vduTake_idle (h : (vduTake s).vdu.evaluating = none) : (vduTake s).vdu.vq = [] := by
  cases evaluating : s.vdu.evaluating with
  | some o =>
    rw [vduTake_of_evaluating (by simp [evaluating]), evaluating] at h
    cases h
  | none =>
    cases vq : s.vdu.vq with
    | nil => rw [vduTake_of_empty vq, vq]
    | cons o queue =>
      rw [vduTake_of_idle evaluating vq] at h
      cases h

/-- The head of the closing order list moves into the Verdict Queue (R72). -/
theorem closingMove_of_head (head : s.oas.closingOrder = i :: rest)
    (closing : s.oas.oot.getD i .free = .closing o) (room : s.vdu.vq.length < 16) :
    closingMove s
      = (s.setOas { s.oas with closingOrder := rest, oot := s.oas.oot.set i .free }).setVdu
          { s.vdu with vq := s.vdu.vq ++ [o] } := by
  simp only [closingMove, head, room, if_pos, closing]

/-- With the list empty or the queue full nothing moves (R72). -/
theorem closingMove_of_stop (stop : s.oas.closingOrder = [] ∨ 16 ≤ s.vdu.vq.length) :
    closingMove s = s := by
  unfold closingMove
  split
  · rfl
  next list =>
    rw [if_neg]
    rcases stop with empty | full
    · cases list.symm.trans empty
    · omega

/-! ## The moves and takes of an event -/

/-- One round of moves and takes. -/
def pumpRound (s : State) : State := vduTake (closingMove (vduTake s))

theorem pumpN_succ (n : Nat) (s : State) : pumpN (n + 1) s = pumpN n (pumpRound s) := rfl

/-- A property that each round keeps holds after the moves and takes of an event. -/
theorem pumpN_keeps_of_round {P : State → Prop} (round : ∀ t, P t → P (pumpRound t)) (n : Nat)
    (h : P s) : P (pumpN n s) := by
  induction n generalizing s with
  | zero => exact h
  | succ n ih => exact ih (round s h)

theorem pumpRound_closingLaw (law : s.closingLaw) : (pumpRound s).closingLaw :=
  (vduTake_closingLaw _).2 (closingMove_closingLaw _ ((vduTake_closingLaw s).2 law))

theorem pumpRound_toJudge (law : s.closingLaw) : (pumpRound s).toJudge = s.toJudge := by
  rw [pumpRound, vduTake_toJudge, closingMove_toJudge _ ((vduTake_closingLaw s).2 law), vduTake_toJudge]

theorem pump_closingLaw (law : s.closingLaw) : (pump s).closingLaw :=
  pumpN_keeps_of_round (P := State.closingLaw) (fun _ => pumpRound_closingLaw) _ law

/-- The closed objects keep their order (R71). -/
theorem pump_toJudge (law : s.closingLaw) : (pump s).toJudge = s.toJudge :=
  (pumpN_keeps_of_round (P := fun t => t.closingLaw ∧ t.toJudge = s.toJudge)
    (fun _ ⟨law, same⟩ => ⟨pumpRound_closingLaw law, (pumpRound_toJudge law).trans same⟩) _
    ⟨law, rfl⟩).2

/-- Setting FREE a slot that is not OPEN leaves the OPEN objects. -/
theorem filterMap_object?_set_free (table : List OotSlot) (h : (table.getD i .free).object? = none) :
    (table.set i .free).filterMap OotSlot.object? = table.filterMap OotSlot.object? := by
  induction table generalizing i with
  | nil => rfl
  | cons x table ih =>
    cases i with
    | zero =>
      have left : x.object? = none := h
      rw [List.set_cons_zero, List.filterMap_cons_none left]
      rfl
    | succ i => simp [List.set_cons_succ, List.filterMap_cons, ih (i := i) h]

@[simp] theorem closingMove_openObjects (s : State) :
    (closingMove s).oas.openObjects = s.oas.openObjects := by
  unfold closingMove
  split
  · rfl
  · split
    · split
      next closing => exact filterMap_object?_set_free _ (by rw [closing]; rfl)
      all_goals rfl
    · rfl

/-- The moves and takes open and close no object (R72). -/
@[simp] theorem pump_openObjects (s : State) : (pump s).oas.openObjects = s.oas.openObjects :=
  pumpN_keeps_of_round (P := fun t => t.oas.openObjects = s.oas.openObjects)
    (fun _ same => by simpa [pumpRound] using same) _ rfl

/-- What the moves and takes of an event change: the table, the closing order list and the Verdict Unit. -/
def State.withMoved (s t : State) : State :=
  (s.setOas { s.oas with oot := t.oas.oot, closingOrder := t.oas.closingOrder }).setVdu t.vdu

theorem vduTake_withMoved {t : State} (h : t = s.withMoved t) : vduTake t = s.withMoved (vduTake t) := by
  unfold vduTake
  split
  · rw [h]; rfl
  · exact h

theorem closingMove_withMoved {t : State} (h : t = s.withMoved t) :
    closingMove t = s.withMoved (closingMove t) := by
  unfold closingMove
  split
  · exact h
  · split
    · split
      · rw [h]; rfl
      all_goals exact h
    · exact h

theorem pump_withMoved (s : State) : pump s = s.withMoved (pump s) :=
  pumpN_keeps_of_round (P := fun t => t = s.withMoved t)
    (fun _ h => vduTake_withMoved (closingMove_withMoved (vduTake_withMoved h))) _ rfl

/-! ## Where the moves and takes stop -/

/-- Neither a move nor a take can be made. -/
def State.stopped (s : State) : Prop :=
  (s.oas.closingOrder = [] ∨ 16 ≤ s.vdu.vq.length) ∧ (s.vdu.evaluating = none → s.vdu.vq = [])

theorem pumpN_of_stopped (stopped : s.stopped) (n : Nat) : pumpN n s = s := by
  obtain ⟨move, take⟩ := stopped
  have round : pumpRound s = s := by
    rw [pumpRound, vduTake_of_stop take, closingMove_of_stop move, vduTake_of_stop take]
  induction n with
  | zero => rfl
  | succ n ih => rw [pumpN_succ, round, ih]

theorem pump_of_stopped (stopped : s.stopped) : pump s = s := pumpN_of_stopped stopped _

/-- A round that is not the last makes the closing order list shorter. -/
theorem pumpRound_progress (law : s.closingLaw) :
    (pumpRound s).stopped
      ∨ (pumpRound s).oas.closingOrder.length + 1 = s.oas.closingOrder.length := by
  have taken : (vduTake s).vdu.evaluating = none → (vduTake s).vdu.vq = [] := vduTake_idle
  rcases closingMove_cases (vduTake s) ((vduTake_closingLaw s).2 law) with
    ⟨stop, same⟩ | ⟨i, rest, o, list, _, _, moved⟩
  · rw [pumpRound, same, vduTake_of_stop taken]
    exact .inl ⟨stop, taken⟩
  · have before : s.oas.closingOrder = i :: rest := by simpa using list
    rw [pumpRound, moved]
    simp [before]

/-- As many rounds as the list is long, and one more, come to a stop. -/
theorem pumpN_stopped (law : s.closingLaw) {n : Nat} (enough : s.oas.closingOrder.length < n) :
    (pumpN n s).stopped := by
  induction n generalizing s with
  | zero => cases enough
  | succ n ih =>
    rw [pumpN_succ]
    rcases pumpRound_progress law with stopped | shorter
    · rwa [pumpN_of_stopped stopped]
    · exact ih (pumpRound_closingLaw law) (by omega)

theorem pump_stopped (law : s.closingLaw) : (pump s).stopped :=
  pumpN_stopped law (Nat.lt_succ_self _)

/-! ## The statement -/

theorem exec_closingToVq (s : State) : exec .closingToVq s = .next (finish (vduTake (closingMove s))) := rfl

theorem exec_vqTake (s : State) : exec .vqTake s = .next (finish (pump (vduTake s))) := rfl

/-- Settles O48: the two rows by one move and one take, the moves and takes of an event round by round. -/
theorem closedObjectsReachTheVerdictUnit : Obligations.ClosedObjectsReachTheVerdictUnit := by
  unfold Obligations.ClosedObjectsReachTheVerdictUnit
  refine ⟨fun s => ⟨fun i rest o head closing room => ?_, fun stop busy => ?_,
    fun o queue idle head empty => ?_, fun stop empty => ?_, fun o queue idle head => ?_⟩,
    fun s law => ?_⟩
  · rw [exec_closingToVq, closingMove_of_head head closing room]
    refine ⟨fun busy => ?_, fun idle no_queue => ?_⟩
    · exact congrArg (fun t => Host.Outcome.next (finish t)) (vduTake_of_evaluating busy)
    · exact congrArg (fun t => Host.Outcome.next (finish t))
        (vduTake_of_idle idle (congrArg (fun vq => vq ++ [o]) no_queue))
  · rw [exec_closingToVq, closingMove_of_stop stop, vduTake_of_evaluating busy]
  · rw [exec_vqTake, vduTake_of_idle idle head, pump_of_stopped]
    exact ⟨.inl empty, nofun⟩
  · have take : s.vdu.evaluating = none → s.vdu.vq = [] := fun idle =>
      stop.resolve_right (by simp [idle])
    rw [exec_vqTake, vduTake_of_stop take, pump_of_stopped ⟨.inl empty, take⟩]
  · rw [exec_vqTake, vduTake_of_idle idle head]
  · obtain ⟨move, take⟩ := pump_stopped law
    exact ⟨pump_toJudge law, move, take, pump_openObjects s, pump_withMoved s⟩

end Sys2Proof.Machine
end

section
/-! The link of a run with the objects it touches (R64 ~ R68, R73 ~ R75): the slots it touches, the survivor of a
merge, and a run's turn case by case. What the link of a line leaves. -/

namespace Sys2Proof.Machine

variable {s t : State} {l : LineInAssembly} {r : Run} {rest : List Run} {done : List PlrRun}
  {full : Bool} {n : LineNo} {i j : Nat} {o a : ObjectRecord}

/-! ## The slots a run touches (R64) -/

/-- A list with its duplicates erased has none. -/
theorem nodup_eraseDups : ∀ slots : List Nat, slots.eraseDups.Nodup
  | [] => by simp
  | i :: slots => by
    rw [List.eraseDups_cons, List.nodup_cons, List.mem_eraseDups]
    exact ⟨by simp, nodup_eraseDups _⟩
termination_by slots => slots.length
decreasing_by exact Nat.lt_succ_of_le (List.length_filter_le _ _)

theorem linkSet_nodup (s : State) (r : Run) : (linkSet s r).Nodup :=
  (nodup_eraseDups _).filter _

/-- The slots a run touches are the OPEN ones among the labels of the previous line's runs it touches. -/
theorem mem_linkSet (s : State) (r : Run) (i : Nat) :
    i ∈ linkSet s r ↔
      (s.openObject i).isSome = true
        ∧ ∃ p ∈ s.oas.plr, p.label = some i ∧ p.first ≤ r.last + 1 ∧ r.first ≤ p.last + 1 := by
  simp only [linkSet, List.mem_filter, List.mem_eraseDups, List.mem_filterMap, Run.touches,
    Bool.and_eq_true, decide_eq_true_eq]
  constructor
  · rintro ⟨⟨p, ⟨mem, touches⟩, label⟩, opened⟩
    exact ⟨opened, p, mem, label, touches⟩
  · rintro ⟨opened, p, mem, label, touches⟩
    exact ⟨⟨p, ⟨mem, touches⟩, label⟩, opened⟩

/-- A run on an empty previous line touches no slot. -/
theorem linkSet_of_empty (empty : s.oas.plr = []) (r : Run) : linkSet s r = [] := by
  simp [linkSet, empty]

/-- A run that touches the only run of the previous line touches its slot alone. -/
theorem linkSet_of_single {p : PlrRun} (single : s.oas.plr = [p]) (label : p.label = some i)
    (opened : s.openObject i = some o) (left : p.first ≤ r.last + 1) (right : r.first ≤ p.last + 1) :
    linkSet s r = [i] := by
  simp [linkSet, single, Run.touches, left, right, label, opened, List.eraseDups_cons]

/-! ## The survivor of a merge (R67) -/

/-- Slot `i` does not come after slot `j` as the survivor at line `n`: its object's start line is earlier, or is
the same and its index not above. -/
def State.precedes (s : State) (n : LineNo) (i j : Nat) : Prop :=
  ∀ a o, s.openObject j = some a → s.openObject i = some o →
    ageAt n a.startLine < ageAt n o.startLine
      ∨ (ageAt n a.startLine = ageAt n o.startLine ∧ i ≤ j)

theorem precedes_refl (s : State) (n : LineNo) (i : Nat) : s.precedes n i i := by
  intro a o ha ho
  cases ha.symm.trans ho
  exact .inr ⟨rfl, le_rfl⟩

theorem precedes_trans {k : Nat} (opened : (s.openObject j).isSome = true) (h : s.precedes n i j)
    (g : s.precedes n j k) : s.precedes n i k := by
  obtain ⟨b, hb⟩ := Option.isSome_iff_exists.1 opened
  intro a o ha ho
  have := h b o hb ho
  have := g a b ha hb
  omega

/-- One step of the choice: the slot that stays precedes both. -/
theorem precedes_of_survives (hi : (s.openObject i).isSome = true) (hj : (s.openObject j).isSome = true) :
    let v := if survives n s i j then i else j
    s.precedes n v i ∧ s.precedes n v j := by
  obtain ⟨a, ha⟩ := Option.isSome_iff_exists.1 hi
  obtain ⟨b, hb⟩ := Option.isSome_iff_exists.1 hj
  simp only [survives, ha, hb, Bool.or_eq_true, Bool.and_eq_true, decide_eq_true_eq]
  split
  next wins =>
    refine ⟨precedes_refl s n i, fun x y hx hy => ?_⟩
    cases hb.symm.trans hx
    cases ha.symm.trans hy
    omega
  next loses =>
    refine ⟨fun x y hx hy => ?_, precedes_refl s n j⟩
    cases ha.symm.trans hx
    cases hb.symm.trans hy
    omega

/-- The survivor is one of the slots, and precedes each of them (R67). -/
theorem survivorOf_spec (first : Nat) (slots : List Nat)
    (opened : ∀ x ∈ first :: slots, (s.openObject x).isSome = true) :
    survivorOf n s first slots ∈ first :: slots
      ∧ ∀ x ∈ first :: slots, s.precedes n (survivorOf n s first slots) x := by
  induction slots generalizing first with
  | nil => simpa [survivorOf] using precedes_refl s n first
  | cons i slots ih =>
    have first_open := opened first (by simp)
    have i_open := opened i (by simp)
    obtain ⟨before_i, before_first⟩ := precedes_of_survives (n := n) i_open first_open
    have fold : survivorOf n s first (i :: slots)
        = survivorOf n s (if survives n s i first then i else first) slots := rfl
    rw [fold]
    generalize chosen : (if survives n s i first then i else first) = v at *
    have v_mem : v = i ∨ v = first := by
      rw [← chosen]
      split <;> simp
    have v_open : (s.openObject v).isSome = true := by
      rcases v_mem with rfl | rfl <;> assumption
    obtain ⟨mem, least⟩ := ih v (fun x hx => by
      rcases List.mem_cons.1 hx with rfl | hx
      · exact v_open
      · exact opened x (by simp [hx]))
    have below {x : Nat} (h : s.precedes n v x) : s.precedes n (survivorOf n s v slots) x :=
      precedes_trans v_open (least v (by simp)) h
    refine ⟨?_, fun x hx => ?_⟩
    · rcases List.mem_cons.1 mem with same | mem
      · rcases v_mem with rfl | rfl <;> simp [same]
      · simp [mem]
    · rcases List.mem_cons.1 hx with rfl | hx
      · exact below before_first
      · rcases List.mem_cons.1 hx with rfl | hx
        · exact below before_i
        · exact least x (by simp [hx])

/-! ## A run's turn (R64 ~ R66, R73) -/

theorem linkRuns_create (alone : linkSet s r = []) (free : s.oas.oot.findIdx? OotSlot.isFree = some i) :
    linkRuns l (r :: rest) done full s
      = linkRuns l rest (done ++ [r.labelled (some i)]) full (createObject l r i s) := by
  simp only [linkRuns, alone, free]

theorem linkRuns_no_slot (alone : linkSet s r = []) (none_free : s.oas.oot.findIdx? OotSlot.isFree = none) :
    linkRuns l (r :: rest) done full s
      = linkRuns l rest (done ++ [r.labelled none]) true (findsNoSlot l r full s) := by
  simp only [linkRuns, alone, none_free]

theorem linkRuns_extend (one : linkSet s r = [i]) :
    linkRuns l (r :: rest) done full s
      = linkRuns l rest (done ++ [r.labelled (some i)]) full (extendSlot l r i s) := by
  simp only [linkRuns, one]

theorem linkRuns_merge {more : List Nat} (several : linkSet s r = i :: j :: more) :
    let v := survivorOf l.line s i (j :: more)
    let absorbed := (linkSet s r).filter (fun x => decide (x ≠ v))
    let folded := absorbed.foldl (fun u x => absorbSlot l.line v x u) s
    linkRuns l (r :: rest) done full s
      = linkRuns l rest (absorbed.foldl (fun d x => relabel x v d) done ++ [r.labelled (some v)]) full
          (extendSlot l r v (setMerged v folded)) := by
  simp only [linkRuns, several]

theorem extendSlot_of_open (opened : s.openObject i = some o) :
    extendSlot l r i s = s.setSlot i (.opened (o.extend l r)) := by
  simp only [extendSlot, opened]

theorem absorbSlot_of_open (survivor : s.openObject i = some o) (absorbed : s.openObject j = some a) :
    absorbSlot n i j s
      = bump .objectsMerged
          (s.setOas
            { s.oas with
              plr := relabel j i s.oas.plr
              oot := (s.oas.oot.set i (.opened (o.absorb n a))).set j .free }) := by
  simp only [absorbSlot, survivor, absorbed]
  rfl

/-! ## A run that finds no slot (R73 ~ R75) -/

/-- The pixels of a run that finds no slot are counted, and the first such run of a line (R73). -/
def countUnassigned (r : Run) (full : Bool) (s : State) : State :=
  if full then bumpBy .unassignedPixels r.pixels s
  else bump .ootFullEvents (bumpBy .unassignedPixels r.pixels s)

@[simp] theorem countUnassigned_keeps (r : Run) (full : Bool) (s : State) :
    (countUnassigned r full s).bpu = s.bpu ∧ (countUnassigned r full s).tbs = s.tbs
      ∧ (countUnassigned r full s).ejs = s.ejs ∧ (countUnassigned r full s).cmu = s.cmu := by
  unfold countUnassigned
  split <;> simp

theorem findsNoSlot_of_pass
    (pass : s.cmu.config.ootFullAction = .pass ∨ s.cmu.config.owns ((r.first + r.last) / 2) = false) :
    findsNoSlot l r full s = countUnassigned r full s := by
  refine if_neg ?_
  rcases pass with pass | outside
  · simp [pass]
  · simp [outside]

theorem findsNoSlot_of_blind (blind : s.cmu.config.ootFullAction = .blind)
    (owned : s.cmu.config.owns ((r.first + r.last) / 2) = true) :
    findsNoSlot l r full s = blindRequest l r (countUnassigned r full s) :=
  if_pos (by simp [blind, owned])

theorem blindRequest_of_none (none_found : valveRange s.cmu.config s.tbs.vmt r.first r.last = none) :
    blindRequest l r s = bump .noValve s := by
  simp only [blindRequest, none_found]

theorem blindRequest_of_range {v : Nat × Nat}
    (range : valveRange s.cmu.config s.tbs.vmt r.first r.last = some v) :
    blindRequest l r s
      = bump .blindRequests
          (s.setEjs
            { s.ejs with
              oasRequests := s.ejs.oasRequests ++
                [{ source := .blind
                   valveFirst := v.1
                   valveLast := v.2
                   openPos := openPosition s.cmu.config s.lead l.position
                   closePos := closePosition s.cmu.config s.lead l.position }] }) := by
  simp only [blindRequest, range]
  rfl

/-! ## What the link of a line leaves -/

/-- Two registers of the assembler and the counter lines_assembled, which the link of a line leaves; the Report
Unit holds as many counters. -/
structure State.KeptByLinking (s t : State) : Prop where
  lostRun : t.oas.lostRun = s.oas.lostRun
  closeAllDue : t.oas.closeAllDue = s.oas.closeAllDue
  linesAssembled : t.counter .linesAssembled = s.counter .linesAssembled
  counters : t.rpu.counters.length = s.rpu.counters.length

theorem keptByLinking_refl (s : State) : s.KeptByLinking s := ⟨rfl, rfl, rfl, rfl⟩

theorem bumpBy_keptByLinking {c : Counter} (h : s.KeptByLinking t) (other : c ≠ .linesAssembled) (n : Nat) :
    s.KeptByLinking (bumpBy c n t) where
  lostRun := h.lostRun
  closeAllDue := h.closeAllDue
  linesAssembled := (bumpBy_counter_of_ne other n t).trans h.linesAssembled
  counters := by simpa [bumpBy] using h.counters

theorem setEjs_keptByLinking (h : s.KeptByLinking t) (x : Ejs) : s.KeptByLinking (t.setEjs x) :=
  ⟨h.lostRun, h.closeAllDue, h.linesAssembled, h.counters⟩

/-- The previous line's runs, the table and the number counter may change. -/
theorem setOas_keptByLinking (h : s.KeptByLinking t) (plr : List PlrRun) (oot : List OotSlot)
    (number : LineNo) :
    s.KeptByLinking (t.setOas { t.oas with plr := plr, oot := oot, numberCounter := number }) :=
  ⟨h.lostRun, h.closeAllDue, h.linesAssembled, h.counters⟩

theorem setSlot_keptByLinking (h : s.KeptByLinking t) (i : Nat) (x : OotSlot) :
    s.KeptByLinking (t.setSlot i x) :=
  setOas_keptByLinking h _ _ _

theorem createObject_keptByLinking (h : s.KeptByLinking t) : s.KeptByLinking (createObject l r i t) :=
  bumpBy_keptByLinking (setOas_keptByLinking (setSlot_keptByLinking h _ _) _ _ _) (by decide) 1

theorem extendSlot_keptByLinking (h : s.KeptByLinking t) : s.KeptByLinking (extendSlot l r i t) := by
  unfold extendSlot
  split
  · exact setSlot_keptByLinking h _ _
  · exact h

theorem setMerged_keptByLinking (h : s.KeptByLinking t) : s.KeptByLinking (setMerged i t) := by
  unfold setMerged
  split
  · exact setSlot_keptByLinking h _ _
  · exact h

theorem absorbSlot_keptByLinking (h : s.KeptByLinking t) : s.KeptByLinking (absorbSlot n i j t) := by
  unfold absorbSlot
  split
  · exact bumpBy_keptByLinking
      (setOas_keptByLinking (setSlot_keptByLinking (setSlot_keptByLinking h _ _) _ _) _ _ _) (by decide) 1
  · exact h

theorem absorbAll_keptByLinking (h : s.KeptByLinking t) (slots : List Nat) :
    s.KeptByLinking (slots.foldl (fun u x => absorbSlot n i x u) t) := by
  induction slots generalizing t with
  | nil => exact h
  | cons x slots ih => exact ih (absorbSlot_keptByLinking h)

theorem findsNoSlot_keptByLinking (h : s.KeptByLinking t) : s.KeptByLinking (findsNoSlot l r full t) := by
  have counted : s.KeptByLinking (countUnassigned r full t) := by
    unfold countUnassigned
    split
    · exact bumpBy_keptByLinking h (by decide) _
    · exact bumpBy_keptByLinking (bumpBy_keptByLinking h (by decide) _) (by decide) 1
  have requested : s.KeptByLinking (blindRequest l r (countUnassigned r full t)) := by
    unfold blindRequest
    split
    · exact bumpBy_keptByLinking counted (by decide) 1
    · exact bumpBy_keptByLinking (setEjs_keptByLinking counted _) (by decide) 1
  show s.KeptByLinking (if _ then blindRequest l r (countUnassigned r full t) else countUnassigned r full t)
  split
  · exact requested
  · exact counted

theorem linkRuns_keptByLinking (h : s.KeptByLinking t) (runs : List Run) :
    s.KeptByLinking (linkRuns l runs done full t).2 := by
  induction runs generalizing done full t with
  | nil => exact h
  | cons r rest ih =>
    unfold linkRuns
    split
    · split
      · exact ih (createObject_keptByLinking h)
      · exact ih (findsNoSlot_keptByLinking h)
    · exact ih (extendSlot_keptByLinking h)
    · exact ih (extendSlot_keptByLinking (setMerged_keptByLinking (absorbAll_keptByLinking h _)))

end Sys2Proof.Machine
end

section
/-! The closes of objects in ascending slot order (R60, R69 ~ R71, R76): which slot closes is decided by its object,
and the closed objects join those to be judged. Lost lines, the close-all request and the end of a line as such
closes. -/

namespace Sys2Proof.Machine

variable {s t : State} {i n : Nat} {o : ObjectRecord} {runs : List PlrRun} {overflow : Bool}

/-! ## The OPEN slots -/

theorem openObject_eq_some_iff : s.openObject i = some o ↔ s.oas.oot.getD i .free = .opened o := by
  unfold State.openObject OotSlot.object?
  cases s.oas.oot.getD i .free <;> simp

/-- Beyond the table no slot is OPEN. -/
theorem openObject_of_length_le (outside : s.oas.oot.length ≤ i) : s.openObject i = none := by
  simp [State.openObject, List.getElem?_eq_none outside, OotSlot.object?]

/-- The OPEN objects, read slot by slot. -/
theorem openObjects_eq_filterMap (length : s.oas.oot.length = n) :
    s.oas.openObjects = (List.range n).filterMap s.openObject := by
  have table : s.oas.oot = (List.range n).map (fun i => s.oas.oot.getD i .free) :=
    List.ext_getElem (by simp [length]) fun i h _ => by simp [List.getElem?_eq_getElem h]
  rw [Oas.openObjects]
  conv_lhs => rw [table]
  rw [List.filterMap_map]
  rfl

theorem openObjects_eq_nil (none_open : ∀ j, s.openObject j = none) : s.oas.openObjects = [] := by
  rw [openObjects_eq_filterMap rfl, List.filterMap_eq_nil_iff]
  exact fun j _ => none_open j

/-- States alike in the Verdict Unit, the closing order list and the CLOSING slots keep the same law and order. -/
theorem judging_congr (vdu : t.vdu = s.vdu) (order : t.oas.closingOrder = s.oas.closingOrder)
    (slots : ∀ j, (t.oas.oot.getD j .free).closed? = (s.oas.oot.getD j .free).closed?) :
    (s.closingLaw → t.closingLaw) ∧ t.toJudge = s.toJudge := by
  have isClosing (x : OotSlot) : x.isClosing = x.closed?.isSome := by cases x <;> rfl
  constructor
  · rintro ⟨nodup, mem⟩
    refine ⟨order ▸ nodup, fun j => ?_⟩
    rw [order, mem, isClosing, isClosing, slots]
  · simp only [State.toJudge, vdu, order, slots]

/-! ## The close of one object (R71) -/

theorem closeObject_of_open (mark : ObjectFlags → ObjectFlags) (opened : s.openObject i = some o) :
    closeObject mark i s
      = pump (s.setOas
          { s.oas with
            oot := s.oas.oot.set i (.closing { o with flags := mark o.flags })
            closingOrder := s.oas.closingOrder ++ [i] }) := by
  simp only [closeObject, opened]
  rfl

/-- The object closes with its flags marked, and is judged last (R71). -/
theorem closeObject_judging (mark : ObjectFlags → ObjectFlags) (law : s.closingLaw)
    (opened : s.openObject i = some o) :
    (closeObject mark i s).closingLaw
      ∧ (closeObject mark i s).toJudge = s.toJudge ++ [{ o with flags := mark o.flags }] := by
  have slot := openObject_eq_some_iff.1 opened
  have kept := closingLaw_close (x := { o with flags := mark o.flags }) law slot
  rw [closeObject_of_open mark opened]
  exact ⟨pump_closingLaw kept, (pump_toJudge kept).trans (toJudge_close law slot)⟩

/-- Of the assembler a close changes the table and the closing order list alone. -/
@[simp] theorem closeObject_registers (mark : ObjectFlags → ObjectFlags) (i : Nat) (s : State) :
    (closeObject mark i s).oas.plr = s.oas.plr
      ∧ (closeObject mark i s).oas.numberCounter = s.oas.numberCounter
      ∧ (closeObject mark i s).oas.lostRun = s.oas.lostRun
      ∧ (closeObject mark i s).oas.lineInAssembly = s.oas.lineInAssembly
      ∧ (closeObject mark i s).oas.closeAllDue = s.oas.closeAllDue := by
  cases opened : s.openObject i with
  | none => simp [closeObject, opened]
  | some o =>
    rw [closeObject_of_open mark opened, pump_withMoved]
    exact ⟨rfl, rfl, rfl, rfl, rfl⟩

/-! ## Closes in ascending slot order -/

/-- Which objects close, by slot and record, and with what mark. -/
abbrev CloseRule := Nat → ObjectRecord → Option (ObjectFlags → ObjectFlags)

/-- The close of slot `i`, if its object is one to close. -/
def closeWhere (rule : CloseRule) (i : Nat) (s : State) : State :=
  match (s.openObject i).bind (rule i) with
  | some mark => closeObject mark i s
  | none => s

/-- The closes of the slots below `n` in ascending index. -/
def closings (rule : CloseRule) (n : Nat) (s : State) : State :=
  (List.range n).foldl (fun t i => closeWhere rule i t) s

/-- The object as it is judged, if it is one to close. -/
def CloseRule.judged (rule : CloseRule) (i : Nat) (o : ObjectRecord) : Option ObjectRecord :=
  (rule i o).map (fun mark => { o with flags := mark o.flags })

theorem closings_succ (rule : CloseRule) (n : Nat) (s : State) :
    closings rule (n + 1) s = closeWhere rule n (closings rule n s) := by
  simp [closings, List.range_succ]

/-- What every close keeps, the closes keep. -/
theorem closings_keep {P : State → Prop} (close : ∀ mark i t, P t → P (closeObject mark i t))
    (rule : CloseRule) (n : Nat) (h : P s) : P (closings rule n s) := by
  induction n with
  | zero => exact h
  | succ n ih =>
    rw [closings_succ, closeWhere]
    split
    · exact close _ _ _ ih
    · exact ih

@[simp] theorem closings_cmu (rule : CloseRule) (n : Nat) (s : State) :
    (closings rule n s).cmu = s.cmu :=
  closings_keep (P := fun t => t.cmu = s.cmu) (fun _ _ _ h => by simpa using h) rule n rfl

@[simp] theorem closings_registers (rule : CloseRule) (n : Nat) (s : State) :
    (closings rule n s).oas.plr = s.oas.plr
      ∧ (closings rule n s).oas.numberCounter = s.oas.numberCounter
      ∧ (closings rule n s).oas.lostRun = s.oas.lostRun
      ∧ (closings rule n s).oas.lineInAssembly = s.oas.lineInAssembly
      ∧ (closings rule n s).oas.closeAllDue = s.oas.closeAllDue :=
  closings_keep
    (P := fun t => t.oas.plr = s.oas.plr ∧ t.oas.numberCounter = s.oas.numberCounter
      ∧ t.oas.lostRun = s.oas.lostRun ∧ t.oas.lineInAssembly = s.oas.lineInAssembly
      ∧ t.oas.closeAllDue = s.oas.closeAllDue)
    (fun mark i t h => by simpa using h) rule n ⟨rfl, rfl, rfl, rfl, rfl⟩

theorem openObject_closeWhere (rule : CloseRule) (i j : Nat) (s : State) :
    (closeWhere rule i s).openObject j
      = if i = j then (s.openObject j).filter (fun o => (rule j o).isNone) else s.openObject j := by
  unfold closeWhere
  split
  next mark closes =>
    obtain ⟨o, opened, marked⟩ := Option.bind_eq_some_iff.1 closes
    rw [openObject_closeObject]
    refine ite_congr rfl (fun same => ?_) fun _ => rfl
    subst same
    simp [opened, Option.filter, marked]
  next stays =>
    split
    next same =>
      subst same
      cases opened : s.openObject i with
      | none => rfl
      | some o =>
        have unmarked : rule i o = none := by simpa [opened] using stays
        simp [Option.filter, unmarked]
    next => rfl

/-- After the closes a slot is OPEN if it was and its object was not one to close. -/
theorem openObject_closings (rule : CloseRule) (n j : Nat) (s : State) :
    (closings rule n s).openObject j
      = if j < n then (s.openObject j).filter (fun o => (rule j o).isNone) else s.openObject j := by
  induction n with
  | zero => rfl
  | succ n ih =>
    rw [closings_succ, openObject_closeWhere, ih]
    rcases Nat.lt_trichotomy j n with low | same | high
    · rw [if_neg (by omega), if_pos low, if_pos (by omega)]
    · rw [if_pos same.symm, if_neg (by omega), if_pos (by omega)]
    · rw [if_neg (by omega), if_neg (by omega), if_neg (by omega)]

theorem filterMap_single (f : Nat → Option ObjectRecord) (i : Nat) :
    [i].filterMap f = (f i).toList := by
  cases read : f i <;> simp [read]

/-- The closed objects join those to be judged in ascending slot order (R69, R71). -/
theorem closings_judging (rule : CloseRule) (n : Nat) (law : s.closingLaw) :
    (closings rule n s).closingLaw
      ∧ (closings rule n s).toJudge
        = s.toJudge ++ (List.range n).filterMap (fun i => (s.openObject i).bind (rule.judged i)) := by
  induction n with
  | zero => simpa [closings] using law
  | succ n ih =>
    obtain ⟨kept, judged⟩ := ih
    have here : (closings rule n s).openObject n = s.openObject n := by
      rw [openObject_closings, if_neg (Nat.lt_irrefl n)]
    rw [closings_succ, closeWhere, List.range_succ, List.filterMap_append, ← List.append_assoc, ← judged,
      here, filterMap_single]
    cases opened : s.openObject n with
    | none => simpa using kept
    | some o =>
      cases marked : rule n o with
      | none => simpa [CloseRule.judged, marked] using kept
      | some mark =>
        simpa [CloseRule.judged, marked] using closeObject_judging mark kept (here.trans opened)

/-- With no object to close the closes change nothing. -/
theorem closings_of_none {rule : CloseRule} (none_closes : ∀ i o, s.openObject i = some o → rule i o = none)
    (n : Nat) : closings rule n s = s := by
  induction n with
  | zero => rfl
  | succ n ih =>
    have stays : (s.openObject n).bind (rule n) = none := by
      cases opened : s.openObject n with
      | none => rfl
      | some o => exact none_closes n o opened
    rw [closings_succ, ih, closeWhere, stays]

/-! ## Every object (R60, R76) -/

/-- Every object closes with LINE_LOSS. -/
def lineLossRule : CloseRule := fun _ _ => some (fun f => { f with lineLoss := true })

theorem closeAllObjects_eq_closings (s : State) : closeAllObjects s = closings lineLossRule 96 s := by
  have step : (fun (t : State) i => closeObject (fun f => { f with lineLoss := true }) i t)
      = fun t i => closeWhere lineLossRule i t := by
    funext t i
    cases opened : t.openObject i <;> simp [closeWhere, closeObject, lineLossRule, opened]
  rw [closeAllObjects, step, closings]

theorem openObject_closeAllObjects_eq_none (length : s.oas.oot.length = 96) (j : Nat) :
    (closeAllObjects s).openObject j = none := by
  rw [openObject_closeAllObjects]
  split
  · rfl
  · exact openObject_of_length_le (by omega)

/-- The OPEN objects join those to be judged, each with LINE_LOSS (R60, R76). -/
theorem closeAllObjects_toJudge (law : s.closingLaw) (length : s.oas.oot.length = 96) :
    (closeAllObjects s).toJudge = s.toJudge ++ s.oas.openObjects.map ObjectRecord.lineLost := by
  obtain ⟨_, judged⟩ := closings_judging lineLossRule 96 law
  rw [closeAllObjects_eq_closings, judged, openObjects_eq_filterMap length, List.map_filterMap]
  refine congrArg (s.toJudge ++ ·) (List.filterMap_congr fun i _ => ?_)
  cases s.openObject i <;> rfl

theorem openObjects_closeAllObjects (length : s.oas.oot.length = 96) :
    (closeAllObjects s).oas.openObjects = [] :=
  openObjects_eq_nil (openObject_closeAllObjects_eq_none length)

@[simp] theorem closeAllObjects_numberCounter (s : State) :
    (closeAllObjects s).oas.numberCounter = s.oas.numberCounter := by
  simp [closeAllObjects_eq_closings]

@[simp] theorem closeAllObjects_lostRun (s : State) :
    (closeAllObjects s).oas.lostRun = s.oas.lostRun := by
  simp [closeAllObjects_eq_closings]

/-! ## Lost lines (R59, R60) and the close-all request (R76) -/

/-- A lost line below a lost run of 3 is bridged (R59). -/
theorem applyLostLine_of_lt (below : s.oas.lostRun < 2) :
    applyLostLine s
      = bump .linesBridged
          (s.setOas
            { s.oas with lostRun := s.oas.lostRun + 1, oot := s.oas.oot.map OotSlot.gapped }) := by
  have run : min 3 (s.oas.lostRun + 1) = s.oas.lostRun + 1 := by omega
  rw [applyLostLine, run, if_pos (by omega)]
  rfl

/-- At a lost run of 3 every object closes (R60). -/
theorem applyLostLine_of_le (third : 2 ≤ s.oas.lostRun) :
    applyLostLine s = emptyPlr (closeAllObjects (s.setOas { s.oas with lostRun := 3 })) := by
  have run : min 3 (s.oas.lostRun + 1) = 3 := by omega
  rw [applyLostLine, run, if_neg (by omega)]

/-- The objects are not read from the previous line's runs. -/
theorem emptyPlr_objects (s : State) :
    (emptyPlr s).toJudge = s.toJudge ∧ (emptyPlr s).oas.openObjects = s.oas.openObjects :=
  ⟨rfl, rfl⟩

theorem applyLostLine_closes (third : 2 ≤ s.oas.lostRun) (length : s.oas.oot.length = 96)
    (law : s.closingLaw) :
    (applyLostLine s).toJudge = s.toJudge ++ s.oas.openObjects.map ObjectRecord.lineLost
      ∧ (applyLostLine s).oas.openObjects = [] ∧ (applyLostLine s).oas.plr = []
      ∧ (applyLostLine s).oas.lostRun = 3 ∧ (applyLostLine s).rpu = s.rpu
      ∧ (applyLostLine s).oas.numberCounter = s.oas.numberCounter := by
  rw [applyLostLine_of_le third]
  have judged := closeAllObjects_toJudge (s := s.setOas { s.oas with lostRun := 3 }) law length
  have none_open := openObjects_closeAllObjects (s := s.setOas { s.oas with lostRun := 3 }) length
  obtain ⟨same_judged, same_open⟩ :=
    emptyPlr_objects (closeAllObjects (s.setOas { s.oas with lostRun := 3 }))
  exact ⟨same_judged.trans judged, same_open.trans none_open, by simp [emptyPlr], by simp [emptyPlr],
    by simp, by simp [emptyPlr]⟩

@[simp] theorem closeAllRequest_registers (s : State) :
    (closeAllRequest s).oas.plr = [] ∧ (closeAllRequest s).oas.lostRun = 0
      ∧ (closeAllRequest s).oas.closeAllDue = false
      ∧ (closeAllRequest s).oas.numberCounter = s.oas.numberCounter := by
  simp [closeAllRequest]

theorem closeAllRequest_toJudge (law : s.closingLaw) (length : s.oas.oot.length = 96) :
    (closeAllRequest s).toJudge = s.toJudge ++ s.oas.openObjects.map ObjectRecord.lineLost := by
  have judged := closeAllObjects_toJudge law length
  unfold closeAllRequest
  generalize closeAllObjects s = t at judged ⊢
  exact judged

/-- A close-all request not standing is not taken (R76). -/
theorem takeCloseAll_of_not_due (none_due : s.oas.closeAllDue = false) : takeCloseAll s = s :=
  if_neg (by simp [none_due])

/-- The line in assembly abandoned leaves the rest of the assembler. -/
theorem abandonLine_oas (s : State) : (abandonLine s).oas = { s.oas with lineInAssembly := none } := by
  unfold abandonLine
  split
  next no_line => rw [← no_line]
  next => simp

theorem abandonLine_judging (s : State) :
    (s.closingLaw → (abandonLine s).closingLaw) ∧ (abandonLine s).toJudge = s.toJudge :=
  judging_congr (by simp) (by rw [abandonLine_oas]) (fun j => by rw [abandonLine_oas])

/-! ## The end of a line (R62, R63, R69, R70) -/

/-- The object with TRUNCATED when the line has run overflow (R62). -/
def ObjectRecord.cut (overflow : Bool) (o : ObjectRecord) : ObjectRecord :=
  { o with flags := { o.flags with truncated := o.flags.truncated || overflow } }

/-- What the end of a line closes: the objects that no run joined, and those of max_object_lines (R69, R70). -/
def endRule (c : Configuration) (runs : List PlrRun) : CloseRule := fun i o =>
  if joined runs i then
    if c.maxObjectLines ≤ o.length then some (fun f => { f with oversize := true }) else none
  else some id

theorem closeAtEnd_eq_closeWhere (runs : List PlrRun) (i : Nat) (s : State) :
    closeAtEnd runs i s = closeWhere (endRule s.cmu.config runs) i s := by
  unfold closeAtEnd closeWhere endRule oversized
  cases opened : s.openObject i with
  | none => simp [closeObject, opened]
  | some o =>
    by_cases join : joined runs i = true
    · by_cases long : s.cmu.config.maxObjectLines ≤ o.length <;> simp [join, long]
    · simp [join]

theorem closesAtEnd_eq_closings (runs : List PlrRun) (n : Nat) (s : State) :
    (List.range n).foldl (fun t i => closeAtEnd runs i t) s = closings (endRule s.cmu.config runs) n s := by
  induction n with
  | zero => rfl
  | succ n ih =>
    rw [List.range_succ, List.foldl_append, ih, List.foldl_cons, List.foldl_nil, closeAtEnd_eq_closeWhere,
      closings_succ, closings_cmu]

theorem endLine_eq (overflow : Bool) (runs : List PlrRun) (s : State) :
    endLine overflow runs s
      = (closings (endRule s.cmu.config runs) 96 (truncate overflow runs s)).setOas
          { (closings (endRule s.cmu.config runs) 96 (truncate overflow runs s)).oas with
            plr := newPlr runs (truncate overflow runs s) } := by
  simp only [endLine, closesAtEnd_eq_closings, truncate_keeps]

theorem truncate_false (runs : List PlrRun) (s : State) : truncate false runs s = s := rfl

/-- Run overflow marks the objects that a run of the line joined (R62). -/
theorem openObject_truncate (overflow : Bool) (runs : List PlrRun) (s : State) (i : Nat) :
    (truncate overflow runs s).openObject i
      = (s.openObject i).map (fun o => if joined runs i then o.cut overflow else o) := by
  cases overflow with
  | false =>
    have same (o : ObjectRecord) : o.cut false = o := by simp [ObjectRecord.cut]
    simp [truncate_false, same]
  | true =>
    simp only [State.openObject, truncate, if_true, State.setOas_oas, List.getD_eq_getElem?_getD,
      getElem?_mapFrom, Nat.zero_add]
    cases s.oas.oot[i]? with
    | none => rfl
    | some x =>
      cases x with
      | opened o => cases joined runs i <;> simp [OotSlot.object?, ObjectRecord.cut]
      | closing o => rfl
      | free => rfl

theorem truncate_oas (overflow : Bool) (runs : List PlrRun) (s : State) :
    (truncate overflow runs s).oas = { s.oas with oot := (truncate overflow runs s).oas.oot } := by
  cases overflow <;> rfl

theorem truncate_judging (overflow : Bool) (runs : List PlrRun) (s : State) :
    (s.closingLaw → (truncate overflow runs s).closingLaw)
      ∧ (truncate overflow runs s).toJudge = s.toJudge := by
  refine judging_congr (by simp) (by rw [truncate_oas]) fun j => ?_
  cases overflow with
  | false => rfl
  | true =>
    simp only [truncate, if_true, State.setOas_oas, List.getD_eq_getElem?_getD, getElem?_mapFrom,
      Nat.zero_add]
    cases s.oas.oot[j]? with
    | none => rfl
    | some x =>
      cases x with
      | opened o => cases joined runs j <;> simp [OotSlot.closed?]
      | closing o => rfl
      | free => rfl

end Sys2Proof.Machine
end

section
/-! The end of a line (R62, R63, R69, R70) register by register, the assembly of a line without runs and of a line
of one run, and the statement about the assembly of lines. -/

namespace Sys2Proof.Machine

variable {s t : State} {l : LineInAssembly} {r : Run} {i : Nat} {o : ObjectRecord} {runs : List PlrRun}
  {overflow : Bool}

/-! ## The end of a line -/

/-- An object whose length has reached max_object_lines (R70). -/
def Configuration.reachedBy (c : Configuration) (o : ObjectRecord) : Bool := decide (c.maxObjectLines ≤ o.length)

/-- The object as it closes at the end of a line, if it does (R69, R70). -/
def endJudged (c : Configuration) (overflow join : Bool) (o : ObjectRecord) : Option ObjectRecord :=
  if join then
    if c.reachedBy o then
      some { o.cut overflow with flags := { (o.cut overflow).flags with oversize := true } }
    else none
  else some o

theorem endRule_of_not_joined (c : Configuration) (apart : joined runs i = false) (o : ObjectRecord) :
    endRule c runs i o = some id := by
  simp [endRule, apart]

theorem endRule_of_joined (c : Configuration) (join : joined runs i = true) (o : ObjectRecord) :
    endRule c runs i o = if c.reachedBy o then some (fun f => { f with oversize := true }) else none := by
  simp [endRule, join, Configuration.reachedBy]

/-- TRUNCATED leaves the length of an object. -/
@[simp] theorem reachedBy_cut (c : Configuration) (overflow : Bool) (o : ObjectRecord) :
    c.reachedBy (o.cut overflow) = c.reachedBy o := rfl

/-- After the end of a line the OPEN objects are those that a run joined and that have not reached
max_object_lines, TRUNCATED with run overflow. -/
theorem openObject_endLine (length : s.oas.oot.length = 96) (overflow : Bool) (runs : List PlrRun) (i : Nat) :
    (endLine overflow runs s).openObject i
      = (s.openObject i).bind (fun o =>
          if joined runs i && !s.cmu.config.reachedBy o then some (o.cut overflow) else none) := by
  have kept : (endLine overflow runs s).openObject i
      = (closings (endRule s.cmu.config runs) 96 (truncate overflow runs s)).openObject i := by
    rw [endLine_eq]
    generalize closings _ _ _ = u
    rfl
  rw [kept, openObject_closings, openObject_truncate]
  cases opened : s.openObject i with
  | none => simp
  | some o =>
    have inside : i < 96 := by
      by_contra outside
      rw [openObject_of_length_le (by omega)] at opened
      cases opened
    rw [if_pos inside, Option.map_some, Option.bind_some, Option.filter_some]
    cases join : joined runs i with
    | false => simp [endRule_of_not_joined _ join]
    | true =>
      rw [endRule_of_joined _ join]
      cases long : s.cmu.config.reachedBy o <;> simp [long]

/-- The objects that close join those to be judged in ascending slot order (R69 ~ R71). -/
theorem endLine_toJudge (law : s.closingLaw) (overflow : Bool) (runs : List PlrRun) :
    (endLine overflow runs s).toJudge
      = s.toJudge ++ (List.range 96).filterMap (fun i =>
          (s.openObject i).bind (endJudged s.cmu.config overflow (joined runs i))) := by
  have kept : (endLine overflow runs s).toJudge
      = (closings (endRule s.cmu.config runs) 96 (truncate overflow runs s)).toJudge := by
    rw [endLine_eq]
    generalize closings _ _ _ = u
    rfl
  obtain ⟨keeps, same⟩ := truncate_judging overflow runs s
  obtain ⟨_, judged⟩ := closings_judging (endRule s.cmu.config runs) 96 (keeps law)
  rw [kept, judged, same]
  refine congrArg (s.toJudge ++ ·) (List.filterMap_congr fun i _ => ?_)
  rw [openObject_truncate]
  cases opened : s.openObject i with
  | none => rfl
  | some o =>
    rw [Option.map_some, Option.bind_some, Option.bind_some, CloseRule.judged]
    cases join : joined runs i with
    | false => simp [endRule_of_not_joined _ join, endJudged]
    | true =>
      rw [endRule_of_joined _ join]
      cases long : s.cmu.config.reachedBy o <;> simp [long, endJudged]

/-- The runs of the line are the new previous line, those of an object closed OVERSIZE labelled none (R63). -/
theorem newPlr_truncate (overflow : Bool) (runs : List PlrRun) (s : State) :
    newPlr runs (truncate overflow runs s)
      = runs.map (fun p =>
          if (p.label.bind s.openObject).any s.cmu.config.reachedBy then { p with label := none } else p) := by
  refine List.map_congr_left fun p hp => ?_
  cases label : p.label with
  | none => simp
  | some i =>
    have join : joined runs i = true := List.any_eq_true.2 ⟨p, hp, by simp [label]⟩
    have oversize : oversized runs (truncate overflow runs s) i
        = (s.openObject i).any s.cmu.config.reachedBy := by
      rw [oversized, openObject_truncate]
      cases s.openObject i with
      | none => rfl
      | some o =>
        simp only [Option.map_some, join, if_true, Bool.true_and, truncate_keeps, Option.any_some]
        exact reachedBy_cut _ overflow o
    simp [oversize]

theorem endLine_plr (overflow : Bool) (runs : List PlrRun) (s : State) :
    (endLine overflow runs s).oas.plr
      = runs.map (fun p =>
          if (p.label.bind s.openObject).any s.cmu.config.reachedBy then { p with label := none } else p) := by
  rw [endLine_eq, ← newPlr_truncate overflow]
  rfl

@[simp] theorem endLine_registers (overflow : Bool) (runs : List PlrRun) (s : State) :
    (endLine overflow runs s).oas.numberCounter = s.oas.numberCounter
      ∧ (endLine overflow runs s).oas.lostRun = s.oas.lostRun
      ∧ (endLine overflow runs s).oas.closeAllDue = s.oas.closeAllDue := by
  have truncated : (truncate overflow runs s).oas.numberCounter = s.oas.numberCounter
      ∧ (truncate overflow runs s).oas.lostRun = s.oas.lostRun
      ∧ (truncate overflow runs s).oas.closeAllDue = s.oas.closeAllDue := by
    rw [truncate_oas]
    simp
  rw [endLine_eq]
  simpa using truncated

theorem endLine_counter (overflow : Bool) (runs : List PlrRun) (c : Counter) (s : State) :
    (endLine overflow runs s).counter c = s.counter c :=
  counter_congr (by simp) c

/-- With every object joined and below max_object_lines the end of a line closes none. -/
theorem endLine_of_quiet
    (quiet : ∀ i o, s.openObject i = some o → joined runs i = true ∧ s.cmu.config.reachedBy o = false) :
    endLine false runs s = s.setOas { s.oas with plr := runs } := by
  have none_closes (i o) (opened : s.openObject i = some o) : endRule s.cmu.config runs i o = none := by
    obtain ⟨join, short⟩ := quiet i o opened
    rw [endRule_of_joined _ join, if_neg (by simp [short])]
  have labels : newPlr runs s = runs := by
    have plr := newPlr_truncate false runs s
    rw [truncate_false] at plr
    rw [plr]
    refine (List.map_congr_left fun p _ => if_neg ?_).trans (List.map_id' runs)
    rintro long
    obtain ⟨o, read, reached⟩ := Option.any_eq_true .. |>.1 long
    obtain ⟨i, _, opened⟩ := Option.bind_eq_some_iff.1 read
    simp [(quiet i o opened).2] at reached
  rw [endLine_eq, truncate_false, closings_of_none none_closes, labels]

/-! ## The line assembled -/

theorem scrubLine_of_off (off : s.cmu.config.scrubInterval = 0) : scrubLine s = s := if_pos off

/-- The counter lines_assembled rises with each line (R196). -/
theorem assembleLine_counter (off : s.cmu.config.scrubInterval = 0) (length : s.rpu.counters.length = 54) :
    (assembleLine l s).counter .linesAssembled = s.counter .linesAssembled + 1 := by
  have linked := linkRuns_keptByLinking (l := l) (done := []) (full := false)
    (keptByLinking_refl (s.setOas { s.oas with lostRun := 0 }))
    ((scanRuns s.cmu.config.windowFirst none l.classRow).take maxRuns)
  rw [assembleLine, scrubLine_of_off (by simpa using off), bump_counter_self]
  · rw [endLine_counter]
    exact congrArg (· + 1) (bumpBy_keptByLinking linked (by decide) _).linesAssembled
  · simpa [bumpBy, linked.counters, length] using by decide

theorem assembleLine_tbs (off : s.cmu.config.scrubInterval = 0) : (assembleLine l s).tbs = s.tbs := by
  rw [assembleLine, scrubLine_of_off (by simpa using off)]
  simp

/-- The line assembled leaves the close-all request as it stands, and its lost run is 0 (R60, R76). -/
theorem assembleLine_registers (l : LineInAssembly) (s : State) :
    (assembleLine l s).oas.lostRun = 0 ∧ (assembleLine l s).oas.closeAllDue = s.oas.closeAllDue := by
  have linked := linkRuns_keptByLinking (l := l) (done := []) (full := false)
    (keptByLinking_refl (s.setOas { s.oas with lostRun := 0 }))
    ((scanRuns s.cmu.config.windowFirst none l.classRow).take maxRuns)
  simp [assembleLine, linked.lostRun, linked.closeAllDue]

/-- A line without runs closes every object (R69). -/
theorem assembleLine_of_empty (length : s.oas.oot.length = 96)
    (empty : scanRuns s.cmu.config.windowFirst none l.classRow = []) :
    (assembleLine l s).oas.openCount = 0 ∧ (assembleLine l s).oas.plr = [] := by
  have none_open (j : Nat) : (endLine false [] (bumpBy .overflowPixels 0
      (s.setOas { s.oas with lostRun := 0 }))).openObject j = none := by
    rw [openObject_endLine (by simpa using length)]
    cases (bumpBy .overflowPixels 0 (s.setOas { s.oas with lostRun := 0 })).openObject j <;> simp [joined]
  have assembled : (assembleLine l s).oas
      = (endLine false [] (bumpBy .overflowPixels 0 (s.setOas { s.oas with lostRun := 0 }))).oas := by
    simp [assembleLine, empty, linkRuns, overflowPixels, maxRuns]
  rw [assembled]
  exact ⟨openCount_eq_zero none_open, by rw [endLine_plr]; rfl⟩

/-- A line of one run whose link leaves every object joined and below max_object_lines closes none. -/
theorem assembleLine_of_single {p : PlrRun}
    (single : scanRuns s.cmu.config.windowFirst none l.classRow = [r])
    (linked : linkRuns l [r] [] false (s.setOas { s.oas with lostRun := 0 }) = ([p], t))
    (quiet : ∀ i o, t.openObject i = some o → joined [p] i = true ∧ s.cmu.config.reachedBy o = false) :
    (assembleLine l s).oas = { t.oas with plr := [p] } ∧ (assembleLine l s).vdu = t.vdu := by
  have config : t.cmu = s.cmu := by
    have kept : (linkRuns l [r] [] false (s.setOas { s.oas with lostRun := 0 })).2.cmu = s.cmu := by simp
    rwa [linked] at kept
  have same : (bumpBy .overflowPixels 0 t).cmu = s.cmu := by simpa using config
  have ended : endLine false [p] (bumpBy .overflowPixels 0 t)
      = (bumpBy .overflowPixels 0 t).setOas { t.oas with plr := [p] } :=
    endLine_of_quiet (s := bumpBy .overflowPixels 0 t) fun i o opened => by
      rw [same]
      exact quiet i o opened
  simp [assembleLine, single, linked, overflowPixels, maxRuns, ended]

/-- The only object OPEN in a table otherwise FREE. -/
theorem openObject_of_single {x : ObjectRecord} {j : Nat}
    (table : s.oas.oot = (List.replicate 96 OotSlot.free).set i (.opened x)) (opened : s.openObject j = some o) :
    i = j ∧ o = x := by
  rw [openObject_eq_some_iff, table] at opened
  by_cases here : i = j
  · subst here
    by_cases inside : i < 96
    · simp_all
    · rw [List.set_eq_of_length_le (by simpa using inside), getD_replicate_self] at opened
      cases opened
  · rw [getD_set_of_ne _ _ here, getD_replicate_self] at opened
    cases opened

/-- One run on an empty table and after an empty line creates an object (R65). -/
theorem assembleLine_creates (single : scanRuns s.cmu.config.windowFirst none l.classRow = [r])
    (empty : s.oas.plr = []) (table : s.oas.oot = List.replicate 96 .free)
    (long : 2 ≤ s.cmu.config.maxObjectLines) :
    (assembleLine l s).oas.oot
        = (List.replicate 96 OotSlot.free).set 0 (.opened (newObject l r s.oas.numberCounter false))
      ∧ (assembleLine l s).oas.plr = [r.labelled (some 0)]
      ∧ (assembleLine l s).oas.numberCounter = s.oas.numberCounter + 1 ∧ (assembleLine l s).vdu = s.vdu := by
  have alone : linkSet (s.setOas { s.oas with lostRun := 0 }) r = [] := linkSet_of_empty empty r
  have free : s.oas.oot.findIdx? OotSlot.isFree = some 0 := by
    rw [table]
    rfl
  have linked := linkRuns_create (l := l) (rest := []) (done := []) (full := false) alone free
  have none_touched : touchesNone (s.setOas { s.oas with lostRun := 0 }) r = false := by
    simp [touchesNone, empty]
  have created : (createObject l r 0 (s.setOas { s.oas with lostRun := 0 })).oas.oot
      = (List.replicate 96 OotSlot.free).set 0 (.opened (newObject l r s.oas.numberCounter false)) := by
    show s.oas.oot.set 0 (.opened (newObject l r s.oas.numberCounter (touchesNone _ r))) = _
    rw [none_touched, table]
  have short : s.cmu.config.reachedBy (newObject l r s.oas.numberCounter false) = false := by
    simp [Configuration.reachedBy, ObjectRecord.length, newObject]
    omega
  obtain ⟨oas, vdu⟩ := assembleLine_of_single (p := r.labelled (some 0)) single linked fun i o opened => by
    obtain ⟨rfl, rfl⟩ := openObject_of_single created opened
    exact ⟨by simp [joined, Run.labelled], short⟩
  rw [oas, vdu]
  exact ⟨created, rfl, by simp [createObject, State.setSlot], by simp⟩

/-- One run that touches the only run of the previous line, of the only object OPEN, extends it (R66). -/
theorem assembleLine_extends {p : PlrRun} (single : scanRuns s.cmu.config.windowFirst none l.classRow = [r])
    (plr : s.oas.plr = [p]) (label : p.label = some i) (inside : i < 96)
    (table : s.oas.oot = (List.replicate 96 OotSlot.free).set i (.opened o))
    (left : p.first ≤ r.last + 1) (right : r.first ≤ p.last + 1)
    (short : (l.line - o.startLine).toNat + 1 < s.cmu.config.maxObjectLines) :
    (assembleLine l s).oas.oot = (List.replicate 96 OotSlot.free).set i (.opened (o.extend l r))
      ∧ (assembleLine l s).oas.plr = [r.labelled (some i)]
      ∧ (assembleLine l s).oas.numberCounter = s.oas.numberCounter ∧ (assembleLine l s).vdu = s.vdu := by
  have opened : (s.setOas { s.oas with lostRun := 0 }).openObject i = some o := by
    simp [openObject_eq_some_iff, table, inside]
  have one : linkSet (s.setOas { s.oas with lostRun := 0 }) r = [i] :=
    linkSet_of_single plr label opened left right
  have linked := linkRuns_extend (l := l) (rest := []) (done := []) (full := false) one
  rw [extendSlot_of_open opened] at linked
  have extended : ((s.setOas { s.oas with lostRun := 0 }).setSlot i (.opened (o.extend l r))).oas.oot
      = (List.replicate 96 OotSlot.free).set i (.opened (o.extend l r)) := by
    simp [State.setSlot, table]
  obtain ⟨oas, vdu⟩ := assembleLine_of_single (p := r.labelled (some i)) single linked fun j x here => by
    obtain ⟨rfl, rfl⟩ := openObject_of_single extended here
    exact ⟨by simp [joined, Run.labelled], decide_eq_false (Nat.not_le.2 short)⟩
  rw [oas, vdu]
  exact ⟨extended, rfl, rfl, by simp⟩

/-! ## The statement -/

theorem exec_lineAssemblyCompletion (s : State) :
    exec .lineAssemblyCompletion s = .next (finish (assemblyCompletes s)) := rfl

theorem exec_closeAll (s : State) : exec .closeAll s = .next (finish (closeAllFirst s)) := rfl

theorem assemblyCompletes_of_line (line : s.oas.lineInAssembly = some l) :
    assemblyCompletes s = deliver (freeSlot l.slot (takeCloseAll (applyLine l s))) := by
  simp only [assemblyCompletes, line]

/-- With no line lost before and no request standing the line is assembled and freed (R57). -/
theorem assemblyCompletes_of_plain (line : s.oas.lineInAssembly = some l) (none_lost : l.lostBefore = 0)
    (none_due : s.oas.closeAllDue = false) :
    assemblyCompletes s
      = deliver (freeSlot l.slot
          ((assembleLine l s).setOas { (assembleLine l s).oas with lineInAssembly := none })) := by
  have applied : applyLine l s
      = (assembleLine l s).setOas { (assembleLine l s).oas with lineInAssembly := none } := by
    simp [applyLine, none_lost, applyLostLines]
  have not_due : (applyLine l s).oas.closeAllDue = false := by
    rw [applied]
    exact (assembleLine_registers l s).2.trans none_due
  rw [assemblyCompletes_of_line line, takeCloseAll_of_not_due not_due, applied]

/-- A close-all request that stands in SORTING abandons the line in assembly and is taken (R76). -/
theorem exec_closeAll_of_due (due : s.oas.closeAllDue = true) (sorting : s.cmu.engine = .sorting)
    (none_stands : s.cmu.causes = []) :
    exec .closeAll s = .next (deliver (closeAllRequest (abandonLine s))) := by
  have at_rest : (closeAllRequest (abandonLine s)).atRest :=
    ⟨by simpa using none_stands, by simp [sorting]⟩
  rw [exec_closeAll, closeAllFirst, if_pos due, finish_of_atRest (deliver_atRest at_rest)]

/-- Settles O47: the rows by what a line and a request do to the table; each stage by the lemma of its
operation. -/
theorem linesAreAssembled : Obligations.LinesAreAssembled := by
  unfold Obligations.LinesAreAssembled
  refine ⟨?no_line, ?whole_line, ?close_all, ?completion, ?lost_line, fun l s => rfl,
    fun r s => ⟨linkSet_nodup s r, mem_linkSet s r⟩, ?run, ?absorbed, ?end_of_line⟩
  case no_line =>
    intro s no_line
    rw [exec_lineAssemblyCompletion, assemblyCompletes, no_line]
  case whole_line =>
    intro l s line none_lost length none_due off
    obtain ⟨_, bpu, liu, _, vlc, cmu, _⟩ := assembleLine_keeps l s
    obtain ⟨lost_run, _⟩ := assembleLine_registers l s
    have completes := assemblyCompletes_of_plain line none_lost none_due
    have tbs := assembleLine_tbs (l := l) off
    have counted := assembleLine_counter (l := l) off
    have no_runs := assembleLine_of_empty (l := l) length
    have creates (r) := assembleLine_creates (s := s) (l := l) (r := r)
    have extends_one (r p o i) :=
      assembleLine_extends (s := s) (l := l) (r := r) (p := p) (o := o) (i := i)
    generalize assembleLine l s = u at *
    refine ⟨u.setOas { u.oas with lineInAssembly := none }, ?_, rfl, lost_run, bpu, liu, tbs, cmu, vlc,
      counted, no_runs, creates, extends_one⟩
    rw [exec_lineAssemblyCompletion, completes]
  case close_all =>
    refine fun s => ⟨fun none_due => ?_, fun due length sorting none_stands => ?_⟩
    · rw [exec_closeAll, closeAllFirst, if_neg (by simp [none_due])]
    have abandoned := abandonLine_oas s
    have length' : (abandonLine s).oas.oot.length = 96 := by rw [abandoned, length]
    obtain ⟨none_open, _⟩ := closeAllRequest_empties length'
    obtain ⟨plr, lost_run, not_due, number⟩ := closeAllRequest_registers (abandonLine s)
    refine ⟨closeAllRequest (abandonLine s), _, exec_closeAll_of_due due sorting none_stands, rfl,
      none_open, plr, lost_run, ?_, not_due, ?_, fun law => ?_, ?_⟩
    · rw [closeAllRequest_line, abandoned]
    · rw [number, abandoned]
    · obtain ⟨keeps, same⟩ := abandonLine_judging s
      rw [closeAllRequest_toJudge (keeps law) length', same, abandoned]
      rfl
    · simp only [closeAllRequest_keeps, abandonLine]
      cases s.oas.lineInAssembly <;> rfl
  case completion =>
    intro l s line u
    rw [exec_lineAssemblyCompletion, assemblyCompletes_of_line line]
    rfl
  case lost_line =>
    refine fun s => ⟨fun below => ?_, fun third length law => applyLostLine_closes third length law, rfl,
      fun _ => rfl⟩
    refine (applyLostLine_of_lt below).trans (congrArg (fun gap => bump .linesBridged
      (s.setOas { s.oas with lostRun := s.oas.lostRun + 1, oot := s.oas.oot.map gap }))
      (funext fun x => ?_))
    cases x <;> rfl
  case run =>
    refine fun l r rest done full s => ⟨fun alone => ⟨fun i free => linkRuns_create alone free,
      fun none_free => ?_⟩, fun i o one opened => ?_, fun i j more several => ?_⟩
    · have turn := linkRuns_no_slot (l := l) (rest := rest) (done := done) (full := full) alone none_free
      refine ⟨fun pass => ?_, fun blind owned => ⟨fun no_valve => ?_, fun v range => ?_⟩⟩
      · rw [findsNoSlot_of_pass pass] at turn
        exact turn
      · rw [findsNoSlot_of_blind blind owned, blindRequest_of_none (by simpa using no_valve)] at turn
        exact turn
      · rw [findsNoSlot_of_blind blind owned, blindRequest_of_range (by simpa using range)] at turn
        simp only [countUnassigned_keeps, State.lead] at turn
        exact turn
    · rw [linkRuns_extend one, extendSlot_of_open opened]
      rfl
    · obtain ⟨mem, least⟩ := survivorOf_spec (s := s) (n := l.line) i (j :: more) fun x hx =>
        ((mem_linkSet s r x).1 (several ▸ hx)).1
      rw [← several] at mem least
      exact ⟨_, mem, least, linkRuns_merge several⟩
  case absorbed =>
    intro n i j o a s survivor absorbed _
    rw [absorbSlot_of_open survivor absorbed]
    simp only [ObjectRecord.absorb, decide_eq_true_eq]
    rfl
  case end_of_line =>
    intro overflow runs s length law
    exact ⟨openObject_endLine length overflow runs, endLine_toJudge law overflow runs,
      endLine_plr overflow runs s, by simp, by simp, by simp, by simp⟩

end Sys2Proof.Machine
end

section
/-! When a rule matches an object (R88): the mask sum, the two measures, and their limiting cases. -/

namespace Sys2Proof.Machine

/-! ## The mask sum -/

/-- The elements with their index, written over the indices of a list of known length. -/
theorem mapFrom_eq_map_finRange {α β : Type} (f : Nat → α → β) (d : α) {l : List α} {n : Nat}
    (length : l.length = n) : mapFrom f 0 l = (List.finRange n).map (fun c => f c.val (l.getD c.val d)) := by
  refine List.ext_getElem (by simp [length]) fun i h _ => ?_
  have inside : i < l.length := by simpa using h
  have read : (mapFrom f 0 l)[i] = f i l[i] := by
    rw [← Option.some_inj, ← List.getElem?_eq_getElem, getElem?_mapFrom, List.getElem?_eq_getElem inside,
      Nat.zero_add, Option.map_some]
  simp [read, inside]

/-- The mask sum runs over the 16 classes. -/
theorem maskSum_eq_sum (mask : Word16) {histogram : List Nat} (length : histogram.length = 16) :
    maskSum mask histogram
      = ((List.finRange 16).map
          (fun c => if mask.getLsbD c.val then histogram.getD c.val 0 else 0)).sum :=
  congrArg List.sum (mapFrom_eq_map_finRange _ 0 length)

/-- A mask that names no class other than class 0 counts nothing where class 0 has no pixel. -/
theorem maskSum_eq_zero {mask : Word16} {histogram : List Nat} (others : ∀ c, c ≠ 0 → mask.getLsbD c = false)
    (none_of_zero : histogram.getD 0 0 = 0) : maskSum mask histogram = 0 := by
  refine List.sum_eq_zero fun x member => ?_
  obtain ⟨c, read⟩ := List.mem_iff_getElem?.1 member
  rw [getElem?_mapFrom, Option.map_eq_some_iff, Nat.zero_add] at read
  obtain ⟨n, entry, rfl⟩ := read
  by_cases zero : c = 0
  · subst zero
    have : n = 0 := by simpa [List.getD_eq_getElem?_getD, entry] using none_of_zero
    simp [this]
  · simp [others c zero]

theorem measureOf_eq_zero {mask : Word16} {o : ObjectRecord} (m : Measure)
    (empty : maskSum mask o.histogram = 0) : measureOf m mask o = 0 := by
  cases m with
  | count => exact empty
  | share => simp [measureOf, empty]

/-! ## The match -/

theorem Rule.coincides_iff (r : Rule) (o : ObjectRecord) :
    r.coincides o = true
      ↔ ∀ k, r.coincidence = some k → k.threshold ≤ measureOf k.measure k.mask o := by
  unfold Rule.coincides
  cases r.coincidence <;> simp

theorem Rule.matches_iff (r : Rule) (o : ObjectRecord) :
    r.matches o = true
      ↔ r.enabled = true ∧ r.areaMin ≤ o.area ∧ o.area ≤ r.areaMax
        ∧ r.threshold ≤ measureOf r.measure r.mask o
        ∧ ∀ k, r.coincidence = some k → k.threshold ≤ measureOf k.measure k.mask o := by
  simp only [Rule.matches, Bool.and_eq_true, decide_eq_true_eq, Rule.coincides_iff, and_assoc]

/-! ## The statement -/

/-- Settles O49: the match by its five conditions, the measures by the mask sum over the 16 classes. -/
theorem ruleMatches : Obligations.RuleMatches := by
  unfold Obligations.RuleMatches
  refine ⟨Rule.matches_iff, fun mask o length => ?measures, fun r o crossed => ?crossed_limits,
    fun r o none_asked no_term enabled least greatest => ?threshold_zero,
    fun s o m mask law under => ?empty_mask⟩
  case measures =>
    exact ⟨maskSum_eq_sum mask length, congrArg (1000 * · / o.area) (maskSum_eq_sum mask length)⟩
  case crossed_limits =>
    refine Bool.eq_false_iff.2 fun matched => ?_
    obtain ⟨_, least, greatest, _⟩ := (Rule.matches_iff r o).1 matched
    omega
  case threshold_zero =>
    exact (Rule.matches_iff r o).2 ⟨enabled, least, greatest, by simp [none_asked], by simp [no_term]⟩
  case empty_mask =>
    obtain ⟨pixels, _, none_of_zero⟩ := law o (by simp [under])
    refine ⟨by omega, fun only_zero => measureOf_eq_zero m (maskSum_eq_zero (fun c other => ?_) none_of_zero)⟩
    rcases only_zero with rfl | rfl
    · simp
    · simp [BitVec.getLsbD_one, other]

end Sys2Proof.Machine
end

section
/-! The completion of an evaluation: the valve range over columns (R92), the flag policies (R87), the deciding
source (R86 ~ R89), a reject's request (R93) and its report (R94). -/

namespace Sys2Proof.Machine

variable {c : Configuration} {bank : ProductBank} {o : ObjectRecord} {s : State}

/-! ## The valve range (R92) -/

/-- The valves the VMT gives the columns `first` ~ `last`, in column order. -/
def valvesOver (c : Configuration) (vmt : List (Option Nat)) (first last : Nat) : List Nat :=
  ((vmt.drop (first - c.windowFirst)).take (last + 1 - first)).filterMap id

/-- A valve is given when some column of the range maps to it. -/
theorem mem_valvesOver {vmt : List (Option Nat)} {first last : Nat} (inside : c.windowFirst ≤ first) (v : Nat) :
    v ∈ valvesOver c vmt first last
      ↔ ∃ k, first ≤ k ∧ k ≤ last ∧ vmt[k - c.windowFirst]? = some (some v) := by
  simp only [valvesOver, List.mem_filterMap, id_eq, exists_eq_right]
  simp only [List.mem_iff_getElem?, List.getElem?_take, List.getElem?_drop, Option.ite_none_right_eq_some]
  constructor
  · rintro ⟨i, within, entry⟩
    exact ⟨first + i, by omega, by omega, by rwa [Nat.sub_add_comm inside]⟩
  · rintro ⟨k, least, greatest, entry⟩
    have column : first - c.windowFirst + (k - first) = k - c.windowFirst := by omega
    exact ⟨k - first, by omega, by rwa [column]⟩

theorem valveRange_of_nil {vmt : List (Option Nat)} {first last : Nat}
    (none_given : valvesOver c vmt first last = []) : valveRange c vmt first last = none := by
  unfold valvesOver at none_given
  simp only [valveRange, none_given]

/-- The valve range goes from the least valve given to the greatest. -/
theorem valveRange_of_cons {vmt : List (Option Nat)} {first last v : Nat} {vs : List Nat}
    (given : valvesOver c vmt first last = v :: vs) :
    valveRange c vmt first last = some (vs.foldl min v, vs.foldl max v) := by
  unfold valvesOver at given
  simp only [valveRange, given]

theorem valveRange_eq_none_iff (c : Configuration) (vmt : List (Option Nat)) (first last : Nat) :
    valveRange c vmt first last = none ↔ valvesOver c vmt first last = [] := by
  cases given : valvesOver c vmt first last with
  | nil => simp [valveRange_of_nil given]
  | cons v vs => simp [valveRange_of_cons given]

theorem valveRange_eq_some_iff (c : Configuration) (vmt : List (Option Nat)) (first last low high : Nat) :
    valveRange c vmt first last = some (low, high)
      ↔ (valvesOver c vmt first last).min? = some low ∧ (valvesOver c vmt first last).max? = some high := by
  cases given : valvesOver c vmt first last with
  | nil => simp [valveRange_of_nil given]
  | cons v vs => rw [valveRange_of_cons given, List.min?_cons', List.max?_cons']; simp

/-! ## The flag policies (R87) -/

/-- Whether an object carries a flag, the flag's policy, and its name. -/
def policyRow (c : Configuration) (f : ObjectFlags) (p : PolicyFlag) : Bool × Policy × PolicyFlag :=
  (f.has p, c.policy p, p)

/-- A flag decides when the object carries it and its policy is not EVALUATE. -/
def rowDecides (x : Bool × Policy × PolicyFlag) : Bool := x.1 && decide (x.2.1 ≠ .evaluate)

/-- What a flag that decides gives. -/
def rowDecision (x : Bool × Policy × PolicyFlag) : Verdict × DecidingSource :=
  (if x.2.1 = .reject then .reject else .accept, .flag x.2.2)

theorem flagDecision_eq (c : Configuration) (f : ObjectFlags) (p : PolicyFlag) :
    (flagDecision c f p).map (fun v => (v, DecidingSource.flag p))
      = if rowDecides (policyRow c f p) then some (rowDecision (policyRow c f p)) else none := by
  unfold flagDecision rowDecides rowDecision policyRow
  cases f.has p
  · rfl
  · cases c.policy p <;> rfl

/-- The decision among some flags is that of the first flag that decides. -/
theorem findSome?_flagDecision (c : Configuration) (f : ObjectFlags) (flags : List PolicyFlag) :
    flags.findSome? (fun p => (flagDecision c f p).map (fun v => (v, DecidingSource.flag p)))
      = ((flags.map (policyRow c f)).find? rowDecides).map rowDecision := by
  induction flags with
  | nil => rfl
  | cons p flags ih =>
    rw [List.findSome?_cons, List.map_cons, flagDecision_eq]
    by_cases decides : rowDecides (policyRow c f p) = true
    · rw [if_pos decides, List.find?_cons_of_pos decides, Option.map_some]
    · rw [if_neg decides, List.find?_cons_of_neg decides, ih]

theorem flagPolicies_eq (c : Configuration) (f : ObjectFlags) :
    flagPolicies c f = ((policyOrder.map (policyRow c f)).find? rowDecides).map rowDecision :=
  findSome?_flagDecision c f policyOrder

/-! ## The deciding source (R86 ~ R89) -/

theorem owns_iff (c : Configuration) (column : Nat) :
    c.owns column = true ↔ c.ownFirst ≤ column ∧ column ≤ c.ownLast := by
  simp [Configuration.owns]

theorem judge_of_not_owned (outside : o.centre < c.ownFirst ∨ c.ownLast < o.centre) :
    judge c bank o = (.discarded, .ownership) :=
  if_neg fun owned => by
    obtain ⟨least, greatest⟩ := (owns_iff c o.centre).1 owned
    omega

theorem judge_of_flag {d : Verdict × DecidingSource} (owned : c.owns o.centre = true)
    (decided : flagPolicies c o.flags = some d) : judge c bank o = d := by
  simp only [judge, owned, if_true, decided]

theorem judge_of_rules (owned : c.owns o.centre = true) (undecided : flagPolicies c o.flags = none) :
    judge c bank o = applyRules bank.default o 0 bank.rules := by
  simp only [judge, owned, if_true, undecided]

/-- The first rule that matches decides. -/
theorem applyRules_of_first (default : RuleAction) {rules : List Rule} {n : Nat} {r : Rule} (m : Nat)
    (entry : rules[n]? = some r) (matched : r.matches o = true)
    (first : ∀ k < n, ∀ q, rules[k]? = some q → q.matches o = false) :
    applyRules default o m rules = (r.action.verdict, .rule (m + n)) := by
  induction rules generalizing m n with
  | nil => simp at entry
  | cons q rules ih =>
    cases n with
    | zero =>
      obtain rfl : q = r := by simpa using entry
      simp [applyRules, matched]
    | succ n =>
      have passes : q.matches o = false := first 0 (by omega) q rfl
      have rest := ih (m + 1) entry fun k before => first (k + 1) (by omega)
      rw [applyRules, passes, if_neg Bool.false_ne_true, rest, Nat.add_assoc, Nat.add_comm 1]

theorem applyRules_of_none (default : RuleAction) {rules : List Rule} (m : Nat)
    (none_matches : ∀ r ∈ rules, r.matches o = false) :
    applyRules default o m rules = (default.verdict, .default) := by
  induction rules generalizing m with
  | nil => rfl
  | cons q rules ih =>
    obtain ⟨passes, rest⟩ := List.forall_mem_cons.1 none_matches
    rw [applyRules, passes, if_neg Bool.false_ne_true, ih (m + 1) rest]

/-! ## The completion (R85, R94) -/

/-- The state in which an evaluation is done and its outcome counted. -/
def State.counted (s : State) (v : Verdict) : State :=
  bump v.counter (s.setVdu { s.vdu with evaluating := none })

/-- A state with the object report of a completion posted when report_mode calls for it (R94). -/
def State.reported (s : State) (o : ObjectRecord) (result : EjectionResult) (valves : Option (Nat × Nat))
    (t : State) : State :=
  let d := judge s.cmu.config s.tbs.activeBank o
  if s.cmu.config.reportMode = .all ∨ (s.cmu.config.reportMode = .rejects ∧ d.1 = .reject) then
    postReport
      { object := o
        verdict := d.1
        source := d.2
        generation := s.tbs.generation
        result := result
        window := if d.1 = .reject then some (ejectionWindow s.cmu.config s.lead o) else none
        valves := valves
        travel := s.bpu.travel } t
  else t

theorem wants_iff (m : ReportMode) (v : Verdict) :
    m.wants v = true ↔ m = .all ∨ (m = .rejects ∧ v = .reject) := by
  cases m <;> simp [ReportMode.wants]

/-- An outcome other than REJECT is counted and reported. -/
theorem complete_of_passed {v : Verdict} (decided : (judge s.cmu.config s.tbs.activeBank o).1 = v)
    (passed : v ≠ .reject) : complete o s = s.reported o .none none (s.counted v) := by
  subst decided
  simp only [complete, State.reported, objectReport, wants_iff, passed, if_false, decide_false,
    Bool.false_eq_true, State.counted]

section reject

variable (reject : (judge s.cmu.config s.tbs.activeBank o).1 = .reject)

include reject

/-- A REJECT is counted, its result takes effect, and it is reported with its result and valve range. -/
theorem complete_of_reject :
    complete o s
      = let window := ejectionWindow s.cmu.config s.lead o
        let valves := valveRange s.cmu.config s.tbs.vmt o.colMin o.colMax
        s.reported o (ejectionResult s.bpu.travel window valves) valves
          (settleReject o window valves (s.counted .reject)) := by
  simp only [complete, State.reported, objectReport, wants_iff, reject, if_true, decide_true, State.counted]

theorem complete_of_no_valve (none_given : valveRange s.cmu.config s.tbs.vmt o.colMin o.colMax = none) :
    complete o s = s.reported o .noValve none (bump .noValve (s.counted .reject)) := by
  rw [complete_of_reject reject, none_given]
  rfl

variable {v : Nat × Nat} (given : valveRange s.cmu.config s.tbs.vmt o.colMin o.colMax = some v)

include given

theorem complete_of_late
    (late : reached (ejectionWindow s.cmu.config s.lead o).2 s.bpu.travel = true) :
    complete o s = s.reported o .late (some v) (bump .ejectionsMissedLate (s.counted .reject)) := by
  rw [complete_of_reject reject, given]
  simp [ejectionResult, settleReject, late, State.counted]

theorem complete_of_ahead
    (ahead : reached (ejectionWindow s.cmu.config s.lead o).2 s.bpu.travel = false) :
    complete o s
      = s.reported o .requested (some v)
          ((s.counted .reject).setEjs
            { s.ejs with
              vduRequests := s.ejs.vduRequests ++
                [{ source := .object o.number
                   valveFirst := v.1
                   valveLast := v.2
                   openPos := (ejectionWindow s.cmu.config s.lead o).1
                   closePos := (ejectionWindow s.cmu.config s.lead o).2 }] }) := by
  rw [complete_of_reject reject, given]
  simp [ejectionResult, settleReject, ahead, State.counted, handRequest]

end reject

/-! ## The statement -/

theorem exec_evaluationCompletion (s : State) :
    exec .evaluationCompletion s = .next (finish (evaluationCompletes s)) := rfl

theorem evaluationCompletes_of_none (idle : s.vdu.evaluating = none) : evaluationCompletes s = s := by
  simp only [evaluationCompletes, idle]

theorem evaluationCompletes_of_some (under : s.vdu.evaluating = some o) :
    evaluationCompletes s = pump (complete o s) := by
  simp only [evaluationCompletes, under]

/-- Settles O50: the completion outcome by outcome, the deciding source, the flag policies flag by flag, and the
valve range as the least and the greatest of the valves given. -/
theorem evaluationsComplete : Obligations.EvaluationsComplete := by
  unfold Obligations.EvaluationsComplete
  refine ⟨fun s idle => ?idle, fun o s under => ?completion, fun c bank o => ?source, fun c f => ?flags,
    fun c vmt first last inside => ?valves⟩
  case idle => rw [exec_evaluationCompletion, evaluationCompletes_of_none idle]
  case completion =>
    have ends {t : State} (completes : complete o s = t) :
        exec .evaluationCompletion s = .next (finish (pump t)) := by
      rw [exec_evaluationCompletion, evaluationCompletes_of_some under, completes]
    refine ⟨fun discarded => ends (complete_of_passed discarded nofun),
      fun accepted => ends (complete_of_passed accepted nofun), fun reject => ⟨fun none_given => ?_,
      fun v given => ⟨fun late => ?_, fun ahead => ?_⟩⟩⟩
    · exact ends (complete_of_no_valve reject none_given)
    · exact ends (complete_of_late reject given late)
    · exact ends (complete_of_ahead reject given ahead)
  case source =>
    refine ⟨judge_of_not_owned, fun least greatest => ?_⟩
    have owned : c.owns o.centre = true := (owns_iff c o.centre).2 ⟨least, greatest⟩
    refine ⟨fun d decided => judge_of_flag owned decided, fun undecided =>
      ⟨fun n r entry matched first => ?_, fun none_matches => ?_⟩⟩
    · rw [judge_of_rules owned undecided, applyRules_of_first _ 0 entry matched first, Nat.zero_add]
    · rw [judge_of_rules owned undecided, applyRules_of_none _ 0 none_matches]
  case flags => exact flagPolicies_eq c f
  case valves =>
    refine ⟨?_, fun low high => ?_⟩
    · simp only [valveRange_eq_none_iff, List.eq_nil_iff_forall_not_mem, mem_valvesOver inside]
    · simp only [valveRange_eq_some_iff, List.min?_eq_some_iff, List.max?_eq_some_iff, mem_valvesOver inside]
      constructor
      · rintro ⟨⟨low_given, least⟩, high_given, greatest⟩
        exact ⟨low_given, high_given, fun v given => ⟨least v given, greatest v given⟩⟩
      · rintro ⟨low_given, high_given, between⟩
        exact ⟨⟨low_given, fun v given => (between v given).1⟩, high_given, fun v given => (between v given).2⟩

end Sys2Proof.Machine
end

section
/-! What the hand-over of the valves' counts leaves (R114), what a raise of them makes of each valve (R103), and the
TRIPPED and DISABLED valves it counts (R126). -/

namespace Sys2Proof.Machine

variable {s : State}

/-! ## The valves' counts at the end of an event -/

/-- The hand-over leaves the reference count of every valve (R114). -/
theorem handOver_keeps_refCount (before s : State) (k : Nat) :
    ((handOver before s).valve k).refCount = (s.valve k).refCount := by
  obtain ⟨_, _, _, _, valve⟩ := onTests_prefix
    (fun i => decide (before.bpu.beltState ≠ s.bpu.beltState)
      || decide ((before.valve i).refCount ≠ (s.valve i).refCount)) s 64
  unfold handOver onTests
  rw [valve k]
  split
  · exact onTest_refCount k s
  · rfl

/-- The hand-over counts deferrals and nothing else (R125). -/
theorem handOver_counter {c : Counter} (other : c ≠ .valveDelays) (before s : State) :
    (handOver before s).counter c = s.counter c := by
  have one (i : Nat) (t : State) : (onTest i t).counter c = t.counter c := by
    simp only [onTest, setImageDue, State.setValve]
    repeat' split
    all_goals simp [bump_counter_of_ne other.symm]
  refine foldl_keeps _ (fun t : State => t.counter c) (fun t i => ?_) _ s
  split
  · exact one i t
  · rfl

/-! ## Raises (R103, R126) -/

/-- The elements of a slice that satisfy `p`, counted by their places in the list. -/
theorem countP_slice {α : Type} (p : α → Bool) (d : α) (l : List α) (first n : Nat) :
    ((l.drop first).take n).countP p
      = (List.range l.length).countP
          (fun k => decide (first ≤ k ∧ k < first + n) && p (l.getD k d)) := by
  induction l generalizing first n with
  | nil => simp
  | cons x xs ih =>
    rw [List.length_cons, List.range_succ_eq_map, List.countP_cons, List.countP_map]
    cases first with
    | succ first =>
      rw [List.drop_succ_cons, ih]
      simp [Function.comp_def, Nat.succ_add]
    | zero =>
      cases n with
      | zero => simp
      | succ n =>
        have rest := ih 0 n
        rw [List.drop_zero] at rest
        rw [List.drop_zero, List.take_succ_cons, List.countP_cons, rest]
        simp [Function.comp_def]

theorem raiseCounts_vlc (first last : Nat) (s : State) :
    (raiseCounts first last s).vlc = { s.vlc with valves := (raiseCounts first last s).vlc.valves } := rfl

/-- A raise counts the TRIPPED and DISABLED valves it finds, and nothing else (R126). -/
theorem raiseCounts_counter {c : Counter} (other : c ≠ .valveSkipped) (first last : Nat) (s : State) :
    (raiseCounts first last s).counter c = s.counter c := by
  simp [raiseCounts, bumpBy_counter_of_ne other.symm]

theorem raiseCounts_skipped (first last : Nat) (length : s.rpu.counters.length = 54)
    (valves : s.vlc.valves.length = 64) :
    (raiseCounts first last s).counter .valveSkipped
      = s.counter .valveSkipped
        + BitVec.ofNat 32 ((List.range 64).countP
            (fun k => decide (first ≤ k ∧ k < first + (last + 1 - first)) && (s.valve k).blocked)) := by
  rw [raiseCounts, bumpBy_counter_self _ _ (by simp [length, Counter.index]),
    countP_slice Valve.blocked Valve.reset, valves]
  rfl

@[simp] theorem raiseCounts_lengths (first last : Nat) (s : State) :
    (raiseCounts first last s).vlc.valves.length = s.vlc.valves.length
      ∧ (raiseCounts first last s).rpu.counters.length = s.rpu.counters.length := by
  simp [raiseCounts, bumpBy]

/-- The counts raised of the valves from `first` on that lie below `stop`, of which there may be none. -/
def raiseSpan (first stop : Nat) (s : State) : State :=
  if first < stop then raiseCounts first (stop - 1) s else s

section span

variable (first stop : Nat) (s : State)

@[simp] theorem raiseSpan_keeps :
    (raiseSpan first stop s).bpu = s.bpu ∧ (raiseSpan first stop s).ejs = s.ejs
      ∧ (raiseSpan first stop s).vlc.valves.length = s.vlc.valves.length
      ∧ (raiseSpan first stop s).rpu.counters.length = s.rpu.counters.length := by
  unfold raiseSpan
  split <;> simp

theorem raiseSpan_vlc :
    (raiseSpan first stop s).vlc = { s.vlc with valves := (raiseSpan first stop s).vlc.valves } := by
  unfold raiseSpan
  split
  · exact raiseCounts_vlc _ _ s
  · rfl

theorem raiseSpan_valve {k : Nat} (inside : k < s.vlc.valves.length) :
    (raiseSpan first stop s).valve k
      = { s.valve k with
          refCount := (s.valve k).refCount + (if first ≤ k ∧ k < stop then 1 else 0) } := by
  unfold raiseSpan
  split
  next some_raised =>
    rw [raiseCounts_valve _ _ s inside]
    by_cases gained : first ≤ k ∧ k < stop
    · rw [if_pos (by omega), if_pos gained]
    · rw [if_neg (by omega), if_neg gained]
      rfl
  next none_raised =>
    rw [if_neg (by omega)]
    rfl

theorem raiseSpan_counter {c : Counter} (other : c ≠ .valveSkipped) :
    (raiseSpan first stop s).counter c = s.counter c := by
  unfold raiseSpan
  split
  · exact raiseCounts_counter other _ _ s
  · rfl

theorem raiseSpan_skipped (length : s.rpu.counters.length = 54) (valves : s.vlc.valves.length = 64) :
    (raiseSpan first stop s).counter .valveSkipped
      = s.counter .valveSkipped
        + BitVec.ofNat 32 ((List.range 64).countP
            (fun k => decide (first ≤ k ∧ k < stop) && (s.valve k).blocked)) := by
  unfold raiseSpan
  split
  next some_raised =>
    have stops : first + (stop - 1 + 1 - first) = stop := by omega
    rw [raiseCounts_skipped _ _ length valves, stops]
  next none_raised =>
    have nobody (k : Nat) : ¬ (first ≤ k ∧ k < stop) := by omega
    simp [nobody]

end span

/-- Two conditions of which no element meets both are counted together by the sum of their counts. -/
theorem countP_add_of_disjoint {α : Type} (p r : α → Bool) (l : List α)
    (apart : ∀ x ∈ l, ¬ (p x = true ∧ r x = true)) :
    l.countP p + l.countP r = l.countP (fun x => p x || r x) := by
  induction l with
  | nil => rfl
  | cons x xs ih =>
    obtain ⟨here, there⟩ := List.forall_mem_cons.1 apart
    simp only [List.countP_cons, ← ih there]
    have parts : (if (p x || r x) = true then 1 else 0)
        = (if p x = true then 1 else 0) + (if r x = true then 1 else 0) := by
      cases hp : p x with
      | false => simp
      | true => simp [show r x = false by simpa [hp] using here]
    rw [parts]
    omega

theorem blocked_eq (v : Valve) :
    v.blocked = (decide (v.state = .tripped) || decide (v.state = .disabled .soft)
      || decide (v.state = .disabled .coil)) := by
  unfold Valve.blocked
  split
  case h_2 cause state => cases cause <;> simp [state]
  all_goals simp [*]

end Sys2Proof.Machine
end

section
/-! The taking of an ejection request (R101, R104 ~ R111), step by step, and the statement about it. -/

namespace Sys2Proof.Machine

variable {s : State} {q : EjectionRequest}

/-! ## Placement and overlap (R101, R106) -/

/-- A record goes after every record of no greater open distance, and before the first of a greater one. -/
theorem placeRecord_splits (travel : Position) (r : EjectionRecord) (l : List EjectionRecord) :
    ∃ before after, l = before ++ after ∧ placeRecord travel r l = before ++ r :: after
      ∧ (∀ x ∈ before, x.openDistance travel ≤ r.openDistance travel)
      ∧ ∀ x ∈ after.head?, r.openDistance travel < x.openDistance travel := by
  induction l with
  | nil => exact ⟨[], [], rfl, rfl, nofun, nofun⟩
  | cons x xs ih =>
    unfold placeRecord
    split
    next no_greater =>
      obtain ⟨before, after, split, placed, first, later⟩ := ih
      exact ⟨x :: before, after, by rw [split]; rfl, by rw [placed]; rfl,
        List.forall_mem_cons.2 ⟨no_greater, first⟩, later⟩
    next greater =>
      refine ⟨[], x :: xs, rfl, rfl, nofun, fun y head => ?_⟩
      obtain rfl : x = y := by simpa using head
      exact Nat.not_le.1 greater

theorem overlaps_iff (travel : Position) (q : EjectionRequest) (r : EjectionRecord) :
    overlaps travel q r = true ↔
      (q.valveFirst ≤ r.valveLast ∧ r.valveFirst ≤ q.valveLast)
        ∧ (waitDistance q.openPos travel ≤ waitDistance r.closePos travel
          ∧ waitDistance r.openPos travel ≤ waitDistance q.closePos travel) := by
  simp only [overlaps, Bool.and_eq_true, decide_eq_true_eq, and_assoc]
  rfl

/-- No record of either list overlaps the request (R106). -/
def State.noOverlap (s : State) (q : EjectionRequest) : Prop :=
  s.ejs.ael.any (overlapsSlot s.bpu.travel q) = false ∧ s.ejs.eq.any (overlaps s.bpu.travel q) = false

/-! ## The steps of a request (R105) -/

/-- A request that moves neither the belt nor a valve hands nothing over (R104, R114). -/
theorem requestEvent_of_same {t : State} (taken : takeRequest q s = t) (bpu : t.bpu = s.bpu)
    (vlc : t.vlc = s.vlc) : requestEvent q s = t := by
  rw [requestEvent, taken, handOver_of_same (by rw [bpu]) vlc]

theorem takeRequest_of_closed (closed : reached q.closePos s.bpu.travel = true) :
    takeRequest q s = bump .ejectionsMissedLate s := if_pos closed

section ahead

variable (ahead : reached q.closePos s.bpu.travel = false)

include ahead

/-- Under REFUSE an overlap refuses (R109). -/
theorem takeRequest_of_refused (policy : s.cmu.config.overlapPolicy = .refuse)
    (overlap : ¬ s.noOverlap q) : takeRequest q s = bump .ejectionsRefusedOverlap s := by
  have found : (s.ejs.ael.any (overlapsSlot s.bpu.travel q)
      || s.ejs.eq.any (overlaps s.bpu.travel q)) = true := by
    rwa [State.noOverlap, ← Bool.or_eq_false_iff, Bool.not_eq_false] at overlap
  simp only [takeRequest, ahead, Bool.false_eq_true, if_false, policy, takeRefuse, found, if_true]

/-- Under SEPARATE, or with no overlap, the request becomes a record (R105). -/
theorem takeRequest_of_free (free : s.cmu.config.overlapPolicy = .separate ∨ s.noOverlap q) :
    takeRequest q s = makeRecord q s := by
  unfold takeRequest
  rw [if_neg (by simp [ahead])]
  split
  next merge =>
    obtain ⟨ael, eq⟩ := free.resolve_left (by simp [merge])
    have no_slot : s.ejs.ael.findIdx? (overlapsSlot s.bpu.travel q) = none := by
      simpa using ael
    have no_record : s.ejs.eq.findIdx? (overlaps s.bpu.travel q) = none := by
      simpa using eq
    simp only [takeMerge, no_slot, no_record]
  next refuse =>
    obtain ⟨ael, eq⟩ := free.resolve_left (by simp [refuse])
    simp only [takeRefuse, ael, eq, Bool.or_self, Bool.false_eq_true, if_false]
  next => rfl

/-- Under MERGE the first overlapping slot of the Active Ejection List takes the request in (R106, R108). -/
theorem takeRequest_of_merge_active {i : Nat} {r : EjectionRecord}
    (policy : s.cmu.config.overlapPolicy = .merge)
    (found : s.ejs.ael.findIdx? (overlapsSlot s.bpu.travel q) = some i)
    (held : s.ejs.ael[i]? = some (some r)) : takeRequest q s = mergeActive i q r s := by
  simp [takeRequest, ahead, policy, takeMerge, found, held]

/-- Under MERGE, with no such slot, the first overlapping record of the Ejection Queue does (R106, R107). -/
theorem takeRequest_of_merge_queued {k : Nat} {r : EjectionRecord}
    (policy : s.cmu.config.overlapPolicy = .merge)
    (no_slot : s.ejs.ael.findIdx? (overlapsSlot s.bpu.travel q) = none)
    (found : s.ejs.eq.findIdx? (overlaps s.bpu.travel q) = some k)
    (held : s.ejs.eq[k]? = some r) : takeRequest q s = mergeQueued k q r s := by
  simp [takeRequest, ahead, policy, takeMerge, no_slot, found, held]

end ahead

/-! ## A new record (R110, R111) -/

theorem makeRecord_of_placed (ahead : reached q.openPos s.bpu.travel = false)
    (room : s.ejs.eq.length < 64) :
    makeRecord q s
      = s.setEjs { s.ejs with eq := placeRecord s.bpu.travel (q.record false) s.ejs.eq } := by
  simp [makeRecord, ahead, makeQueued, room]

theorem makeRecord_of_full (ahead : reached q.openPos s.bpu.travel = false)
    (full : 64 ≤ s.ejs.eq.length) : makeRecord q s = bump .ejectionsRefusedFull s := by
  simp [makeRecord, ahead, makeQueued, Nat.not_lt.2 full]

theorem makeRecord_of_activated {i : Nat} (late : reached q.openPos s.bpu.travel = true)
    (free : freeIndex s.ejs.ael = some i) :
    makeRecord q s
      = bump .ejectionsLate (bump .ejectionsFired
          (raiseCounts q.valveFirst q.valveLast
            (s.setEjs { s.ejs with ael := s.ejs.ael.set i (some (q.record true)) }))) := by
  simp only [makeRecord, late, if_true, makeLate, free]
  rfl

theorem makeRecord_of_late_placed (late : reached q.openPos s.bpu.travel = true)
    (none_free : freeIndex s.ejs.ael = none) (room : s.ejs.eq.length < 64) :
    makeRecord q s
      = s.setEjs { s.ejs with eq := placeRecord s.bpu.travel (q.record true) s.ejs.eq } := by
  simp [makeRecord, late, makeLate, none_free, room]

theorem makeRecord_of_late_full (late : reached q.openPos s.bpu.travel = true)
    (none_free : freeIndex s.ejs.ael = none) (full : 64 ≤ s.ejs.eq.length) :
    makeRecord q s = bump .ejectionsRefusedFull s := by
  simp [makeRecord, late, makeLate, none_free, Nat.not_lt.2 full]

/-! ## A request folded into an active record (R108) -/

/-- What every folding makes of a record (R107, R108). -/
theorem foldInto_eq (travel : Position) (q : EjectionRequest) (r : EjectionRecord) :
    foldInto travel q r
      = { r with
          closePos :=
            if waitDistance r.closePos travel < waitDistance q.closePos travel then q.closePos
            else r.closePos
          valveFirst := min r.valveFirst q.valveFirst
          valveLast := max r.valveLast q.valveLast
          mergedCount := min 255 (r.mergedCount + 1)
          merged := true
          blind := r.blind || decide (q.source = .blind) } := by
  have blind : q.source.isBlind = decide (q.source = .blind) := by
    cases q.source <;> rfl
  rw [← blind]
  rfl

/-- The fold of a request into slot `i`, before its raises. -/
def foldActive (i : Nat) (q : EjectionRequest) (r : EjectionRecord) (s : State) : State :=
  bump .ejectionsMerged
    (s.setEjs { s.ejs with ael := s.ejs.ael.set i (some (foldInto s.bpu.travel q r)) })

theorem mergeActive_eq (i : Nat) (q : EjectionRequest) (r : EjectionRecord) (s : State) :
    mergeActive i q r s
      = raiseSpan (r.valveLast + 1) (max r.valveLast q.valveLast + 1)
          (raiseSpan (min r.valveFirst q.valveFirst) r.valveFirst (foldActive i q r s)) := by
  unfold raiseSpan
  simp only [Nat.add_lt_add_iff_right, Nat.add_sub_cancel]
  rfl

@[simp] theorem foldActive_keeps (i : Nat) (q : EjectionRequest) (r : EjectionRecord) (s : State) :
    (foldActive i q r s).bpu = s.bpu ∧ (foldActive i q r s).vlc = s.vlc
      ∧ (foldActive i q r s).ejs
          = { s.ejs with ael := s.ejs.ael.set i (some (foldInto s.bpu.travel q r)) }
      ∧ (foldActive i q r s).rpu.counters.length = s.rpu.counters.length := by
  simp [foldActive, bump, bumpBy]

/-- A valve that lies in the union of the ranges and not in the record's own (R108). -/
def gains (q : EjectionRequest) (r : EjectionRecord) (k : Nat) : Bool :=
  decide (min r.valveFirst q.valveFirst ≤ k ∧ k < r.valveFirst)
    || decide (r.valveLast + 1 ≤ k ∧ k < max r.valveLast q.valveLast + 1)

theorem gains_iff (q : EjectionRequest) (r : EjectionRecord) (k : Nat) :
    gains q r k = true ↔
      (min r.valveFirst q.valveFirst ≤ k ∧ k < r.valveFirst)
        ∨ (r.valveLast < k ∧ k ≤ max r.valveLast q.valveLast) := by
  simp [gains]

section active

variable (i : Nat) (q : EjectionRequest) (r : EjectionRecord) (s : State)

theorem mergeActive_ejs :
    (mergeActive i q r s).ejs
      = { s.ejs with ael := s.ejs.ael.set i (some (foldInto s.bpu.travel q r)) } := by
  simp [mergeActive_eq]

theorem mergeActive_vlc :
    (mergeActive i q r s).vlc = { s.vlc with valves := (mergeActive i q r s).vlc.valves } := by
  rw [mergeActive_eq, raiseSpan_vlc, raiseSpan_vlc]
  simp only [foldActive_keeps]

/-- The counts of the valves the record gains are raised by 1, and no other valve is touched (R108, R126). -/
theorem mergeActive_valve (ordered : r.valveFirst ≤ r.valveLast) {k : Nat}
    (inside : k < s.vlc.valves.length) :
    (mergeActive i q r s).valve k
      = { s.valve k with refCount := (s.valve k).refCount + (if gains q r k then 1 else 0) } := by
  have before : (foldActive i q r s).valve k = s.valve k := by simp [State.valve]
  have raises : (if min r.valveFirst q.valveFirst ≤ k ∧ k < r.valveFirst then 1 else 0)
      + (if r.valveLast + 1 ≤ k ∧ k < max r.valveLast q.valveLast + 1 then 1 else 0)
      = if gains q r k then 1 else 0 := by
    by_cases low : min r.valveFirst q.valveFirst ≤ k ∧ k < r.valveFirst
    · rw [if_neg (by omega : ¬ (r.valveLast + 1 ≤ k ∧ _))]
      simp [gains, low]
    · simp only [gains, low, decide_false, Bool.false_or, decide_eq_true_eq, if_false, Nat.zero_add]
  rw [mergeActive_eq, raiseSpan_valve _ _ _ (by simpa using inside),
    raiseSpan_valve _ _ _ (by simpa using inside), before, ← raises, ← Nat.add_assoc]

theorem mergeActive_merged (length : s.rpu.counters.length = 54) :
    (mergeActive i q r s).counter .ejectionsMerged = s.counter .ejectionsMerged + 1 := by
  rw [mergeActive_eq, raiseSpan_counter _ _ _ (by decide), raiseSpan_counter _ _ _ (by decide),
    foldActive, bump_counter_self _ (by simp [length, Counter.index])]
  simp

/-- Each raise of a TRIPPED or DISABLED valve is counted (R126). -/
theorem mergeActive_skipped (ordered : r.valveFirst ≤ r.valveLast) (length : s.rpu.counters.length = 54)
    (valves : s.vlc.valves.length = 64) :
    (mergeActive i q r s).counter .valveSkipped
      = s.counter .valveSkipped
        + BitVec.ofNat 32 ((List.range 64).countP (fun k => gains q r k && (s.valve k).blocked)) := by
  have first : (foldActive i q r s).counter .valveSkipped = s.counter .valveSkipped := by
    simp [foldActive]
  have valve (k : Nat) : (foldActive i q r s).valve k = s.valve k := by simp [State.valve]
  have second : (List.range 64).countP (fun k =>
        decide (r.valveLast + 1 ≤ k ∧ k < max r.valveLast q.valveLast + 1)
          && ((raiseSpan (min r.valveFirst q.valveFirst) r.valveFirst (foldActive i q r s)).valve k).blocked)
      = (List.range 64).countP (fun k =>
        decide (r.valveLast + 1 ≤ k ∧ k < max r.valveLast q.valveLast + 1) && (s.valve k).blocked) :=
    List.countP_congr fun k within => by
      rw [raiseSpan_valve _ _ _ (by simpa [valves] using within), valve]
      rfl
  have both : (List.range 64).countP (fun k =>
        decide (min r.valveFirst q.valveFirst ≤ k ∧ k < r.valveFirst) && (s.valve k).blocked)
      + (List.range 64).countP (fun k =>
        decide (r.valveLast + 1 ≤ k ∧ k < max r.valveLast q.valveLast + 1) && (s.valve k).blocked)
      = (List.range 64).countP (fun k => gains q r k && (s.valve k).blocked) := by
    rw [countP_add_of_disjoint]
    · simp only [gains, Bool.and_or_distrib_right]
    · simp only [Bool.and_eq_true, decide_eq_true_eq]
      omega
  rw [mergeActive_eq, raiseSpan_skipped _ _ _ (by simpa using length) (by simpa using valves),
    raiseSpan_skipped _ _ _ (by simpa using length) (by simpa using valves), first, BitVec.add_assoc,
    ← BitVec.ofNat_add, ← both, second]
  simp only [valve]

end active

/-! ## A request folded into a queued record (R107) -/

/-- A request that opens no earlier leaves the record in its place. -/
theorem mergeQueued_of_later {k : Nat} {r : EjectionRecord}
    (later : waitDistance r.openPos s.bpu.travel ≤ waitDistance q.openPos s.bpu.travel) :
    mergeQueued k q r s
      = bump .ejectionsMerged
          (s.setEjs { s.ejs with eq := s.ejs.eq.set k (foldInto s.bpu.travel q r) }) :=
  if_neg (Nat.not_lt.2 later)

/-- A request that opens earlier, and is not reached, has the record placed again. -/
theorem mergeQueued_of_earlier {k : Nat} {r : EjectionRecord}
    (earlier : waitDistance q.openPos s.bpu.travel < waitDistance r.openPos s.bpu.travel)
    (ahead : reached q.openPos s.bpu.travel = false) :
    mergeQueued k q r s
      = bump .ejectionsMerged
          (s.setEjs
            { s.ejs with
              eq := placeRecord s.bpu.travel { foldInto s.bpu.travel q r with openPos := q.openPos }
                (s.ejs.eq.eraseIdx k) }) := by
  simp only [mergeQueued, if_pos (show _ < r.openDistance s.bpu.travel from earlier), ahead, Bool.or_false,
    Bool.false_eq_true, if_false]
  rfl

/-- A request whose opening is reached makes the record LATE, and the head is tested. -/
theorem mergeQueued_of_reached {k : Nat} {r : EjectionRecord}
    (earlier : waitDistance q.openPos s.bpu.travel < waitDistance r.openPos s.bpu.travel)
    (late : reached q.openPos s.bpu.travel = true) :
    mergeQueued k q r s
      = testHead (bump .ejectionsMerged
          (s.setEjs
            { s.ejs with
              eq := placeRecord s.bpu.travel
                { foldInto s.bpu.travel q r with openPos := q.openPos, late := true }
                (s.ejs.eq.eraseIdx k) })) := by
  simp only [mergeQueued, if_pos (show _ < r.openDistance s.bpu.travel from earlier), late, Bool.or_true,
    if_true]
  rfl

/-! ## The statement -/

theorem exec_ejectionRequest (src : Requester) (s : State) :
    exec (.ejectionRequest src) s = .next (finish (takeFrom src s)) := rfl

/-- Settles O51: a request is missed, refused, made a record or taken in by one, each case by the lemma of its
step; where a record takes it in, the raises of the gained valves are read off one by one. -/
theorem ejectionRequestsAreTaken : Obligations.EjectionRequestsAreTaken := by
  unfold Obligations.EjectionRequestsAreTaken
  refine ⟨fun s => ⟨fun none_stands => ?vdu_none, fun none_stands => ?oas_none, fun q rest stands => ?vdu,
    fun q rest stands => ?oas, fun q => ?steps, placeRecord_splits⟩, overlaps_iff,
    fun q s ahead policy => ⟨fun i r found held ordered => ?active, fun k r no_slot found held => ?queued⟩⟩
  case vdu_none => simp only [exec_ejectionRequest, takeFrom, none_stands]
  case oas_none => simp only [exec_ejectionRequest, takeFrom, none_stands]
  case vdu => simp only [exec_ejectionRequest, takeFrom, stands]
  case oas => simp only [exec_ejectionRequest, takeFrom, stands]
  case steps =>
    refine ⟨fun closed => requestEvent_of_same (takeRequest_of_closed closed) (by simp) (by simp),
      fun ahead policy overlap =>
        requestEvent_of_same (takeRequest_of_refused ahead policy overlap) (by simp) (by simp),
      fun ahead free => ?_⟩
    have made {t : State} (record : makeRecord q s = t) : takeRequest q s = t :=
      (takeRequest_of_free ahead free).trans record
    refine ⟨fun opens room => ?_, fun opens full => ?_, fun i late slot => ?_, fun late none_free room => ?_,
      fun late none_free full => ?_⟩
    · exact requestEvent_of_same (made (makeRecord_of_placed opens room)) rfl rfl
    · exact requestEvent_of_same (made (makeRecord_of_full opens full)) rfl rfl
    · rw [requestEvent, made (makeRecord_of_activated late slot)]
    · exact requestEvent_of_same (made (makeRecord_of_late_placed late none_free room)) rfl rfl
    · exact requestEvent_of_same (made (makeRecord_of_late_full late none_free full)) rfl rfl
  case active =>
    have taken := takeRequest_of_merge_active ahead policy found held
    refine ⟨_, mergeActive i q r s, rfl, by rw [requestEvent, taken], ?_, fun k inside => ?_, by simp,
      mergeActive_vlc i q r s, fun length valves => ?_⟩
    · simp [requestEvent, taken, mergeActive_ejs, foldInto_eq]
    · rw [requestEvent, taken, handOver_keeps_refCount, mergeActive_valve i q r s ordered inside]
      simp only [gains_iff, and_self]
    · have raised (k : Nat) (within : k ∈ List.range 64) :
          decide ((s.valve k).refCount < ((mergeActive i q r s).valve k).refCount) = gains q r k := by
        rw [mergeActive_valve i q r s ordered (by simpa [valves] using within)]
        cases gains q r k <;> simp
      rw [requestEvent, taken, handOver_counter (by decide), handOver_counter (by decide),
        mergeActive_merged i q r s length, mergeActive_skipped i q r s ordered length valves]
      refine ⟨rfl, ?_⟩
      rw [List.countP_congr fun k within => by rw [← raised k within, blocked_eq]]
  case queued =>
    have taken := takeRequest_of_merge_queued ahead policy no_slot found held
    refine ⟨fun later => ?_, fun earlier opens => ?_, fun earlier late => ?_⟩
    · exact requestEvent_of_same (by rw [taken, mergeQueued_of_later later, foldInto_eq]) rfl rfl
    · exact requestEvent_of_same (by rw [taken, mergeQueued_of_earlier earlier opens, foldInto_eq]) rfl rfl
    · rw [requestEvent, taken, mergeQueued_of_reached earlier late, foldInto_eq]

end Sys2Proof.Machine
end

section
/-! The counters over a line trigger in LOCKED (R13, R22, R27 ~ R29): how many there are, which for an operation
`f` the lemma `f_countersLength` says, and which of them a trigger can advance. -/

namespace Sys2Proof.Machine

variable {s : State} {c : Counter}

/-! ## The number of counters (R196) -/

@[simp] theorem bumpBy_countersLength (c : Counter) (n : Nat) (s : State) :
    (bumpBy c n s).rpu.counters.length = s.rpu.counters.length := by
  simp [bumpBy]

@[simp] theorem bump_countersLength (c : Counter) (s : State) :
    (bump c s).rpu.counters.length = s.rpu.counters.length := bumpBy_countersLength c 1 s

@[simp] theorem joinRq_countersLength (x : Report) (s : State) :
    (joinRq x s).rpu.counters.length = s.rpu.counters.length := by
  simp only [joinRq, roKick, roChoose, roSendPass, roSendReport, roSend]
  repeat' split
  all_goals simp

@[simp] theorem notice_countersLength (n : Notice) (s : State) :
    (notice n s).rpu.counters.length = s.rpu.counters.length := by
  simp only [notice]
  repeat' split
  all_goals simp

@[simp] theorem endCommand_countersLength (status : Status) (detail : Nat) (data : List Byte) (s : State) :
    (endCommand status detail data s).rpu.counters.length = s.rpu.counters.length := by
  simp only [endCommand, respond, admitResponse]
  repeat' split
  all_goals simp

@[simp] theorem endCalibrate_countersLength (status : Status) (detail : Nat) (s : State) :
    (endCalibrate status detail s).rpu.counters.length = s.rpu.counters.length := by
  simp [endCalibrate]

@[simp] theorem skipLines_countersLength (n : Nat) (s : State) :
    (skipLines n s).rpu.counters.length = s.rpu.counters.length := by
  induction n generalizing s with
  | zero => rfl
  | succ n ih =>
    rw [skipLines, ih]
    simp only [skipLine]
    repeat' split
    all_goals simp

@[simp] theorem captureSlot_countersLength (x : RingSlot) (s : State) :
    (captureSlot x s).rpu.counters.length = s.rpu.counters.length := by
  have skip (t : State) : (skipLine t).rpu.counters.length = t.rpu.counters.length :=
    skipLines_countersLength 1 t
  have done (t : State) : (calibrateIfDone t).rpu.counters.length = t.rpu.counters.length := by
    simp only [calibrateIfDone, completeCalibrate]
    repeat' split
    all_goals simp
  simp only [captureSlot, captureOwn]
  repeat' split
  all_goals simp [skip, done]

@[simp] theorem lineBoundary_countersLength (s : State) :
    (lineBoundary s).rpu.counters.length = s.rpu.counters.length := by
  have quietly (t : State) : (swapAtQuietPoint t).rpu.counters.length = t.rpu.counters.length := by
    simp only [swapAtQuietPoint, swapQuietly, exchangeBanks]
    split <;> simp
  have deadline (t : State) : (swapAtDeadline t).rpu.counters.length = t.rpu.counters.length := by
    simp only [swapAtDeadline, swapForced, exchangeBanks, markMixed]
    repeat' split
    all_goals simp
  simp [lineBoundary, deadline, quietly]

@[simp] theorem applyLostLine_countersLength (s : State) :
    (applyLostLine s).rpu.counters.length = s.rpu.counters.length := by
  simp only [applyLostLine, emptyPlr]
  split <;> simp

@[simp] theorem applyLostLines_countersLength (n : Nat) (s : State) :
    (applyLostLines n s).rpu.counters.length = s.rpu.counters.length := by
  induction n generalizing s with
  | zero => rfl
  | succ n ih => rw [applyLostLines, ih, applyLostLine_countersLength]

@[simp] theorem deliver_countersLength (s : State) :
    (deliver s).rpu.counters.length = s.rpu.counters.length := by
  have one (t : State) : (deliverOne t).rpu.counters.length = t.rpu.counters.length := by
    simp only [deliverOne, deliverSlot, takeSlot, takeRow, countClassified]
    repeat' split
    all_goals simp
  have all (n : Nat) (t : State) : (deliverN n t).rpu.counters.length = t.rpu.counters.length := by
    induction n generalizing t with
    | zero => rfl
    | succ n ih => rw [deliverN, ih, one]
  exact all _ s

@[simp] theorem syncLoss_countersLength (s : State) :
    (syncLoss s).rpu.counters.length = s.rpu.counters.length := by
  simp only [syncLoss, lossEvent, enterHunt1, leaveLocked]
  repeat' split
  all_goals simp

@[simp] theorem settle_countersLength (x : RingSlot) (s : State) :
    (settle x s).rpu.counters.length = s.rpu.counters.length := by
  unfold settle
  split <;> simp

/-- Among the 54 counters each rises by 1 when it is counted. -/
theorem bump_counter_of_length (c : Counter) (length : s.rpu.counters.length = 54) :
    (bump c s).counter c = s.counter c + 1 :=
  bump_counter_self c (by rw [length]; cases c <;> decide)

/-! ## A trigger in LOCKED (R28) -/

/-- The counters that a line trigger in LOCKED can advance: those of its deliveries, of its settlements, of a line
without a slot, and its own (R13, R22, R27). -/
def triggerCounters : List Counter :=
  deliveryCounters ++ [.linesPartial, .linesLost, .lineOverruns, .lineTriggers]

/-- Of the counters `t` has as many as `s`, and moves none but those a trigger can advance. -/
structure State.CountsTrigger (s t : State) : Prop where
  length : t.rpu.counters.length = s.rpu.counters.length
  kept : ∀ c, c ∉ triggerCounters → t.counter c = s.counter c

theorem State.CountsTrigger.of_rpu {t : State} (same : t.rpu = s.rpu) : s.CountsTrigger t :=
  ⟨by rw [same], fun c _ => counter_congr (by rw [same]) c⟩

theorem State.CountsTrigger.trans {s t u : State} (first : s.CountsTrigger t) (second : t.CountsTrigger u) :
    s.CountsTrigger u :=
  ⟨second.length.trans first.length, fun c other => (second.kept c other).trans (first.kept c other)⟩

/-- An operation is judged by the Report Unit it starts from. -/
theorem State.CountsTrigger.of_start {t u : State} (h : t.CountsTrigger u) (same : t.rpu = s.rpu) :
    s.CountsTrigger u :=
  State.CountsTrigger.trans (.of_rpu same) h

theorem bump_countsTrigger (counted : c ∈ triggerCounters) (s : State) : s.CountsTrigger (bump c s) :=
  ⟨by simp, fun _ other => bump_counter_of_ne (fun same => other (by rwa [← same])) s⟩

theorem settle_counter (other : c ∉ triggerCounters) (x : RingSlot) (s : State) :
    (settle x s).counter c = s.counter c := by
  have ne {d : Counter} (hd : d ∈ triggerCounters) : d ≠ c := fun same => other (same ▸ hd)
  have delivered : c ∉ deliveryCounters := fun hc => other (List.mem_append_left _ hc)
  unfold settle
  split
  · rw [syncPartial_counter, bump_counter_of_ne (ne (by decide))]
    exact counter_congr (by simp) c
  · rw [syncLoss_counter delivered, bump_counter_of_ne (ne (by decide))]
    exact counter_congr (by simp) c

theorem settleDue_countsTrigger (s : State) : s.CountsTrigger (settleDue s) := by
  have oldest (t : State) : t.CountsTrigger (settleOldest t) := by
    unfold settleOldest
    split
    · refine ⟨by simp, fun c other => ?_⟩
      rw [deliver_counter fun delivered => other (List.mem_append_left _ delivered), settle_counter other]
    · exact .of_rpu rfl
  have all (n : Nat) (t : State) : t.CountsTrigger (settleN n t) := by
    induction n generalizing t with
    | zero => exact .of_rpu rfl
    | succ n ih => exact (oldest t).trans (ih (settleOldest t))
  exact (all _ _).of_start rfl

theorem allocate_countsTrigger (s : State) : s.CountsTrigger (allocate s) := by
  unfold allocate
  split
  · exact (bump_countsTrigger (by decide) (s.setLiu _)).of_start rfl
  · exact .of_rpu rfl

/-- A trigger at a LOCKED unit settles, and allocates if it is still active (R28). -/
theorem intakeTrigger_cases (locked : s.liu.sync = .locked) :
    intakeTrigger s = s ∨ intakeTrigger s = settleDue s ∨ intakeTrigger s = allocate (settleDue s) := by
  simp only [intakeTrigger, locked, if_true]
  repeat' split
  · exact .inr (.inr rfl)
  · exact .inr (.inl rfl)
  · exact .inl rfl

/-- The line trigger's test at a LOCKED unit moves no other counter. -/
theorem lineTriggerTest_countsTrigger (locked : s.liu.sync = .locked) :
    s.CountsTrigger (lineTriggerTest s) := by
  have belt : s.CountsTrigger (beltTrigger s) :=
    (bump_countsTrigger (by decide) (s.setBpu _)).of_start rfl
  have settled := belt.trans (settleDue_countsTrigger (beltTrigger s))
  unfold lineTriggerTest
  split
  · rcases intakeTrigger_cases (s := beltTrigger s) locked with inactive | stopped | allocated
    · rw [lineTrigger, inactive]
      exact belt
    · rw [lineTrigger, stopped]
      exact settled
    · rw [lineTrigger, allocated]
      exact settled.trans (allocate_countsTrigger _)
  · exact .of_rpu rfl

/-- Nor does it raise a fault cause (R34). -/
theorem lineTriggerTest_causes (locked : s.liu.sync = .locked) :
    (lineTriggerTest s).cmu.causes = s.cmu.causes := by
  unfold lineTriggerTest
  split
  · rcases intakeTrigger_cases (s := beltTrigger s) locked with inactive | stopped | allocated
    · simp [lineTrigger, inactive]
    · simp [lineTrigger, stopped]
    · simp [lineTrigger, allocated]
  · rfl

end Sys2Proof.Machine
end

section
/-! The compares of an advance: the activation test (R113, R115), the removals (R112), the advance they belong to
(R5), and the statement about it. -/

namespace Sys2Proof.Machine

variable {s : State}

/-! ## The activation test (R113, R115) -/

/-- A head whose open position is not reached ends the test, as an empty queue does. -/
theorem testHead_of_none_reached (ahead : ∀ r ∈ s.ejs.eq.head?, reached r.openPos s.bpu.travel = false) :
    testHead s = s := by
  rw [testHead_eq]
  cases queue : s.ejs.eq with
  | nil => rfl
  | cons r rest => simp [ahead r (by simp [queue])]

section head

variable {r : EjectionRecord} {rest : List EjectionRecord} (head : s.ejs.eq = r :: rest)
  (opened : reached r.openPos s.bpu.travel = true)

include head opened

/-- A head that is closed as it opens is dropped. -/
theorem testHead_of_missed (closed : reached r.closePos s.bpu.travel = true) :
    testHead s = testHead (bump .ejectionsMissedAelFull (s.setEjs { s.ejs with eq := rest })) := by
  rw [testHead_eq]
  simp only [head, opened, closed, if_true]

/-- A head that finds a free slot is activated. -/
theorem testHead_of_free {i : Nat} (ahead : reached r.closePos s.bpu.travel = false)
    (free : freeIndex s.ejs.ael = some i) :
    testHead s = testHead (activate i r (s.setEjs { s.ejs with eq := rest })) := by
  rw [testHead_eq]
  simp only [head, opened, ahead, if_true, Bool.false_eq_true, if_false, free]

/-- A head that finds none waits. -/
theorem testHead_of_full (ahead : reached r.closePos s.bpu.travel = false)
    (none_free : freeIndex s.ejs.ael = none) : testHead s = countWait r rest s := by
  rw [testHead_eq]
  simp only [head, opened, ahead, if_true, Bool.false_eq_true, if_false, none_free]

end head

/-- A head that waits is marked, and counted the first time (R115). -/
theorem countWait_ejs {r : EjectionRecord} {rest : List EjectionRecord} (head : s.ejs.eq = r :: rest) :
    (countWait r rest s).ejs = { s.ejs with eq := { r with waited := true } :: rest } := by
  unfold countWait
  split
  next waited => rw [← waited, ← head]
  next => simp

theorem countWait_aelWaits (r : EjectionRecord) (rest : List EjectionRecord)
    (length : s.rpu.counters.length = 54) :
    (countWait r rest s).counter .aelWaits = s.counter .aelWaits + (if r.waited then 0 else 1) := by
  unfold countWait
  split
  · simp
  · exact bump_counter_of_length (s := s.setEjs _) .aelWaits length

/-- An activated record stands in its slot (R113). -/
@[simp] theorem activate_ejs (i : Nat) (r : EjectionRecord) (s : State) :
    (activate i r s).ejs = { s.ejs with ael := s.ejs.ael.set i (some r) } := by
  simp only [activate]
  split <;> simp

/-- An activation raises the counts of the record's valves (R113, R126). -/
theorem activate_refCount (i : Nat) (r : EjectionRecord) {k : Nat} (inside : k < s.vlc.valves.length) :
    ((activate i r s).valve k).refCount
      = (s.valve k).refCount + (if r.valveFirst ≤ k ∧ k ≤ r.valveLast then 1 else 0) := by
  have raised : (activate i r s).valve k = (raiseCounts r.valveFirst r.valveLast (s.setEjs
      { s.ejs with ael := s.ejs.ael.set i (some r) })).valve k := by
    simp only [activate]
    split <;> rfl
  rw [raised, raiseCounts_valve _ _ _ (by simpa using inside)]
  split <;> rfl

/-- An activation is counted, and again if the record carries LATE. -/
theorem activate_counts (i : Nat) (r : EjectionRecord) (length : s.rpu.counters.length = 54) :
    (activate i r s).counter .ejectionsFired = s.counter .ejectionsFired + 1
      ∧ (activate i r s).counter .ejectionsLate = s.counter .ejectionsLate + (if r.late then 1 else 0) := by
  unfold activate
  generalize raises : raiseCounts r.valveFirst r.valveLast
    (s.setEjs { s.ejs with ael := s.ejs.ael.set i (some r) }) = u
  have many : u.rpu.counters.length = 54 := by rw [← raises]; simpa using length
  have raised {c : Counter} (other : c ≠ .valveSkipped) : u.counter c = s.counter c := by
    rw [← raises, raiseCounts_counter other]
    rfl
  rw [← raised (by decide), ← raised (by decide)]
  split
  · exact ⟨by rw [bump_counter_of_ne (by decide), bump_counter_of_length _ many],
      by rw [bump_counter_of_length _ (by simpa using many), bump_counter_of_ne (by decide)]⟩
  · exact ⟨bump_counter_of_length _ many, by simp⟩

/-! ## The removals (R112) -/

/-- A slot whose record's close position is reached. -/
def slotCloses (travel : Position) : Option EjectionRecord → Bool
  | some r => reached r.closePos travel
  | none => false

/-- What the removals leave in a slot. -/
def keptSlot (travel : Position) (x : Option EjectionRecord) : Option EjectionRecord :=
  if slotCloses travel x then none else x

/-- A slot whose record closes and covers valve `k`. -/
def slotReleases (travel : Position) (k : Nat) (x : Option EjectionRecord) : Bool :=
  match x with
  | some r => slotCloses travel x && decide (r.valveFirst ≤ k) && decide (k ≤ r.valveLast)
  | none => false

theorem lowerCounts_valve (first last : Nat) (s : State) {k : Nat} (inside : k < s.vlc.valves.length) :
    (lowerCounts first last s).valve k
      = if first ≤ k ∧ k ≤ last then { s.valve k with refCount := (s.valve k).refCount - 1 }
        else s.valve k := by
  show (mapFrom _ 0 s.vlc.valves).getD k Valve.reset = _
  rw [List.getD_eq_getElem?_getD, getElem?_mapFrom]
  simp [State.valve, inside]

section slot

variable {i : Nat} {x : Option EjectionRecord} (held : s.ejs.ael[i]? = some x)

include held

/-- A slot that does not close is left as it is. -/
theorem closeSlot_of_kept (kept : slotCloses s.bpu.travel x = false) : closeSlot i s = s := by
  cases x with
  | none => simp [closeSlot, held]
  | some r =>
    have ahead : reached r.closePos s.bpu.travel = false := kept
    simp [closeSlot, held, ahead]

/-- A slot that closes is freed, and the counts of its record's valves fall (R112). -/
theorem closeSlot_of_closing {r : EjectionRecord} (record : x = some r)
    (closes : slotCloses s.bpu.travel x = true) :
    closeSlot i s
      = lowerCounts r.valveFirst r.valveLast (s.setEjs { s.ejs with ael := s.ejs.ael.set i none }) := by
  subst record
  have closed : reached r.closePos s.bpu.travel = true := closes
  simp [closeSlot, held, closed]

theorem closeSlot_ejs :
    (closeSlot i s).ejs = { s.ejs with ael := s.ejs.ael.set i (keptSlot s.bpu.travel x) } := by
  cases closes : slotCloses s.bpu.travel x with
  | false =>
    obtain ⟨within, entry⟩ := List.getElem?_eq_some_iff.1 held
    rw [closeSlot_of_kept held closes, keptSlot, closes, if_neg Bool.false_ne_true, ← entry,
      List.set_getElem_self]
  | true =>
    obtain ⟨r, record⟩ : ∃ r, x = some r := Option.ne_none_iff_exists'.1 fun empty => by
      simp [empty, slotCloses] at closes
    rw [closeSlot_of_closing held record closes]
    simp [keptSlot, closes]

theorem closeSlot_refCount {k : Nat} (inside : k < s.vlc.valves.length) :
    ((closeSlot i s).valve k).refCount
      = (s.valve k).refCount - (if slotReleases s.bpu.travel k x then 1 else 0) := by
  cases x with
  | none => simp [closeSlot_of_kept held rfl, slotReleases]
  | some r =>
    cases closes : slotCloses s.bpu.travel (some r) with
    | false => simp [closeSlot_of_kept held closes, slotReleases, closes]
    | true =>
      rw [closeSlot_of_closing held rfl closes, lowerCounts_valve _ _ _ (by simpa using inside)]
      simp only [slotReleases, closes, Bool.true_and, Bool.and_eq_true, decide_eq_true_eq]
      split <;> rfl

end slot

@[simp] theorem closeSlot_valves_length (i : Nat) (s : State) :
    (closeSlot i s).vlc.valves.length = s.vlc.valves.length := by
  unfold closeSlot
  repeat' split
  all_goals simp [lowerCounts]

/-- The removals in the slots below `n`: each of them as kept, and each valve's count less by the records that
release it there. -/
theorem closeSlots_below (s : State) {n : Nat} (within : n ≤ s.ejs.ael.length) :
    let t := (List.range n).foldl (fun t i => closeSlot i t) s
    t.ejs = { s.ejs with
        ael := (s.ejs.ael.take n).map (keptSlot s.bpu.travel) ++ s.ejs.ael.drop n }
      ∧ t.bpu = s.bpu ∧ t.vlc.valves.length = s.vlc.valves.length
      ∧ ∀ k < s.vlc.valves.length, (t.valve k).refCount
          = (s.valve k).refCount - (s.ejs.ael.take n).countP (slotReleases s.bpu.travel k) := by
  induction n with
  | zero => simp
  | succ n ih =>
    have ih := ih (by omega)
    simp only [List.range_succ, List.foldl_append, List.foldl_cons, List.foldl_nil] at ih ⊢
    generalize (List.range n).foldl (fun t i => closeSlot i t) s = t at ih ⊢
    obtain ⟨ejs, bpu, valves, counts⟩ := ih
    have before : ((s.ejs.ael.take n).map (keptSlot s.bpu.travel)).length = n := by
      simp only [List.length_map, List.length_take]
      omega
    have rest := List.drop_eq_getElem_cons (l := s.ejs.ael) (i := n) within
    have held : t.ejs.ael[n]? = some s.ejs.ael[n] := by
      rw [ejs, List.getElem?_append_right before.le, before, rest]
      simp
    refine ⟨?_, by simp [bpu], by simp [valves], fun k inside => ?_⟩
    · have replaced : ((s.ejs.ael.take n).map (keptSlot s.bpu.travel) ++ s.ejs.ael.drop n).set n
            (keptSlot s.bpu.travel s.ejs.ael[n])
          = (s.ejs.ael.take (n + 1)).map (keptSlot s.bpu.travel) ++ s.ejs.ael.drop (n + 1) := by
        rw [List.take_succ_eq_append_getElem within, List.map_append, List.append_assoc, rest,
          List.set_append_right _ _ before.le, before, Nat.sub_self]
        rfl
      rw [closeSlot_ejs held, ejs, bpu, replaced]
    · rw [closeSlot_refCount held (by rw [valves]; exact inside), counts k inside, bpu,
        List.take_succ_eq_append_getElem within, List.countP_append, List.countP_singleton]
      omega

/-- The removals of an advance (R112). -/
theorem closeRecords_effect (slots : s.ejs.ael.length = 16) :
    (closeRecords s).ejs = { s.ejs with ael := s.ejs.ael.map (keptSlot s.bpu.travel) }
      ∧ (closeRecords s).vlc.valves.length = s.vlc.valves.length
      ∧ ∀ k < s.vlc.valves.length, ((closeRecords s).valve k).refCount
          = (s.valve k).refCount - s.ejs.ael.countP (slotReleases s.bpu.travel k) := by
  have all := closeSlots_below s slots.ge
  rw [← slots, List.take_length, List.drop_length, List.append_nil, slots] at all
  obtain ⟨ejs, _, valves, counts⟩ := all
  unfold closeRecords
  exact ⟨ejs, valves, counts⟩

/-! ## The end of the event -/

/-- With no cause standing the end of an event is the drain's running out or nothing (R172). -/
theorem finish_of_no_cause (none_stands : s.cmu.causes = []) : finish s = s ∨ finish s = runOut s := by
  unfold finish
  simp only [none_stands]
  repeat' split
  all_goals simp

/-- With no cause standing the end of an event, and the hand-over before it, leave the Ejection Scheduler, the
reference counts, and every counter but the deferrals and the notices dropped. -/
theorem finish_handOver_leaves (before : State) (none_stands : s.cmu.causes = []) :
    (finish (handOver before s)).ejs = s.ejs
      ∧ (∀ k, ((finish (handOver before s)).valve k).refCount = (s.valve k).refCount)
      ∧ ∀ c, c ∉ .valveDelays :: deliveryCounters →
          (finish (handOver before s)).counter c = s.counter c := by
  have counted {c : Counter} (other : c ∉ .valveDelays :: deliveryCounters) :=
    handOver_counter (fun same => other (same ▸ List.mem_cons_self)) before s
  rcases finish_of_no_cause (s := handOver before s) (by simpa using none_stands) with same | ran_out
  · rw [same]
    exact ⟨by simp, handOver_keeps_refCount before s, fun c other => counted other⟩
  · rw [ran_out]
    refine ⟨by simp, fun k => ?_, fun c other => ?_⟩
    · simpa [State.valve] using handOver_keeps_refCount before s k
    · rw [runOut, endCommand_counter fun delivered => other (List.mem_cons_of_mem _ delivered)]
      exact counted other

/-! ## The advance (R5, R112) -/

/-- `v`, in the middle of an advance from `s`: travel has risen, the reached records are removed, and what a line
trigger in LOCKED can do is done. No cause stands. -/
structure State.Closed (s v : State) : Prop where
  ejs : v.ejs = { s.ejs with ael := s.ejs.ael.map (keptSlot (s.bpu.travel + 1)) }
  travel : v.bpu.travel = s.bpu.travel + 1
  counts : ∀ k < 64, (v.valve k).refCount
    = (s.valve k).refCount - s.ejs.ael.countP (slotReleases (s.bpu.travel + 1) k)
  valves : v.vlc.valves.length = 64
  causes : v.cmu.causes = []
  counters : s.CountsTrigger v

/-- A forward edge without debt, with the index check not ARMED, is an advance (R5, R11). -/
theorem advance_of_disarmed (armed : s.bpu.armed = false) :
    advance s = testHead (closeRecords (lineTriggerTest (stepTravel s))) := by
  have checked : missingIndexTest (stepTravel s) = stepTravel s :=
    missingIndexTest_of_not_missing fun missing => by
      simp [State.indexMissing, stepTravel, armed] at missing
  rw [advance, checked, ejectionAdvance]

/-- Such an edge goes through the state in which the reached records are closed, and tests the head there. -/
theorem exec_edge_closes {acc : Accepted} (timed : s.bpu.timed acc)
    (forward : acc.pairAfter s.bpu = nextForward s.bpu.pair) (debt : s.bpu.debt = 0)
    (causes : s.cmu.causes = []) (armed : s.bpu.armed = false) (locked : s.liu.sync = .locked)
    (slots : s.ejs.ael.length = 16) (valves : s.vlc.valves.length = 64) :
    ∃ v, exec (.encoderEdgeAccepted acc) s = .next (finish (handOver s (testHead v))) ∧ s.Closed v := by
  have edge := acceptLevels_forward timed forward
  rw [forwardEdge_of_no_debt (by simpa using debt), advance_of_disarmed (by simpa using armed)] at edge
  generalize start : stepTravel (s.setBpu (s.bpu.withLevels acc)) = u at edge
  have travel : (lineTriggerTest u).bpu.travel = s.bpu.travel + 1 := by simp [← start, stepTravel]
  have ejs : (lineTriggerTest u).ejs = s.ejs := by simp [← start]
  have vlc : (lineTriggerTest u).vlc = s.vlc := by simp [← start]
  obtain ⟨closed, length, counts⟩ := closeRecords_effect (s := lineTriggerTest u) (by rw [ejs]; exact slots)
  rw [ejs, travel] at closed counts
  rw [vlc, valves] at counts length
  have sync : u.liu.sync = .locked := by simp [← start, locked]
  have still : (lineTriggerTest u).cmu.causes = [] := by
    rw [lineTriggerTest_causes sync, ← start]
    simpa using causes
  have trigger : s.CountsTrigger (lineTriggerTest u) :=
    (lineTriggerTest_countsTrigger sync).of_start (by simp [← start])
  refine ⟨_, by rw [exec_encoderEdgeAccepted, edge], closed, ?travel, fun k inside => ?counts, length,
    ?causes, trigger.trans (.of_rpu ?rpu)⟩
  case travel => simpa using travel
  case counts => rw [counts k inside, State.valve, State.valve, vlc]
  case causes => simpa using still
  case rpu => simp

/-! ## The statement -/

/-- Settles O52: the edge is taken to the state in which the reached records are closed; from there the activation
test goes head by head, and the hand-over and the end of the event leave what it made. -/
theorem advanceClosesAndActivates : Obligations.AdvanceClosesAndActivates := by
  unfold Obligations.AdvanceClosesAndActivates
  refine ⟨fun acc s timed forward debt rest armed locked slots valves => ?edge, fun s => ?test⟩
  case edge =>
    obtain ⟨none_stands, _⟩ := rest
    obtain ⟨v, edge, closed⟩ := exec_edge_closes timed forward debt none_stands armed locked slots valves
    have queue : v.ejs.eq = s.ejs.eq := by rw [closed.ejs]
    have travel := closed.travel
    have ends {w : State} (tested : testHead v = w) :
        ∃ t, exec (.encoderEdgeAccepted acc) s = .next t ∧ t.ejs = w.ejs
          ∧ (∀ k, (t.valve k).refCount = (w.valve k).refCount)
          ∧ ∀ c, c ∉ .valveDelays :: deliveryCounters → t.counter c = w.counter c :=
      ⟨_, tested ▸ edge, finish_handOver_leaves s (by simpa [← tested] using closed.causes)⟩
    refine ⟨⟨v, edge, closed.ejs, closed.travel, closed.counts⟩, fun ahead => ?ended,
      fun r rest i head opened ahead free next => ?fired, fun r rest head opened ahead full => ?waits,
      fun r rest head opened reached next => ?missed⟩
    case ended =>
      obtain ⟨t, made, ejs, counts, _⟩ := ends (testHead_of_none_reached (by rw [queue, travel]; exact ahead))
      exact ⟨t, made, ejs.trans closed.ejs, fun k inside => (counts k).trans (closed.counts k inside)⟩
    case fired =>
      have activated : testHead v = activate i r (v.setEjs { v.ejs with eq := rest }) :=
        (testHead_of_free (queue.trans head) (travel ▸ opened) (travel ▸ ahead)
          (by rw [closed.ejs]; exact free)).trans (testHead_of_none_reached (by simpa [travel] using next))
      obtain ⟨t, made, ejs, counts, counters⟩ := ends activated
      refine ⟨t, made, by rw [ejs, activate_ejs, State.setEjs_ejs, closed.ejs]; rfl, fun k inside => ?_,
        fun length => ?_⟩
      · rw [counts, activate_refCount i r (by simpa [closed.valves] using inside)]
        exact congrArg (· + _) (closed.counts k inside)
      · obtain ⟨fired, late⟩ := activate_counts (s := v.setEjs { v.ejs with eq := rest }) i r
          (closed.counters.length.trans length)
        rw [counters _ (by decide), counters _ (by decide), fired, late, ← closed.counters.kept _ (by decide),
          ← closed.counters.kept _ (by decide)]
        exact ⟨rfl, rfl⟩
    case waits =>
      obtain ⟨t, made, ejs, _, counters⟩ := ends (testHead_of_full (queue.trans head) (travel ▸ opened)
        (travel ▸ ahead) (by rw [closed.ejs]; exact full))
      refine ⟨t, made, by rw [ejs, countWait_ejs (queue.trans head), closed.ejs]; rfl, fun length => ?_⟩
      rw [counters _ (by decide), countWait_aelWaits r rest (closed.counters.length.trans length),
        closed.counters.kept _ (by decide)]
    case missed =>
      have dropped : testHead v = bump .ejectionsMissedAelFull (v.setEjs { v.ejs with eq := rest }) :=
        (testHead_of_missed (queue.trans head) (travel ▸ opened) (travel ▸ reached)).trans
          (testHead_of_none_reached (by simpa [travel] using next))
      obtain ⟨t, made, ejs, counts, counters⟩ := ends dropped
      have counted := bump_counter_of_length (s := v.setEjs { v.ejs with eq := rest }) .ejectionsMissedAelFull
      refine ⟨t, made, by simp only [ejs, bump_keeps, State.setEjs_ejs, closed.ejs]; rfl,
        fun k inside => (counts k).trans (closed.counts k inside), fun length => ?_⟩
      rw [counters _ (by decide), counters _ (by decide), counted (closed.counters.length.trans length),
        bump_counter_of_ne (by decide), ← closed.counters.kept _ (by decide),
        ← closed.counters.kept .ejectionsFired (by decide)]
      exact ⟨rfl, rfl⟩
  case test =>
    exact ⟨fun empty => testHead_of_none_reached (by simp [empty]),
      fun r rest head ahead => testHead_of_none_reached (by simpa [head] using ahead),
      fun r rest head opened => ⟨testHead_of_missed head opened, fun i => testHead_of_free head opened,
        testHead_of_full head opened⟩⟩

end Sys2Proof.Machine
end

section
/-! What a step keeps of the executing command's law, the valves' laws and the banks' law: one relation between
the state before a step and each state on the way. For an operation `f` the lemma `f_laws` says that `f` carries
it on. An operation that the laws do not read is carried over by `KeepsLaws.same`. -/

namespace Sys2Proof.Machine

/-! ## What an executing command works on (R165, R171) -/

/-- The state that stands only while a sequenced command of the kind executes: a running test, a copy, a
pending swap, a capture, the drain. -/
def State.works (s : State) : Command → Bool
  | .valveTest => s.vlc.test.isSome
  | .bankCopy => s.tbs.copy.isSome
  | .bankSwap => s.tbs.swap.isSome
  | .calibrate => s.capture.isSome
  | .stop => decide (s.cmu.engine = .draining)
  | _ => false

/-- The kind of the executing command, if there is one. -/
def State.executed (s : State) : Option Command := s.cmu.executing.map Executing.command

variable {s t u : State} {i : Nat} {c : Command}

theorem executes_iff (s : State) (c : Command) : s.executes c = true ↔ s.executed = some c := by
  unfold State.executes State.executed
  cases s.cmu.executing <;> simp

/-- The executing command's law: what stands for a command belongs to the one that executes. -/
theorem executingLaw_iff (s : State) :
    s.executingLaw ↔ ∀ c, s.works c = true → s.executed = some c := by
  simp only [State.executingLaw, executes_iff]
  constructor
  · rintro ⟨test, copy, swap, capture, drain⟩ c works
    cases c <;> simp only [State.works, decide_eq_true_eq, Bool.false_eq_true] at works
    all_goals simp_all
  · intro law
    exact ⟨law .valveTest, law .bankCopy, law .bankSwap, law .calibrate,
      fun drains => law .stop (by simpa [State.works] using drains)⟩

/-- With no command executing, nothing stands for one. -/
theorem State.executingLaw.none_works (law : s.executingLaw) (idle : s.cmu.executing = none) (c : Command) :
    s.works c = false := by
  by_contra works
  have executed := (executingLaw_iff s).1 law c (by simpa using works)
  simp [State.executed, idle] at executed

/-- The same command executes and no more stands for one than before. -/
theorem executingLaw_of_fewer (law : s.executingLaw) (executing : t.cmu.executing = s.cmu.executing)
    (fewer : ∀ c, t.works c = true → s.works c = true) : t.executingLaw := by
  rw [executingLaw_iff] at law ⊢
  intro c works
  rw [State.executed, executing]
  exact law c (fewer c works)

/-- A command begins where none executes, and only what belongs to it comes to stand. -/
theorem executingLaw_of_begin {e : Executing} (law : s.executingLaw) (idle : s.cmu.executing = none)
    (executing : t.cmu.executing = some e)
    (own : ∀ c, t.works c = true → c = e.command ∨ s.works c = true) : t.executingLaw := by
  rw [executingLaw_iff]
  intro c works
  rcases own c works with rfl | before
  · rw [State.executed, executing]; rfl
  · rw [law.none_works idle] at before
    cases before

/-- What the executing command works on is gone, and it ends (R165). -/
theorem endCommand_executingLaw (law : s.executingLaw) (ended : ∀ c ∈ s.executed, s.works c = false)
    (status : Status) (detail : Nat) (data : List Byte) :
    (endCommand status detail data s).executingLaw := by
  rw [executingLaw_iff] at law ⊢
  intro c works
  have before : s.works c = true := by
    revert works
    cases c <;> simp [State.works]
  rw [ended c (law c before)] at before
  cases before

/-! ## What the laws read -/

theorem State.valve_state (s : State) (i : Nat) :
    (s.valve i).state = (s.vlc.valves.map Valve.state).getD i .idle :=
  (List.getD_map (f := Valve.state) (d := Valve.reset) ..).symm

theorem State.valve_refCount (s : State) (i : Nat) :
    (s.valve i).refCount = (s.vlc.valves.map Valve.refCount).getD i 0 :=
  (List.getD_map (f := Valve.refCount) (d := Valve.reset) ..).symm

theorem tests_eq (v : Vlc) (i : Nat) : v.tests i = decide (v.test.map ValveTest.valve = some i) := by
  unfold Vlc.tests
  cases v.test <;> simp

/-- The ON condition a valve has to have for being ON (R122). -/
def State.stands (s : State) (i : Nat) : Prop :=
  (s.valve i).state = .on →
    (0 < (s.valve i).refCount ∧ s.bpu.beltState = .moving) ∨ s.vlc.tests i = true

theorem valveLaw_iff (s : State) : s.valveLaw ↔ ∀ i < 64, s.stands i := Iff.rfl

/-- `t` is as `s` for the laws of the executing command and the banks. -/
@[simp] def State.SameOrders (s t : State) : Prop :=
  t.cmu.engine = s.cmu.engine ∧ t.cmu.executing = s.cmu.executing
    ∧ t.capture.isSome = s.capture.isSome ∧ t.tbs.copy.isSome = s.tbs.copy.isSome
    ∧ t.tbs.swap.isSome = s.tbs.swap.isSome ∧ t.tbs.active = s.tbs.active
    ∧ t.tbs.bankA = s.tbs.bankA ∧ t.tbs.bankB = s.tbs.bankB
    ∧ t.vlc.test.map ValveTest.valve = s.vlc.test.map ValveTest.valve

/-- `t` is as `s` for these laws and that of the reference counts. -/
@[simp] def State.SameCounts (s t : State) : Prop :=
  s.SameOrders t ∧ t.ejs = s.ejs
    ∧ t.vlc.valves.map Valve.refCount = s.vlc.valves.map Valve.refCount

/-- `t` is as `s` for all four laws. -/
@[simp] def State.Same (s t : State) : Prop :=
  s.SameCounts t ∧ t.bpu.beltState = s.bpu.beltState
    ∧ t.vlc.valves.map Valve.state = s.vlc.valves.map Valve.state

theorem bankLaw_congr (law : s.bankLaw) (engine : t.cmu.engine = s.cmu.engine)
    (swap : t.tbs.swap.isSome = true → s.tbs.swap.isSome = true) (active : t.tbs.active = s.tbs.active)
    (bankA : t.tbs.bankA = s.tbs.bankA) (bankB : t.tbs.bankB = s.tbs.bankB) : t.bankLaw := by
  have bank (name : Bank) : t.tbs.bank name = s.tbs.bank name := by
    cases name <;> assumption
  obtain ⟨first, second⟩ := law
  unfold State.bankLaw Tbs.activeBank Tbs.standbyBank
  rw [engine, active, bank, bank]
  exact ⟨first, fun pending => second (swap pending)⟩

theorem coverLaw_congr (law : s.coverLaw) (ejs : t.ejs = s.ejs)
    (counts : t.vlc.valves.map Valve.refCount = s.vlc.valves.map Valve.refCount) : t.coverLaw := by
  obtain ⟨length, covers, ranges⟩ := law
  refine ⟨?_, fun i inside => ?_, by rw [ejs]; exact ranges⟩
  · simpa using (congrArg List.length counts).trans (by simpa using length)
  · rw [State.valve_refCount, counts, ejs, ← State.valve_refCount]
    exact covers i inside

theorem stands_congr (h : s.stands i) (state : (t.valve i).state = .on → (s.valve i).state = .on)
    (count : (t.valve i).refCount = (s.valve i).refCount)
    (tested : t.vlc.test.map ValveTest.valve = s.vlc.test.map ValveTest.valve)
    (belt : t.bpu.beltState = s.bpu.beltState) : t.stands i := by
  intro on
  rw [count, belt, tests_eq, tested, ← tests_eq]
  exact h (state on)

theorem valveLaw_congr (law : s.valveLaw)
    (states : t.vlc.valves.map Valve.state = s.vlc.valves.map Valve.state)
    (counts : t.vlc.valves.map Valve.refCount = s.vlc.valves.map Valve.refCount)
    (tested : t.vlc.test.map ValveTest.valve = s.vlc.test.map ValveTest.valve)
    (belt : t.bpu.beltState = s.bpu.beltState) : t.valveLaw := fun i inside =>
  stands_congr (law i inside) (by rw [State.valve_state, State.valve_state, states]; exact id)
    (by rw [State.valve_refCount, State.valve_refCount, counts]) tested belt

theorem State.SameOrders.works (e : s.SameOrders t) (c : Command) : t.works c = s.works c := by
  obtain ⟨engine, _, capture, copy, swap, _, _, _, same⟩ := e
  have tested := congrArg Option.isSome same
  simp only [Option.isSome_map] at tested
  cases c <;> simp [State.works, engine, capture, copy, swap, tested]

/-! ## The relation -/

/-- `t`, on the way of a step from `s`, meets the laws of the executing command, the banks and the reference
counts where `s` does. -/
structure State.KeepsOrders (s t : State) : Prop where
  executing : s.executingLaw → t.executingLaw
  bank : s.executingLaw → s.bankLaw → t.bankLaw
  cover : s.coverLaw → t.coverLaw

/-- ... and the law of the ON condition. -/
structure State.KeepsLaws (s t : State) : Prop extends s.KeepsOrders t where
  valve : s.executingLaw → s.valveLaw → t.valveLaw

theorem State.KeepsLaws.refl (s : State) : s.KeepsLaws s := ⟨⟨id, fun _ => id, id⟩, fun _ => id⟩

theorem State.KeepsOrders.trans (h : s.KeepsOrders t) (next : t.KeepsOrders u) : s.KeepsOrders u where
  executing law := next.executing (h.executing law)
  bank law banks := next.bank (h.executing law) (h.bank law banks)
  cover law := next.cover (h.cover law)

theorem State.KeepsLaws.trans (h : s.KeepsLaws t) (next : t.KeepsLaws u) : s.KeepsLaws u where
  toKeepsOrders := h.toKeepsOrders.trans next.toKeepsOrders
  valve law valves := next.valve (h.executing law) (h.valve law valves)

/-- Nothing the laws of the commands read changes, and the counts go with the AEL. -/
theorem State.SameOrders.keeps (e : s.SameOrders t) (cover : s.coverLaw → t.coverLaw) : s.KeepsOrders t := by
  have works := e.works
  obtain ⟨engine, executing, _, _, swap, active, bankA, bankB, _⟩ := e
  exact ⟨fun law => executingLaw_of_fewer law executing fun c stands => works c ▸ stands, fun _ banks =>
    bankLaw_congr banks engine (fun pending => swap ▸ pending) active bankA bankB, cover⟩

/-- Nothing but valves' states, the belt and what no law reads changes. -/
theorem State.SameCounts.keeps (e : s.SameCounts t) : s.KeepsOrders t := by
  obtain ⟨orders, ejs, counts⟩ := e
  exact orders.keeps fun law => coverLaw_congr law ejs counts

theorem State.KeepsLaws.valves (h : s.KeepsLaws t) (e : t.SameCounts u) (stand : t.valveLaw → u.valveLaw) :
    s.KeepsLaws u :=
  h.trans ⟨e.keeps, fun _ => stand⟩

theorem State.Same.valveLaw (e : s.Same t) (law : s.valveLaw) : t.valveLaw := by
  obtain ⟨⟨⟨_, _, _, _, _, _, _, _, tested⟩, _, counts⟩, belt, states⟩ := e
  exact valveLaw_congr law states counts tested belt

/-- Nothing that the laws read changes. -/
theorem State.KeepsLaws.same (h : s.KeepsLaws t) (e : t.Same u) : s.KeepsLaws u := by
  have stand := e.valveLaw
  obtain ⟨counts, _⟩ := e
  exact h.valves counts stand

/-- `t` is `s` with less standing for the executing command, which goes on, and the engine in no new state in
which lines are sorted. -/
structure State.Clears (s t : State) : Prop where
  fewer : ∀ c, t.works c = true → s.works c = true
  executing : t.cmu.executing = s.cmu.executing
  runs : t.cmu.engine = .sorting ∨ t.cmu.engine = .draining →
    s.cmu.engine = .sorting ∨ s.cmu.engine = .draining
  banks : (t.tbs.active, t.tbs.bankA, t.tbs.bankB) = (s.tbs.active, s.tbs.bankA, s.tbs.bankB)
  rest : (t.vlc, t.ejs, t.bpu) = (s.vlc, s.ejs, s.bpu)

theorem State.KeepsLaws.clears (h : s.KeepsLaws t) (e : t.Clears u) : s.KeepsLaws u := by
  obtain ⟨fewer, executing, runs, banks, rest⟩ := e
  simp only [Prod.mk.injEq] at banks rest
  obtain ⟨active, bankA, bankB⟩ := banks
  obtain ⟨vlc, ejs, bpu⟩ := rest
  have bank (name : Bank) : u.tbs.bank name = t.tbs.bank name := by
    cases name
    · exact bankA
    · exact bankB
  refine h.trans ⟨⟨fun law => executingLaw_of_fewer law executing fewer, fun _ banks => ?_,
    fun law => coverLaw_congr law ejs (by rw [vlc])⟩,
    fun _ law => valveLaw_congr law (by rw [vlc]) (by rw [vlc]) (by rw [vlc]) (by rw [bpu])⟩
  obtain ⟨first, second⟩ := banks
  unfold State.bankLaw Tbs.activeBank Tbs.standbyBank
  rw [active, bank, bank]
  exact ⟨fun running => first (runs running), fun pending => second (fewer .bankSwap pending)⟩

/-- A command ends whose work is gone (R165). -/
theorem endCommand_laws {status : Status} {detail : Nat} {data : List Byte} (h : s.KeepsLaws t)
    (ended : s.executingLaw → ∀ c ∈ t.executed, t.works c = false) :
    s.KeepsLaws (endCommand status detail data t) where
  executing law := endCommand_executingLaw (h.executing law) (ended law) _ _ _
  bank law banks := bankLaw_congr (h.bank law banks) (by simp) (by simp) (by simp) (by simp) (by simp)
  cover law := coverLaw_congr (h.cover law) (by simp) (by simp)
  valve law valves := valveLaw_congr (h.valve law valves) (by simp) (by simp) (by simp) (by simp)

/-- What stands for a command in `s` is gone in `t`, where the same command executes. -/
theorem ended_of_works (works : s.works c = true) (gone : t.works c = false)
    (executing : t.cmu.executing = s.cmu.executing) (law : s.executingLaw) :
    ∀ d ∈ t.executed, t.works d = false := by
  intro d executed
  have own := (executingLaw_iff s).1 law c works
  rw [State.executed, executing, ← State.executed, own] at executed
  cases executed
  exact gone

/-- Both branches of a test keep the laws. -/
theorem ite_laws {p : Prop} [Decidable p] (ht : s.KeepsLaws t) (hu : s.KeepsLaws u) :
    s.KeepsLaws (if p then t else u) := by
  split
  · exact ht
  · exact hu

/-- A fold over steps that each keep the laws keeps them. -/
theorem foldl_laws {α : Type} {f : State → α → State}
    (hf : ∀ v a, s.KeepsLaws v → s.KeepsLaws (f v a)) {l : List α} (h : s.KeepsLaws t) :
    s.KeepsLaws (l.foldl f t) := by
  induction l generalizing t with
  | nil => exact h
  | cons a l ih => exact ih (hf t a h)

end Sys2Proof.Machine
end

section
/-! The laws through the operations of the valves and the Valve Port (Machine/Valves). -/

namespace Sys2Proof.Machine

variable {s t u : State} {i j : Nat}

/-! ## What the valves' operations leave of counts, states and the test -/

@[simp] theorem setImageDue_valves (s : State) :
    (setImageDue s).vlc.valves = s.vlc.valves ∧ (setImageDue s).vlc.test = s.vlc.test := ⟨rfl, rfl⟩

@[simp] theorem setValve_test (i : Nat) (v : Valve) (s : State) : (s.setValve i v).vlc.test = s.vlc.test := rfl

/-- A valve's record replaced by one with the same count leaves every count. -/
theorem setValve_counts {v : Valve} (count : v.refCount = (s.valve i).refCount) :
    (s.setValve i v).vlc.valves.map Valve.refCount = s.vlc.valves.map Valve.refCount := by
  apply List.ext_getElem?
  intro j
  simp only [State.setValve, State.setVlc_vlc, List.getElem?_map, List.getElem?_set]
  split
  next same =>
    subst same
    split
    next inside =>
      simp only [Option.map_some, count, State.valve, List.getD_eq_getElem?_getD]
      simp [inside]
    next outside => simp [List.getElem?_eq_none (Nat.le_of_not_lt outside)]
  next => rfl

@[simp] theorem enterHoldoff_refCount (holdoff : Nat) (v : Valve) :
    (v.enterHoldoff holdoff).refCount = v.refCount := by
  unfold Valve.enterHoldoff
  split <;> rfl

@[simp] theorem onTest_counts (i : Nat) (s : State) :
    (onTest i s).vlc.valves.map Valve.refCount = s.vlc.valves.map Valve.refCount := by
  unfold onTest
  dsimp only
  repeat' split
  all_goals simp [setValve_counts]

@[simp] theorem onTest_test (i : Nat) (s : State) : (onTest i s).vlc.test = s.vlc.test := (onTest_vlc i s).2

@[simp] theorem onTests_counts (sel : Nat → Bool) (s : State) :
    (onTests sel s).vlc.valves.map Valve.refCount = s.vlc.valves.map Valve.refCount :=
  foldl_keeps _ (fun t : State => t.vlc.valves.map Valve.refCount)
    (fun t i => by split <;> simp) _ s

@[simp] theorem onTests_test (sel : Nat → Bool) (s : State) : (onTests sel s).vlc.test = s.vlc.test :=
  foldl_keeps _ (fun t : State => t.vlc.test) (fun t i => by split <;> simp) _ s

@[simp] theorem handOver_counts (before s : State) :
    (handOver before s).vlc.valves.map Valve.refCount = s.vlc.valves.map Valve.refCount := onTests_counts _ s

@[simp] theorem handOver_test (before s : State) : (handOver before s).vlc.test = s.vlc.test := onTests_test _ s

/-- A valve that is ON is one of the engine's. -/
theorem State.inside_of_on (on : (s.valve i).state = .on) : i < s.vlc.valves.length := by
  by_contra outside
  simp [State.valve, List.getElem?_eq_none (Nat.le_of_not_lt outside), Valve.reset] at on

/-- A valve whose record is replaced by one that is not ON is not ON. -/
theorem setValve_state_ne_on {v : Valve} (off : v.state ≠ .on) : ((s.setValve i v).valve i).state ≠ .on := by
  intro on
  have inside := State.inside_of_on on
  rw [State.setValve_valve, if_pos ⟨rfl, by simpa [State.setValve] using inside⟩] at on
  exact off on

/-! ## The ON test and the hand-over (R114, R122) -/

/-- The ON test leaves a valve ON only with its ON condition (R122). -/
theorem onTest_stands_self (i : Nat) (s : State) : (onTest i s).stands i := by
  have holds : (s.valve i).onCondition s.bpu.beltState (s.vlc.tests i) = true →
      (0 < (s.valve i).refCount ∧ s.bpu.beltState = .moving) ∨ s.vlc.tests i = true := by
    simp [Valve.onCondition]
  have kept (on : (s.valve i).onCondition s.bpu.beltState (s.vlc.tests i) = true) :
      (onTest i s).stands i := fun _ => by
    rw [onTest_refCount, tests_eq, onTest_test, ← tests_eq]
    simpa using holds on
  have off {v : Valve} (h : v.state ≠ .on) : (setImageDue (s.setValve i v)).stands i := fun on =>
    absurd on (setValve_state_ne_on h)
  cases on : (s.valve i).onCondition s.bpu.beltState (s.vlc.tests i) with
  | true => exact kept on
  | false =>
    unfold onTest
    simp only [on, Bool.false_eq_true, if_false, Bool.false_and]
    split
    next idle => exact fun is_on => by simp [idle] at is_on
    next =>
      refine off ?_
      unfold Valve.enterHoldoff
      split <;> simp
    next held => exact fun is_on => by simp [held] at is_on
    next tripped => exact fun is_on => by simp [tripped] at is_on
    next disabled => exact fun is_on => by simp [disabled] at is_on

theorem onTest_stands_of_ne (ne : i ≠ j) (h : s.stands j) : (onTest i s).stands j :=
  stands_congr h (by rw [onTest_valve_of_ne ne]; exact id) (by rw [onTest_valve_of_ne ne]) (by simp) (by simp)

/-- The ON test makes good the one valve that may stand ON without its ON condition. -/
theorem onTest_valveLaw (others : ∀ j < 64, i ≠ j → s.stands j) : (onTest i s).valveLaw := by
  intro j inside
  by_cases same : i = j
  · exact same ▸ onTest_stands_self i s
  · exact onTest_stands_of_ne same (others j inside same)

theorem onTest_laws (h : s.KeepsLaws t) : s.KeepsLaws (onTest i t) :=
  h.valves (by simp) fun law => onTest_valveLaw fun j inside _ => law j inside

/-- `t` is on the way of an event that began in `s`, itself on the way of a step from `p`: before the hand-over
at its end the event leaves every valve's state, and the test. -/
structure State.Moves (p s t : State) : Prop where
  executing : s.executingLaw → t.executingLaw
  bank : s.executingLaw → s.bankLaw → t.bankLaw
  cover : p.coverLaw → t.coverLaw
  states : t.vlc.valves.map Valve.state = s.vlc.valves.map Valve.state
  test : t.vlc.test = s.vlc.test

theorem State.Moves.refl {p s : State} (h : p.KeepsLaws s) : p.Moves s s where
  executing := id
  bank _ := id
  cover := h.cover
  states := rfl
  test := rfl

/-- What keeps the orders' laws, the valves' states and the test goes on within an event. -/
theorem State.Moves.keeps {p : State} (m : p.Moves s t) (next : t.KeepsOrders u)
    (states : u.vlc.valves.map Valve.state = t.vlc.valves.map Valve.state)
    (test : u.vlc.test = t.vlc.test) : p.Moves s u where
  executing law := next.executing (m.executing law)
  bank law banks := next.bank (m.executing law) (m.bank law banks)
  cover law := next.cover (m.cover law)
  states := states.trans m.states
  test := test.trans m.test

/-- The hand-over restores what the event's changes of belt and counts have broken (R8, R114, R122): a valve
it gives no ON test has its state, its count and its belt state as before the event. -/
theorem handOver_laws {p : State} (h : p.KeepsLaws s) (m : p.Moves s t) : p.KeepsLaws (handOver s t) := by
  have orders : t.KeepsOrders (handOver s t) := State.SameCounts.keeps (by simp)
  refine ⟨⟨fun law => orders.executing (m.executing (h.executing law)), fun law banks =>
    orders.bank (m.executing (h.executing law)) (m.bank (h.executing law) (h.bank law banks)),
    fun law => orders.cover (m.cover law)⟩, fun executing valves i inside => ?_⟩
  have law := h.valve executing valves
  by_cases given : s.bpu.beltState ≠ t.bpu.beltState ∨ (s.valve i).refCount ≠ (t.valve i).refCount
  · refine stands_congr (onTest_stands_self i t) ?_ ?_ (by simp) (by simp)
    all_goals rw [handOver_valve s t inside, if_pos given]
    exact id
  · have valve : (handOver s t).valve i = t.valve i := by rw [handOver_valve s t inside, if_neg given]
    obtain ⟨belt, count⟩ := not_or.1 given
    refine stands_congr (law i inside) ?_ ?_ (by simp [m.test]) (by simpa using (not_not.1 belt).symm)
    · rw [valve, State.valve_state, m.states, ← State.valve_state]
      exact id
    · rw [valve]
      exact (not_not.1 count).symm

/-! ## A valve's state, and a running test (R125 ~ R133) -/

/-- A valve is set to a state other than ON, its count left. -/
theorem setValve_laws {v : Valve} (h : s.KeepsLaws t) (off : v.state ≠ .on)
    (count : v.refCount = (t.valve i).refCount) : s.KeepsLaws (t.setValve i v) := by
  refine h.valves (by simp [setValve_counts count]) fun law j inside => ?_
  by_cases same : i = j
  · subst same
    exact fun on => absurd on (setValve_state_ne_on off)
  · refine stands_congr (law j inside) ?_ ?_ (by simp) (by simp)
    all_goals rw [State.setValve_valve, if_neg (by simp [same])]
    exact id

/-- With the test gone, a valve stands as before unless it is the tested one and ON. -/
theorem stands_setTest (law : s.valveLaw) (inside : i < 64)
    (other : s.vlc.tests i = false ∨ (s.valve i).state ≠ .on) :
    (s.setVlc { s.vlc with test := none }).stands i := by
  intro on
  have before := law i inside on
  rcases other with apart | off
  · rw [apart] at before
    exact .inl (before.resolve_right Bool.false_ne_true)
  · exact absurd on off

theorem setTest_orders (t : State) : t.KeepsOrders (t.setVlc { t.vlc with test := none }) where
  executing law := executingLaw_of_fewer law rfl fun c works => by
    cases c
    case valveTest => cases works
    all_goals exact works
  bank _ banks := banks
  cover law := law

/-- A running test stands for its command (R131). -/
theorem works_of_test {k : ValveTest} (test : t.vlc.test = some k) : t.works .valveTest = true := by
  simp [State.works, test]

theorem tests_iff (v : Vlc) (i : Nat) : v.tests i = true ↔ ∃ k, v.test = some k ∧ k.valve = i := by
  simp [tests_eq]

/-- The test of a valve that is not ON ends (R128, R136). -/
theorem endTestOf_laws {status : Status} {detail : Nat} (h : s.KeepsLaws t)
    (off : (t.valve i).state ≠ .on) : s.KeepsLaws (endTestOf i status detail t) := by
  unfold endTestOf
  split
  next tested =>
    obtain ⟨k, test, rfl⟩ := (tests_iff _ _).1 tested
    have dropped : s.KeepsLaws (t.setVlc { t.vlc with test := none }) := by
      refine h.trans ⟨setTest_orders t, fun _ law j inside => stands_setTest law inside ?_⟩
      by_cases same : k.valve = j
      · exact .inr (same ▸ off)
      · exact .inl (by simp [tests_eq, test, same])
    exact endCommand_laws dropped fun law => ended_of_works (works_of_test test) rfl rfl (h.executing law)
  next => exact h

/-- A running test ends, and its valve is given the ON test (R132, R133). -/
theorem endTestOff_laws {status : Status} {data : Nat → State → List Byte} (h : s.KeepsLaws t) :
    s.KeepsLaws (endTestOff status data t) := by
  unfold endTestOff
  split
  next => exact h
  next k test =>
    have off : s.KeepsLaws (onTest k.valve (t.setVlc { t.vlc with test := none })) := by
      refine h.trans ⟨(setTest_orders t).trans (State.SameCounts.keeps (by simp)), fun _ law =>
        onTest_valveLaw fun j inside ne => stands_setTest law inside (.inl ?_)⟩
      simp [tests_eq, test, ne]
    exact endCommand_laws off fun law =>
      ended_of_works (works_of_test test) (by simp [State.works]) (by simp) (h.executing law)

/-- The executing VALVE_TEST is aborted, its test running or not (R133). -/
theorem abortTest_laws (h : s.KeepsLaws t) (own : t.executed = some .valveTest) :
    s.KeepsLaws (abortTest t) := by
  unfold abortTest
  split
  next => exact endTestOff_laws h
  next absent =>
    refine endCommand_laws h fun _ c executed => ?_
    rw [own] at executed
    cases executed
    simpa [State.works] using absent

theorem holdoffExpires_laws (h : s.KeepsLaws t) : s.KeepsLaws (holdoffExpires i t) := by
  unfold holdoffExpires
  split
  · exact h
  · exact onTest_laws (setValve_laws h (by simp) rfl)

/-! ## Thermal tick and trip (R127, R128) -/

@[simp] theorem heat_counts (s : State) :
    (heat s).vlc.valves.map Valve.refCount = s.vlc.valves.map Valve.refCount
      ∧ (heat s).vlc.valves.map Valve.state = s.vlc.valves.map Valve.state ∧ (heat s).vlc.test = s.vlc.test := by
  have tick (step level : Nat) (v : Valve) :
      (v.tick step level).refCount = v.refCount ∧ (v.tick step level).state = v.state := by
    unfold Valve.tick
    split <;> exact ⟨rfl, rfl⟩
  simp [heat, tick, Function.comp_def]

/-- A valve goes off and reports it: what is left ends its test (R128, R136). -/
theorem endTestOf_turnedOff_laws {v : Valve} {status : Status} {detail : Nat} (h : s.KeepsLaws t)
    (off : v.state ≠ .on) (count : v.refCount = (t.valve i).refCount) (e : (t.setValve i v).Same u)
    (valves : u.vlc.valves = (t.setValve i v).vlc.valves) : s.KeepsLaws (endTestOf i status detail u) := by
  refine endTestOf_laws ((setValve_laws h off count).same e) ?_
  rw [State.valve, valves]
  exact setValve_state_ne_on off

theorem trip_laws (h : s.KeepsLaws t) : s.KeepsLaws (trip i t) := by
  unfold trip
  refine ite_laws ?_ h
  exact endTestOf_turnedOff_laws (v := { t.valve i with state := .tripped, tripDue := false }) h
    (by simp) rfl (by simp) (by simp)

theorem thermalTick_laws (h : s.KeepsLaws t) : s.KeepsLaws (thermalTick t) :=
  foldl_laws (fun _ _ hu => trip_laws hu) (h.same (by simp))

theorem disableValve_laws (h : s.KeepsLaws t) : s.KeepsLaws (disableValve i t) := by
  have off : s.KeepsLaws (t.setValve i
      { t.valve i with state := .disabled .soft, holdoff := none, tripDue := false }) :=
    setValve_laws h (by simp) rfl
  exact ite_laws (off.same (by simp)) off

theorem enableValve_laws (h : s.KeepsLaws t) : s.KeepsLaws (enableValve i t) :=
  onTest_laws (setValve_laws h (by simp) rfl)

/-! ## Valve Port (R134 ~ R138) -/

@[simp] theorem startImage_valves (s : State) :
    (startImage s).vlc.valves = s.vlc.valves ∧ (startImage s).vlc.test = s.vlc.test := ⟨rfl, rfl⟩

@[simp] theorem openWindow_valves (s : State) :
    (openWindow s).vlc.valves = s.vlc.valves ∧ (openWindow s).vlc.test = s.vlc.test := ⟨rfl, rfl⟩

theorem coilFault_laws (h : s.KeepsLaws t) : s.KeepsLaws (coilFault i t) := by
  unfold coilFault
  refine ite_laws ?_ h
  dsimp only
  split
  all_goals
    exact endTestOf_turnedOff_laws
      (v := { t.valve i with state := .disabled .coil, holdoff := none, tripDue := false }) h
      (by simp) rfl (by simp) (by simp)

@[simp] theorem closeWindow_valves (s : State) :
    (closeWindow s).vlc.valves = s.vlc.valves ∧ (closeWindow s).vlc.test = s.vlc.test := ⟨rfl, rfl⟩

theorem map_refCount_mapFrom {f : Nat → Valve → Valve} (h : ∀ j v, (f j v).refCount = v.refCount) (n : Nat)
    (l : List Valve) : (mapFrom f n l).map Valve.refCount = l.map Valve.refCount := by
  induction l generalizing n with
  | nil => rfl
  | cons v l ih => simp [mapFrom, h, ih]

theorem applyStatus_laws {frame : List Byte} (h : s.KeepsLaws t) : s.KeepsLaws (applyStatus frame t) :=
  foldl_laws (fun _ _ hu => coilFault_laws hu)
    (h.same (by simp [map_refCount_mapFrom, map_state_mapFrom]))

theorem restoreLink_laws {q : Byte} (h : s.KeepsLaws t) : s.KeepsLaws (restoreLink q t) :=
  ite_laws (h.same (by simp)) h

theorem statusMatches_laws {frame : List Byte} (h : s.KeepsLaws t) :
    s.KeepsLaws (statusMatches frame t) :=
  restoreLink_laws (applyStatus_laws (h.same (by simp)))

theorem statusArrives_laws {frame : List Byte} (h : s.KeepsLaws t) : s.KeepsLaws (statusArrives frame t) :=
  ite_laws (statusMatches_laws h) (h.same (by simp))

theorem loseValveLink_laws {q : Byte} (h : s.KeepsLaws t) : s.KeepsLaws (loseValveLink q t) :=
  endTestOff_laws (h.same (by simp))

theorem windowCloses_laws (h : s.KeepsLaws t) : s.KeepsLaws (windowCloses t) :=
  ite_laws (loseValveLink_laws (h.same (by simp))) (h.same (by simp))

end Sys2Proof.Machine
end

section
/-! The laws through the operations of the Ejection Scheduler (Machine/Ejection): the reference counts go with
the AEL. -/

namespace Sys2Proof.Machine

variable {p s t u : State} {i k : Nat} {q : EjectionRequest} {r : EjectionRecord}

/-! ## The records that cover a valve (R126) -/

/-- Whether the record of an AEL slot covers a valve. -/
def slotCovers (k : Nat) (x : Option EjectionRecord) : Bool := x.any (fun r => r.covers k)

theorem covering_eq (e : Ejs) (k : Nat) : e.covering k = e.ael.countP (slotCovers k) :=
  List.countP_congr fun x _ => by cases x <;> rfl

/-- Every valve range held or requested runs from its least valve to its greatest (R75, R92). -/
def Ejs.ordered (e : Ejs) : Prop :=
  (∀ r, some r ∈ e.ael → r.valveFirst ≤ r.valveLast)
    ∧ (∀ r ∈ e.eq, r.valveFirst ≤ r.valveLast)
    ∧ (∀ q ∈ e.vduRequests, q.valveFirst ≤ q.valveLast)
    ∧ (∀ q ∈ e.oasRequests, q.valveFirst ≤ q.valveLast)

theorem coverLaw_iff (s : State) :
    s.coverLaw ↔ s.vlc.valves.length = 64 ∧ (∀ k < 64, (s.valve k).refCount = s.ejs.covering k)
      ∧ s.ejs.ordered := Iff.rfl

/-- A slot's record replaced: each valve is covered as before, but for the two records. -/
theorem covering_set {e f : Ejs} {x y : Option EjectionRecord} (held : e.ael[i]? = some x)
    (written : f.ael = e.ael.set i y) (k : Nat) :
    f.covering k + (if slotCovers k x then 1 else 0) = e.covering k + (if slotCovers k y then 1 else 0) := by
  obtain ⟨inside, rfl⟩ := List.getElem?_eq_some_iff.1 held
  have counted := List.boole_getElem_le_countP (p := slotCovers k) (l := e.ael) inside
  rw [covering_eq, covering_eq, written, List.countP_set inside]
  omega

theorem slotCovers_some (k : Nat) (r : EjectionRecord) :
    slotCovers k (some r) = true ↔ r.valveFirst ≤ k ∧ k ≤ r.valveLast := by
  simp [slotCovers, EjectionRecord.covers]

@[simp] theorem slotCovers_none (k : Nat) : slotCovers k none = false := rfl

/-- A slot takes a record whose range is ordered. -/
theorem Ejs.ordered.set {e : Ejs} (h : e.ordered) (ordered : ∀ r ∈ y, r.valveFirst ≤ r.valveLast) :
    ({ e with ael := e.ael.set i y } : Ejs).ordered := by
  obtain ⟨active, rest⟩ := h
  refine ⟨fun r held => ?_, rest⟩
  rcases List.mem_or_eq_of_mem_set held with before | new
  · exact active r before
  · exact ordered r new.symm

/-- The counts and the records covering a valve change alike. -/
theorem coverLaw_of_balance (law : s.coverLaw) (length : t.vlc.valves.length = s.vlc.valves.length)
    (balance : ∀ k < s.vlc.valves.length,
      (t.valve k).refCount + s.ejs.covering k = (s.valve k).refCount + t.ejs.covering k)
    (ordered : t.ejs.ordered) : t.coverLaw := by
  obtain ⟨valves, counts, _⟩ := (coverLaw_iff s).1 law
  refine (coverLaw_iff t).2 ⟨length.trans valves, fun k inside => ?_, ordered⟩
  have before := counts k inside
  have change := balance k (valves.symm ▸ inside)
  omega

theorem getElem?_of_freeIndex {l : List (Option EjectionRecord)} (free : freeIndex l = some i) :
    l[i]? = some none := by
  obtain ⟨inside, empty, _⟩ := List.findIdx?_eq_some_iff_getElem.1 free
  rw [List.getElem?_eq_getElem inside, Option.isNone_iff_eq_none.1 empty]

/-! ## What the operations leave of the valves' states and the test -/

@[simp] theorem raiseCounts_leaves (first last : Nat) (s : State) :
    (raiseCounts first last s).vlc.valves.map Valve.state = s.vlc.valves.map Valve.state
      ∧ (raiseCounts first last s).vlc.valves.length = s.vlc.valves.length
      ∧ (raiseCounts first last s).vlc.test = s.vlc.test := by
  refine ⟨map_state_mapFrom (fun j v => ?_) 0 s.vlc.valves, length_mapFrom _ 0 s.vlc.valves, rfl⟩
  split <;> rfl

@[simp] theorem lowerCounts_leaves (first last : Nat) (s : State) :
    (lowerCounts first last s).vlc.valves.map Valve.state = s.vlc.valves.map Valve.state
      ∧ (lowerCounts first last s).vlc.test = s.vlc.test := by
  refine ⟨map_state_mapFrom (fun j v => ?_) 0 s.vlc.valves, rfl⟩
  split <;> rfl

@[simp] theorem activate_leaves (i : Nat) (r : EjectionRecord) (s : State) :
    (activate i r s).vlc.valves.map Valve.state = s.vlc.valves.map Valve.state
      ∧ (activate i r s).vlc.valves.length = s.vlc.valves.length
      ∧ (activate i r s).vlc.test = s.vlc.test := by
  unfold activate
  dsimp only
  split <;> simp

@[simp] theorem closeSlot_leaves (i : Nat) (s : State) :
    (closeSlot i s).vlc.valves.map Valve.state = s.vlc.valves.map Valve.state
      ∧ (closeSlot i s).vlc.test = s.vlc.test := by
  unfold closeSlot
  repeat' split
  all_goals simp

@[simp] theorem mergeActive_leaves (i : Nat) (q : EjectionRequest) (r : EjectionRecord) (s : State) :
    (mergeActive i q r s).vlc.valves.map Valve.state = s.vlc.valves.map Valve.state
      ∧ (mergeActive i q r s).vlc.valves.length = s.vlc.valves.length
      ∧ (mergeActive i q r s).vlc.test = s.vlc.test := by
  unfold mergeActive
  dsimp only
  repeat' split
  all_goals simp

@[simp] theorem dropRecords_leaves (s : State) :
    (dropRecords s).vlc.valves.map Valve.state = s.vlc.valves.map Valve.state
      ∧ (dropRecords s).vlc.test = s.vlc.test := by
  simp [dropRecords, zeroCounts, Function.comp_def]

/-! ## The counts through each operation -/

theorem activate_coverLaw (law : s.coverLaw) (free : freeIndex s.ejs.ael = some i)
    (ordered : r.valveFirst ≤ r.valveLast) : (activate i r s).coverLaw := by
  have ranges := ((coverLaw_iff s).1 law).2.2
  refine coverLaw_of_balance law (by simp) (fun k inside => ?_) ?_
  · have change := covering_set (f := (activate i r s).ejs) (y := some r) (getElem?_of_freeIndex free)
      (by simp) k
    simp only [slotCovers_some, slotCovers_none, Bool.false_eq_true, if_false, Nat.add_zero] at change
    rw [activate_refCount i r inside, change]
    omega
  · rw [activate_ejs]
    exact ranges.set (by simpa using ordered)

/-- A slot that closes releases the valves its record covers (R112). -/
theorem slotReleases_eq (travel : Position) (k : Nat) (x : Option EjectionRecord) :
    slotReleases travel k x = (slotCovers k x && !slotCovers k (keptSlot travel x)) := by
  cases x with
  | none => rfl
  | some r => cases closes : slotCloses travel (some r) <;>
      simp [slotReleases, keptSlot, closes, slotCovers, EjectionRecord.covers]

theorem closeSlot_coverLaw (law : s.coverLaw) : (closeSlot i s).coverLaw := by
  cases held : s.ejs.ael[i]? with
  | none =>
    have nothing : closeSlot i s = s := by simp [closeSlot, held]
    rwa [nothing]
  | some x =>
    obtain ⟨valves, counts, ranges⟩ := (coverLaw_iff s).1 law
    refine coverLaw_of_balance law (by simp) (fun k inside => ?_) ?_
    · have change := covering_set held (congrArg Ejs.ael (closeSlot_ejs held)) k
      have count := counts k (valves ▸ inside)
      have kept : slotCovers k (keptSlot s.bpu.travel x) = true → slotCovers k x = true := by
        unfold keptSlot
        split <;> simp
      rw [closeSlot_refCount held inside, slotReleases_eq]
      cases before : slotCovers k x <;> cases after : slotCovers k (keptSlot s.bpu.travel x)
      all_goals simp [before, after] at change kept ⊢
      all_goals omega
    · rw [closeSlot_ejs held]
      refine ranges.set fun r kept => ranges.1 r ?_
      unfold keptSlot at kept
      split at kept
      · cases kept
      · rw [← Option.mem_def.1 kept]
        exact List.mem_of_getElem? held

/-- The valves that the folded record covers are those of the record and those it gains (R108). -/
theorem slotCovers_foldInto {travel : Position} (own : r.valveFirst ≤ r.valveLast) (k : Nat) :
    (if slotCovers k (some (foldInto travel q r)) then 1 else 0)
      = (if slotCovers k (some r) then 1 else 0) + (if gains q r k then 1 else 0) := by
  simp only [slotCovers_some, gains_iff, foldInto_eq]
  split <;> split <;> split <;> omega

theorem mergeActive_coverLaw (law : s.coverLaw) (held : s.ejs.ael[i]? = some (some r))
    (ordered : q.valveFirst ≤ q.valveLast) : (mergeActive i q r s).coverLaw := by
  have ranges := ((coverLaw_iff s).1 law).2.2
  have own := ranges.1 r (List.mem_of_getElem? held)
  refine coverLaw_of_balance law (by simp) (fun k inside => ?_) ?_
  · have change := covering_set held (congrArg Ejs.ael (mergeActive_ejs i q r s)) k
    rw [slotCovers_foldInto own] at change
    rw [mergeActive_valve i q r s own inside]
    dsimp only
    omega
  · rw [mergeActive_ejs]
    refine ranges.set fun m folded => ?_
    obtain rfl := Option.some.inj folded
    simp only [foldInto_eq]
    omega

theorem dropRecords_coverLaw (law : s.coverLaw) : (dropRecords s).coverLaw := by
  obtain ⟨valves, _, _, _, vdu, oas⟩ := (coverLaw_iff s).1 law
  refine (coverLaw_iff _).2 ⟨by simpa [dropRecords, zeroCounts] using valves, fun k inside => ?_, ?_⟩
  · have none_cover : (dropRecords s).ejs.covering k = 0 := by
      simp [covering_eq, dropRecords]
    rw [none_cover, State.valve_refCount]
    simp [dropRecords, zeroCounts, List.getD_eq_getElem?_getD, valves, inside]
  · exact ⟨by simp [dropRecords], by simp [dropRecords], by simpa [dropRecords] using vdu,
      by simpa [dropRecords] using oas⟩

/-! ## Within an event: the valves' states and the test stand -/

/-- What the laws of the commands and banks read stands, and the counts go with the AEL. -/
theorem State.Moves.step (m : p.Moves s t) (e : t.SameOrders u) (cover : p.coverLaw → t.coverLaw → u.coverLaw)
    (states : u.vlc.valves.map Valve.state = t.vlc.valves.map Valve.state)
    (test : u.vlc.test = t.vlc.test) : p.Moves s u := by
  have works := e.works
  obtain ⟨engine, executing, _, _, swap, active, bankA, bankB, _⟩ := e
  exact ⟨fun law => executingLaw_of_fewer (m.executing law) executing fun c stands => works c ▸ stands,
    fun law banks =>
      bankLaw_congr (m.bank law banks) engine (fun pending => swap ▸ pending) active bankA bankB,
    fun law => cover law (m.cover law), states.trans m.states, test.trans m.test⟩

/-- Nothing but the belt and what no law reads changes. -/
theorem State.Moves.same (m : p.Moves s t) (e : t.SameCounts u)
    (leaves : u.vlc.valves.map Valve.state = t.vlc.valves.map Valve.state ∧ u.vlc.test = t.vlc.test) :
    p.Moves s u :=
  m.keeps e.keeps leaves.1 leaves.2

/-- The ranges held and requested are ordered, on the way of a step, where the counts' law holds before it. -/
theorem State.Moves.ordered (m : p.Moves s t) (law : p.coverLaw) : t.ejs.ordered :=
  ((coverLaw_iff t).1 (m.cover law)).2.2

/-- The Ejection Queue takes records whose ranges are ordered. -/
theorem setEq_moves {l : List EjectionRecord} (m : p.Moves s t)
    (ordered : p.coverLaw → ∀ r ∈ l, r.valveFirst ≤ r.valveLast) :
    p.Moves s (t.setEjs { t.ejs with eq := l }) :=
  m.step (by simp) (fun law ⟨valves, counts, active, _, requests⟩ =>
    ⟨valves, counts, active, ordered law, requests⟩) (by simp) (by simp)

theorem bump_moves {c : Counter} (m : p.Moves s t) : p.Moves s (bump c t) := m.same (by simp) (by simp)

/-- A record placed in the queue has an ordered range (R101). -/
theorem place_moves {travel : Position} {l : List EjectionRecord} (m : p.Moves s t)
    (others : p.coverLaw → ∀ x ∈ l, x.valveFirst ≤ x.valveLast)
    (ordered : p.coverLaw → r.valveFirst ≤ r.valveLast) :
    p.Moves s (t.setEjs { t.ejs with eq := placeRecord travel r l }) := by
  refine setEq_moves m fun law x placed => ?_
  rcases List.mem_cons.1 ((placeRecord_perm travel r l).mem_iff.1 placed) with rfl | before
  · exact ordered law
  · exact others law x before

theorem activate_moves (m : p.Moves s t) (free : freeIndex t.ejs.ael = some i)
    (ordered : p.coverLaw → r.valveFirst ≤ r.valveLast) : p.Moves s (activate i r t) :=
  m.step (by simp) (fun law counts => activate_coverLaw counts free (ordered law)) (by simp) (by simp)

theorem countWait_moves {rest : List EjectionRecord} (m : p.Moves s t) (head : t.ejs.eq = r :: rest) :
    p.Moves s (countWait r rest t) := by
  unfold countWait
  split
  · exact m
  · refine bump_moves (setEq_moves m fun law x member => ?_)
    have ranges := (m.ordered law).2.1
    rw [head] at ranges
    rcases List.mem_cons.1 member with rfl | later
    · exact ranges r List.mem_cons_self
    · exact ranges x (List.mem_cons_of_mem _ later)

theorem activationTest_moves {n : Nat} (m : p.Moves s t) : p.Moves s (activationTest n t) := by
  induction n generalizing t with
  | zero => exact m
  | succ n ih =>
    unfold activationTest
    split
    next => exact m
    next r rest head =>
      have ranges (law : p.coverLaw) : ∀ x ∈ r :: rest, x.valveFirst ≤ x.valveLast :=
        head ▸ (m.ordered law).2.1
      have left : p.Moves s (t.setEjs { t.ejs with eq := rest }) :=
        setEq_moves m fun law x later => ranges law x (List.mem_cons_of_mem _ later)
      split
      · split
        · exact ih (bump_moves left)
        · split
          next free => exact ih (activate_moves left free fun law => ranges law r List.mem_cons_self)
          next => exact countWait_moves m head
      · exact m

theorem testHead_moves (m : p.Moves s t) : p.Moves s (testHead t) := activationTest_moves m

/-- The compares of an advance (R112, R113). -/
theorem ejectionAdvance_moves (m : p.Moves s t) : p.Moves s (ejectionAdvance t) := by
  refine testHead_moves ?_
  unfold closeRecords
  generalize List.range 16 = slots
  induction slots generalizing t with
  | nil => exact m
  | cons i slots ih => exact ih (m.step (by simp) (fun _ => closeSlot_coverLaw) (by simp) (by simp))

/-! ## Taking a request (R105 ~ R111) -/

theorem foldInto_ordered {travel : Position} (own : r.valveFirst ≤ r.valveLast) :
    (foldInto travel q r).valveFirst ≤ (foldInto travel q r).valveLast := by
  simp only [foldInto_eq]
  omega

theorem mergeQueued_moves (m : p.Moves s t) (held : t.ejs.eq[k]? = some r) : p.Moves s (mergeQueued k q r t) := by
  have own (law : p.coverLaw) := (m.ordered law).2.1 r (List.mem_of_getElem? held)
  have merged : p.Moves s (bump .ejectionsMerged t) := bump_moves m
  unfold mergeQueued
  dsimp only
  split
  · have placed {e : EjectionRecord} (range : e.valveFirst = (foldInto t.bpu.travel q r).valveFirst
        ∧ e.valveLast = (foldInto t.bpu.travel q r).valveLast) :
        p.Moves s ((bump .ejectionsMerged t).setEjs
          { t.ejs with eq := placeRecord t.bpu.travel e (t.ejs.eq.eraseIdx k) }) :=
      place_moves merged (fun law x left => (m.ordered law).2.1 x (List.mem_of_mem_eraseIdx left))
        fun law => by rw [range.1, range.2]; exact foldInto_ordered (own law)
    split
    · exact testHead_moves (placed ⟨rfl, rfl⟩)
    · exact placed ⟨rfl, rfl⟩
  · refine setEq_moves merged fun law x member => ?_
    rcases List.mem_or_eq_of_mem_set member with before | rfl
    · exact (m.ordered law).2.1 x before
    · exact foldInto_ordered (own law)

section request

variable (ordered : p.coverLaw → q.valveFirst ≤ q.valveLast)

include ordered

theorem mergeActive_moves (m : p.Moves s t) (held : t.ejs.ael[i]? = some (some r)) :
    p.Moves s (mergeActive i q r t) :=
  m.step (by simp) (fun law counts => mergeActive_coverLaw counts held (ordered law)) (by simp) (by simp)

theorem makeRecord_moves (m : p.Moves s t) : p.Moves s (makeRecord q t) := by
  have placed {late : Bool} : p.Moves s (t.setEjs
      { t.ejs with eq := placeRecord t.bpu.travel (q.record late) t.ejs.eq }) :=
    place_moves m (fun law => (m.ordered law).2.1) ordered
  unfold makeRecord
  split
  · unfold makeLate
    split
    next free => exact activate_moves m free ordered
    next =>
      split
      · exact placed
      · exact bump_moves m
  · unfold makeQueued
    split
    · exact placed
    · exact bump_moves m

theorem takeMerge_moves (m : p.Moves s t) : p.Moves s (takeMerge q t) := by
  unfold takeMerge
  split
  · split
    next held => exact mergeActive_moves ordered m (by simpa [Option.getD_eq_iff] using held)
    next => exact m
  · split
    · split
      next held => exact mergeQueued_moves m held
      next => exact m
    · exact makeRecord_moves ordered m

theorem takeRequest_moves (m : p.Moves s t) : p.Moves s (takeRequest q t) := by
  unfold takeRequest
  split
  · exact bump_moves m
  · split
    · exact takeMerge_moves ordered m
    · unfold takeRefuse
      split
      · exact bump_moves m
      · exact makeRecord_moves ordered m
    · exact makeRecord_moves ordered m

end request

/-- A request is one event with its hand-over (R104, R114). -/
theorem requestEvent_laws (h : p.KeepsLaws t) (ordered : p.coverLaw → q.valveFirst ≤ q.valveLast) :
    p.KeepsLaws (requestEvent q t) :=
  handOver_laws h (takeRequest_moves ordered (.refl h))

/-- Requests leave and join the queues of the blocks that hand them over, their ranges ordered (R104). -/
theorem setRequests_laws {vdu oas : List EjectionRequest} (h : p.KeepsLaws t)
    (ordered : t.ejs.ordered → (∀ q ∈ vdu, q.valveFirst ≤ q.valveLast)
      ∧ ∀ q ∈ oas, q.valveFirst ≤ q.valveLast) :
    p.KeepsLaws (t.setEjs { t.ejs with vduRequests := vdu, oasRequests := oas }) := by
  have orders : t.KeepsOrders (t.setEjs { t.ejs with vduRequests := vdu, oasRequests := oas }) :=
    State.SameOrders.keeps (by simp) fun ⟨valves, counts, ranges⟩ =>
      ⟨valves, counts, ranges.1, ranges.2.1, ordered ranges⟩
  exact h.trans ⟨orders, fun _ => id⟩

theorem takeFrom_laws {src : Requester} (h : p.KeepsLaws t) : p.KeepsLaws (takeFrom src t) := by
  have ranges (law : p.coverLaw) : t.ejs.ordered := ((coverLaw_iff t).1 (h.cover law)).2.2
  unfold takeFrom
  split
  · split
    next => exact h
    next q rest queued =>
      refine requestEvent_laws (setRequests_laws h fun ⟨_, _, vdu, oas⟩ => ⟨fun x later => ?_, oas⟩)
        fun law => (ranges law).2.2.1 q (queued ▸ List.mem_cons_self)
      exact vdu x (queued ▸ List.mem_cons_of_mem _ later)
  · split
    next => exact h
    next q rest queued =>
      refine requestEvent_laws (setRequests_laws h fun ⟨_, _, vdu, oas⟩ => ⟨vdu, fun x later => ?_⟩)
        fun law => (ranges law).2.2.2 q (queued ▸ List.mem_cons_self)
      exact oas x (queued ▸ List.mem_cons_of_mem _ later)

theorem handRequest_laws {src : Requester} (h : p.KeepsLaws t) (ordered : q.valveFirst ≤ q.valveLast) :
    p.KeepsLaws (handRequest src q t) := by
  have joined {l : List EjectionRequest} (before : ∀ x ∈ l, x.valveFirst ≤ x.valveLast) :
      ∀ x ∈ l ++ [q], x.valveFirst ≤ x.valveLast := by
    simpa [or_imp, forall_and] using ⟨before, ordered⟩
  cases src with
  | verdictUnit => exact setRequests_laws h fun ⟨_, _, vdu, oas⟩ => ⟨joined vdu, oas⟩
  | objectAssembler => exact setRequests_laws h fun ⟨_, _, vdu, oas⟩ => ⟨vdu, joined oas⟩

/-! ## Flush (R119) -/

theorem takeAll_laws (h : p.KeepsLaws t) : p.KeepsLaws (takeAll t) := by
  have ranges (law : p.coverLaw) : ∀ q ∈ t.ejs.vduRequests ++ t.ejs.oasRequests, q.valveFirst ≤ q.valveLast := by
    obtain ⟨_, _, vdu, oas⟩ := ((coverLaw_iff t).1 (h.cover law)).2.2
    simpa [or_imp, forall_and] using ⟨vdu, oas⟩
  have emptied : p.KeepsLaws (t.setEjs { t.ejs with vduRequests := [], oasRequests := [] }) :=
    setRequests_laws h fun _ => ⟨by simp, by simp⟩
  unfold takeAll
  revert emptied ranges
  generalize t.setEjs { t.ejs with vduRequests := [], oasRequests := [] } = u
  generalize t.ejs.vduRequests ++ t.ejs.oasRequests = requests
  intro ranges emptied
  induction requests generalizing u with
  | nil => exact emptied
  | cons q rest ih =>
    exact ih _ (fun law x later => ranges law x (List.mem_cons_of_mem _ later))
      (requestEvent_laws emptied fun law => ranges law q List.mem_cons_self)

theorem flush_laws (h : p.KeepsLaws t) : p.KeepsLaws (flush t) :=
  handOver_laws (takeAll_laws h)
    (State.Moves.step (.refl (takeAll_laws h)) (by simp) (fun _ => dropRecords_coverLaw) (by simp) (by simp))

end Sys2Proof.Machine
end

section
/-! The laws through the operations of the Verdict Unit, the Table Store and the calibration (Machine/Verdict,
Tables, Calibrate). -/

namespace Sys2Proof.Machine

variable {s t : State}

/-! ## Verdict Unit (R72, R83 ~ R97) -/

/-- The valve range over columns runs from its least valve to its greatest (R92). -/
theorem valveRange_ordered {cfg : Configuration} {vmt : List (Option Nat)} {first last : Nat} {v : Nat × Nat}
    (given : valveRange cfg vmt first last = some v) : v.1 ≤ v.2 := by
  obtain ⟨least, greatest⟩ := (valveRange_eq_some_iff cfg vmt first last v.1 v.2).1 given
  have low := List.min?_eq_some_iff.1 least
  exact (List.max?_eq_some_iff.1 greatest).2 _ low.1

theorem bump_laws {c : Counter} (h : s.KeepsLaws t) : s.KeepsLaws (bump c t) := h.same (by simp)

theorem settleReject_laws {o : ObjectRecord} {w : Position × Position} {v : Option (Nat × Nat)}
    (h : s.KeepsLaws t) (ordered : ∀ x ∈ v, x.1 ≤ x.2) : s.KeepsLaws (settleReject o w v t) := by
  cases v with
  | none => exact bump_laws h
  | some x => exact ite_laws (bump_laws h) (handRequest_laws h (ordered x rfl))

theorem complete_laws {o : ObjectRecord} (h : s.KeepsLaws t) : s.KeepsLaws (complete o t) := by
  have counted : s.KeepsLaws (bump (judge t.cmu.config t.tbs.activeBank o).1.counter
      (t.setVdu { t.vdu with evaluating := none })) := h.same (by simp)
  have settled := settleReject_laws (o := o) (w := ejectionWindow t.cmu.config t.lead o) counted fun _ =>
    valveRange_ordered (cfg := t.cmu.config) (vmt := t.tbs.vmt) (first := o.colMin) (last := o.colMax)
  unfold complete
  dsimp only
  split <;> split
  · exact settled.same (by simp)
  · exact counted.same (by simp)
  · exact settled
  · exact counted

theorem evaluationCompletes_laws (h : s.KeepsLaws t) : s.KeepsLaws (evaluationCompletes t) := by
  unfold evaluationCompletes
  split
  next => exact h
  next o _ => exact (complete_laws (o := o) h).same (by simp)

/-! ## Banks (R142, R158) -/

/-- A bank that holds no UNWRITTEN block. -/
def ProductBank.whole (p : ProductBank) : Prop := ∀ x ∈ p.cct, x.state ≠ .unwritten

theorem firstIn_unwritten_iff (p : ProductBank) : p.firstIn .unwritten = none ↔ p.whole := by
  simp [ProductBank.firstIn, ProductBank.whole, List.findIdx?_eq_none_iff]

theorem bankLaw_iff (s : State) :
    s.bankLaw ↔ (s.cmu.engine = .sorting ∨ s.cmu.engine = .draining → s.tbs.activeBank.whole)
      ∧ (s.tbs.swap.isSome = true → s.tbs.standbyBank.whole) := by
  simp only [State.bankLaw, firstIn_unwritten_iff]

/-- A written block replaced by a written one. -/
theorem ProductBank.whole.setBlock {p : ProductBank} (h : p.whole) {n : Nat} {x : CctBlock}
    (written : (p.block n).state ≠ .unwritten → x.state ≠ .unwritten) : (p.setBlock n x).whole := by
  intro y member
  by_cases inside : n < p.cct.length
  · rcases List.mem_or_eq_of_mem_set member with before | rfl
    · exact h y before
    · refine written (h _ ?_)
      simp [ProductBank.block, inside]
  · simp only [ProductBank.setBlock, List.set_eq_of_length_le (Nat.le_of_not_lt inside)] at member
    exact h y member

@[simp] theorem setBank_leaves (x : Tbs) (name : Bank) (p : ProductBank) :
    (x.setBank name p).active = x.active ∧ (x.setBank name p).copy = x.copy
      ∧ (x.setBank name p).swap = x.swap := by
  cases name <;> exact ⟨rfl, rfl, rfl⟩

@[simp] theorem State.setBank_tbs (s : State) (name : Bank) (p : ProductBank) :
    (s.setBank name p).tbs = s.tbs.setBank name p := rfl

@[simp] theorem State.setBlock_tbs (s : State) (name : Bank) (n : Nat) (x : CctBlock) :
    (s.setBlock name n x).tbs = s.tbs.setBank name ((s.tbs.bank name).setBlock n x) := rfl

@[simp] theorem State.setStandby_tbs (s : State) (p : ProductBank) :
    (s.setStandby p).tbs = s.tbs.setBank s.tbs.standby p := rfl

theorem setBank_bank (x : Tbs) (name other : Bank) (p : ProductBank) :
    (x.setBank name p).bank other = if name = other then p else x.bank other := by
  cases name <;> cases other <;> rfl

theorem otherBank_ne (name : Bank) : otherBank name ≠ name := by
  cases name <;> simp [otherBank]

/-- The Table Store changes: no copy and no swap begins, and the banks' law is kept. -/
theorem setTbs_laws {x : Tbs} (h : s.KeepsLaws t) (copy : x.copy.isSome = true → t.tbs.copy.isSome = true)
    (swap : x.swap.isSome = true → t.tbs.swap.isSome = true)
    (banks : s.executingLaw → t.bankLaw → (t.setTbs x).bankLaw) : s.KeepsLaws (t.setTbs x) where
  executing law := executingLaw_of_fewer (h.executing law) rfl fun c works => by
    cases c
    case bankCopy => exact copy works
    case bankSwap => exact swap works
    all_goals exact works
  bank law before := banks law (h.bank law before)
  cover law := h.cover law
  valve law valves := h.valve law valves

/-- A bank is written: a whole active bank stays whole, and so does a whole standby bank under a pending
swap. -/
theorem setBank_laws {name : Bank} {p : ProductBank} (h : s.KeepsLaws t)
    (active : name = t.tbs.active → t.tbs.activeBank.whole → p.whole)
    (standby : s.executingLaw → name = t.tbs.standby → t.tbs.swap.isSome = true → t.tbs.standbyBank.whole →
      p.whole) : s.KeepsLaws (t.setBank name p) := by
  refine setTbs_laws h (by simp) (by simp) fun law banks => ?_
  obtain ⟨first, second⟩ := (bankLaw_iff t).1 banks
  refine (bankLaw_iff _).2 ⟨fun runs => ?_, fun pending => ?_⟩
  · rw [Tbs.activeBank, State.setTbs_tbs, setBank_bank, (setBank_leaves ..).1]
    split
    next same => exact active same (first runs)
    next => exact first runs
  · have waits : t.tbs.swap.isSome = true := by simpa using pending
    rw [Tbs.standbyBank, State.setTbs_tbs, setBank_bank, (setBank_leaves ..).1]
    split
    next same => exact standby law same waits (second waits)
    next => exact second waits

/-- The standby bank is written while no swap is pending. -/
theorem setStandby_laws {p : ProductBank} (h : s.KeepsLaws t)
    (idle : s.executingLaw → t.tbs.swap.isSome = false) : s.KeepsLaws (t.setStandby p) :=
  setBank_laws h (fun same => absurd same (otherBank_ne _)) fun law _ waits _ => by
    rw [idle law] at waits
    cases waits

/-- A written block of a bank is written again. -/
theorem setBlock_laws {name : Bank} {n : Nat} {x : CctBlock} (h : s.KeepsLaws t)
    (written : ((t.tbs.bank name).block n).state ≠ .unwritten → x.state ≠ .unwritten) :
    s.KeepsLaws (t.setBlock name n x) := by
  refine setBank_laws h (fun same whole => ?_) fun _ same _ whole => ?_
  · rw [Tbs.activeBank, ← same] at whole
    exact whole.setBlock written
  · rw [Tbs.standbyBank, ← Tbs.standby, ← same] at whole
    exact whole.setBlock written

theorem changeEntry_laws {name : Bank} {index : Nat} {code : ClassCode} (h : s.KeepsLaws t) :
    s.KeepsLaws (changeEntry name index code t) := setBlock_laws h id

/-! ## BANK_COPY, scrubber (R155, R157) -/

/-- What stands for one command excludes what stands for another (R165). -/
theorem State.executingLaw.none_else (law : s.executingLaw) {c d : Command} (works : s.works c = true)
    (ne : c ≠ d) : s.works d = false := by
  by_contra other
  have both := (executingLaw_iff s).1 law
  have same := (both c works).symm.trans (both d (by simpa using other))
  exact ne (Option.some.inj same)

/-- While a copy is in progress no swap is pending. -/
theorem no_swap_of_copy {p : CopyProgress} (h : s.KeepsLaws t) (copy : t.tbs.copy = some p) (law : s.executingLaw) :
    t.tbs.swap.isSome = false :=
  (h.executing law).none_else (c := .bankCopy) (d := .bankSwap) (by simp [State.works, copy]) (by simp)

theorem copyBlock_laws {p : CopyProgress} (h : s.KeepsLaws t) (copy : t.tbs.copy = some p) :
    s.KeepsLaws (copyBlock p t) :=
  setTbs_laws (setStandby_laws h (no_swap_of_copy h copy)) (by simp [copy]) (by simp)
    fun _ banks => banks

theorem copyTables_laws {p : CopyProgress} (h : s.KeepsLaws t) (copy : t.tbs.copy = some p) :
    s.KeepsLaws (copyTables p t) := by
  unfold copyTables
  dsimp only
  generalize written : t.setStandby
    { t.tbs.standbyBank with
      nbt := t.tbs.activeBank.nbt, rules := t.tbs.activeBank.rules, default := t.tbs.activeBank.default } = u
  have next : s.KeepsLaws u := written ▸ setStandby_laws h (no_swap_of_copy h copy)
  refine endCommand_laws (setTbs_laws next (by simp) id fun _ banks => banks) fun law =>
    ended_of_works (s := u) (c := .bankCopy) ?_ rfl rfl (next.executing law)
  simp [State.works, ← written, copy]

theorem copyStep_laws (h : s.KeepsLaws t) : s.KeepsLaws (copyStep t) := by
  unfold copyStep
  split
  next => exact h
  next copy => exact ite_laws (copyBlock_laws h copy) (copyTables_laws h copy)

/-- A block goes from VALID to BAD, never to UNWRITTEN. -/
theorem scrubBlock_laws (h : s.KeepsLaws t) : s.KeepsLaws (scrubBlock t) := by
  unfold scrubBlock
  dsimp only
  split
  · have marked : s.KeepsLaws (t.setBlock t.tbs.active t.tbs.scrubPointer
        { t.tbs.activeBank.block t.tbs.scrubPointer with state := .bad }) :=
      setBlock_laws h fun _ => by simp
    exact marked.same (by simp)
  · exact h

theorem scrubIfDue_laws (h : s.KeepsLaws t) : s.KeepsLaws (scrubIfDue t) :=
  ite_laws (setTbs_laws (scrubBlock_laws (h.same (by simp))) id id fun _ banks => banks) h

theorem scrubLine_laws (h : s.KeepsLaws t) : s.KeepsLaws (scrubLine t) :=
  ite_laws h (scrubIfDue_laws (h.same (by simp)))

/-! ## BANK_SWAP (R158 ~ R160) -/

/-- A whole standby bank becomes the active one (R158, R160). -/
theorem exchangeBanks_laws (h : s.KeepsLaws t) (whole : t.bankLaw → t.tbs.standbyBank.whole) :
    s.KeepsLaws (exchangeBanks t) := by
  refine bump_laws (setTbs_laws h id (by simp) fun _ banks => ?_)
  exact (bankLaw_iff _).2 ⟨fun _ => whole banks, by simp⟩

/-- A pending swap completes, its standby bank whole (R158, R160). -/
theorem exchange_ends {status : Status} {detail : Nat} (h : s.KeepsLaws t) (pending : t.tbs.swap.isSome = true) :
    s.KeepsLaws (endCommand status detail [] (exchangeBanks t)) :=
  endCommand_laws (exchangeBanks_laws h fun banks => ((bankLaw_iff t).1 banks).2 pending) fun law =>
    ended_of_works (s := t) (c := .bankSwap) pending rfl rfl (h.executing law)

theorem swapAtQuietPoint_laws (h : s.KeepsLaws t) : s.KeepsLaws (swapAtQuietPoint t) := by
  unfold swapAtQuietPoint
  split
  next found =>
    simp only [Bool.and_eq_true] at found
    exact exchange_ends (h.same (by simp)) found.1.2
  next => exact h

theorem swapAtDeadline_laws (h : s.KeepsLaws t) : s.KeepsLaws (swapAtDeadline t) := by
  unfold swapAtDeadline
  split
  next => exact h
  next pending => exact ite_laws (exchange_ends (h.same (by simp)) (by simp [pending])) h

theorem swapCount_laws (h : s.KeepsLaws t) : s.KeepsLaws (swapCount t) := by
  unfold swapCount
  split
  next => exact h
  next pending => exact ite_laws (h.same (by simp [pending])) h

theorem lineBoundary_laws (h : s.KeepsLaws t) : s.KeepsLaws (lineBoundary t) :=
  setTbs_laws (swapCount_laws (swapAtDeadline_laws (swapAtQuietPoint_laws (h.same (by simp))))) id id
    fun _ banks => banks

/-! ## Calibration (R46 ~ R53) -/

/-- The capture state is discarded. -/
theorem dropCapture_clears (t : State) : t.Clears (t.setCapture none) where
  fewer c works := by
    cases c
    case calibrate => cases works
    all_goals exact works
  executing := rfl
  runs := id
  banks := rfl
  rest := rfl

/-- CALIBRATE ends with its capture (R48 ~ R53). -/
theorem endCalibrate_laws {status : Status} {detail : Nat} (h : s.KeepsLaws t) (captures : t.capture.isSome = true) :
    s.KeepsLaws (endCalibrate status detail t) :=
  endCommand_laws (h.clears (dropCapture_clears t)) fun law =>
    ended_of_works (s := t) (c := .calibrate) captures rfl rfl (h.executing law)

theorem completeCalibrate_laws {k : Capture} (h : s.KeepsLaws t) (captures : t.capture.isSome = true) :
    s.KeepsLaws (completeCalibrate k t) := by
  unfold completeCalibrate
  dsimp only
  split
  · exact endCalibrate_laws h captures
  · split
    · exact endCalibrate_laws h captures
    · exact endCalibrate_laws (h.same (by simp)) captures

theorem calibrateIfDone_laws (h : s.KeepsLaws t) : s.KeepsLaws (calibrateIfDone t) := by
  unfold calibrateIfDone
  split
  next => exact h
  next captures => exact ite_laws (completeCalibrate_laws h (by simp [captures])) h

theorem skipLine_laws (h : s.KeepsLaws t) : s.KeepsLaws (skipLine t) := by
  unfold skipLine
  split
  next => exact h
  next k captures =>
    exact ite_laws (endCalibrate_laws h (by simp [captures])) (h.same (by simp [captures]))

theorem skipLines_laws {n : Nat} (h : s.KeepsLaws t) : s.KeepsLaws (skipLines n t) := by
  induction n generalizing t with
  | zero => exact h
  | succ n ih => exact ih (skipLine_laws h)

theorem captureOwn_laws {slot : RingSlot} (h : s.KeepsLaws t) : s.KeepsLaws (captureOwn slot t) := by
  unfold captureOwn
  split
  next => exact h
  next k captures =>
    exact ite_laws h
      (ite_laws (calibrateIfDone_laws (h.same (by simp [captures]))) (skipLine_laws h))

theorem captureSlot_laws {slot : RingSlot} (h : s.KeepsLaws t) : s.KeepsLaws (captureSlot slot t) :=
  captureOwn_laws (skipLines_laws h)

end Sys2Proof.Machine
end

section
/-! The laws through the Object Assembler and the Line Intake Unit (Machine/Assembly, Intake). -/

namespace Sys2Proof.Machine

variable {s t : State}

theorem setOas_laws {x : Oas} (h : s.KeepsLaws t) : s.KeepsLaws (t.setOas x) := h.same (by simp)

/-! ## Assembly of a line (R57 ~ R81) -/

theorem blindRequest_laws {l : LineInAssembly} {r : Run} (h : s.KeepsLaws t) :
    s.KeepsLaws (blindRequest l r t) := by
  unfold blindRequest
  split
  next => exact bump_laws h
  next given => exact bump_laws (handRequest_laws h (valveRange_ordered given))

theorem findsNoSlot_laws {l : LineInAssembly} {r : Run} {full : Bool} (h : s.KeepsLaws t) :
    s.KeepsLaws (findsNoSlot l r full t) := by
  have counted : s.KeepsLaws (bumpBy .unassignedPixels r.pixels t) := h.same (by simp)
  have noted := ite_laws (p := full = true) counted (bump_laws (c := .ootFullEvents) counted)
  exact ite_laws (blindRequest_laws noted) noted

theorem linkRuns_laws {l : LineInAssembly} {runs : List Run} {done : List PlrRun} {full : Bool}
    (h : s.KeepsLaws t) : s.KeepsLaws (linkRuns l runs done full t).2 := by
  induction runs generalizing done full t with
  | nil => exact h
  | cons r rest ih =>
    unfold linkRuns
    split
    · split
      next i _ => exact ih (h.same (by simp) : s.KeepsLaws (createObject l r i t))
      next => exact ih (findsNoSlot_laws h)
    · exact ih (h.same (by simp) : s.KeepsLaws (extendSlot l r _ t))
    · exact ih (h.same (by simp))

theorem assembleLine_laws {l : LineInAssembly} (h : s.KeepsLaws t) : s.KeepsLaws (assembleLine l t) := by
  have linked : s.KeepsLaws (linkRuns l ((scanRuns t.cmu.config.windowFirst none l.classRow).take maxRuns) []
      false (t.setOas { t.oas with lostRun := 0 })).2 :=
    linkRuns_laws (h.same (by simp))
  exact scrubLine_laws (linked.same (by simp))

theorem applyLine_laws {l : LineInAssembly} (h : s.KeepsLaws t) : s.KeepsLaws (applyLine l t) := by
  have lost : s.KeepsLaws (applyLostLines (min 3 l.lostBefore) t) := h.same (by simp)
  exact setOas_laws (assembleLine_laws lost)

/-! ## Ring and delivery (R21, R29, R30, R56, R58) -/

theorem takeSlot_laws {slot : RingSlot} (h : s.KeepsLaws t) : s.KeepsLaws (takeSlot slot t) := by
  have signalled := lineBoundary_laws h
  exact ite_laws (signalled.same (by simp)) (ite_laws (signalled.same (by simp)) (signalled.same (by simp)))

theorem deliverSlot_laws {slot : RingSlot} (h : s.KeepsLaws t) : s.KeepsLaws (deliverSlot slot t) := by
  unfold deliverSlot
  split
  · exact takeSlot_laws h
  · exact captureSlot_laws (h.same (by simp))
  · exact h.same (by simp)
  · exact h
  · exact h

theorem deliver_laws (h : s.KeepsLaws t) : s.KeepsLaws (deliver t) := by
  unfold deliver
  generalize t.liu.busy.length = n
  induction n generalizing t with
  | zero => exact h
  | succ n ih =>
    refine ih ?_
    unfold deliverOne
    split
    · exact deliverSlot_laws h
    · exact h

/-! ## Synchronisation (R26 ~ R36, R49) -/

theorem enterHunt1_laws {cause : HuntCause} {offset : LineNo} (h : s.KeepsLaws t) :
    s.KeepsLaws (enterHunt1 cause offset t) := by
  unfold enterHunt1 leaveLocked
  dsimp only
  split
  next found =>
    simp only [Bool.and_eq_true] at found
    exact endCalibrate_laws (h.same (by simp)) found.2
  next => exact h.same (by simp)

theorem syncLoss_laws (h : s.KeepsLaws t) : s.KeepsLaws (syncLoss t) := by
  unfold syncLoss
  split
  · exact ite_laws (enterHunt1_laws h) (h.same (by simp))
  · exact h.same (by simp)
  · exact h.same (by simp)
  · exact h

theorem settle_laws {x : RingSlot} (h : s.KeepsLaws t) : s.KeepsLaws (settle x t) :=
  ite_laws (h.same (by simp)) (syncLoss_laws (h.same (by simp)))

theorem settleOldest_laws (h : s.KeepsLaws t) : s.KeepsLaws (settleOldest t) := by
  unfold settleOldest
  split
  · exact deliver_laws (settle_laws h)
  · exact h

theorem settleDue_laws (h : s.KeepsLaws t) : s.KeepsLaws (settleDue t) := by
  have marked : s.KeepsLaws (t.setLiu
      { t.liu with busy := t.liu.busy.map (markDue t.cmu.config.latencyLines t.bpu.line) }) := h.same (by simp)
  unfold settleDue
  revert marked
  generalize t.setLiu { t.liu with busy := t.liu.busy.map (markDue t.cmu.config.latencyLines t.bpu.line) } = u
  generalize t.liu.busy.length = n
  intro marked
  induction n generalizing u with
  | zero => exact marked
  | succ n ih => exact ih _ (settleOldest_laws marked)

/-! ## Allocation and LINE frames (R22 ~ R28, R35) -/

theorem intakeTrigger_laws (h : s.KeepsLaws t) : s.KeepsLaws (intakeTrigger t) := by
  have settled := settleDue_laws h
  have hunted : s.KeepsLaws (if t.liu.sync = .locked then settleDue t else huntAdvance (settleDue t)) :=
    ite_laws settled (settled.same (by simp))
  exact ite_laws (ite_laws (hunted.same (by simp)) hunted) h

theorem fillSlot_laws {part : List (Nat × Sample)} {x : RingSlot} (h : s.KeepsLaws t) :
    s.KeepsLaws (fillSlot part x t) :=
  ite_laws (deliver_laws (h.same (by simp))) (h.same (by simp))

theorem intakeFrame_laws {payload : List Byte} (h : s.KeepsLaws t) : s.KeepsLaws (intakeFrame payload t) := by
  unfold intakeFrame
  dsimp only
  split
  next =>
    unfold matchFrame
    dsimp only
    split
    next => exact syncLoss_laws (h.same (by simp))
    next =>
      split
      next => exact fillSlot_laws (h.same (by simp))
      next => exact h.same (by simp)
  next => exact h

/-! ## Completion of a line's assembly (R57, R76) -/

theorem assemblyCompletes_laws (h : s.KeepsLaws t) : s.KeepsLaws (assemblyCompletes t) := by
  unfold assemblyCompletes
  split
  next => exact h
  next l _ =>
    have applied := applyLine_laws (l := l) h
    exact deliver_laws (applied.same (by simp))

theorem closeAllFirst_laws (h : s.KeepsLaws t) : s.KeepsLaws (closeAllFirst t) :=
  ite_laws (deliver_laws (h.same (by simp))) h

end Sys2Proof.Machine
end

section
/-! The laws through the changes of engine state, the belt and the resets (Machine/Engine, Belt, Reset). -/

namespace Sys2Proof.Machine

variable {p s t u : State}

/-! ## FAULT entry, the drain, the end of an event (R172 ~ R176) -/

/-- The Command Unit changes: nothing comes to stand for a command that does not execute, and the banks' law is
kept. -/
theorem setCmu_laws {x : Cmu} (h : s.KeepsLaws t) (executing : t.executingLaw → (t.setCmu x).executingLaw)
    (banks : t.bankLaw → (t.setCmu x).bankLaw) : s.KeepsLaws (t.setCmu x) where
  executing law := executing (h.executing law)
  bank law before := banks (h.bank law before)
  cover law := h.cover law
  valve law valves := h.valve law valves

theorem setLiu_laws {x : Liu} (h : s.KeepsLaws t) : s.KeepsLaws (t.setLiu x) := h.same (by simp)

/-- The engine takes a state in which no line is sorted; the command it executes goes on. -/
theorem setCmu_clears {x : Cmu} (executing : x.executing = t.cmu.executing)
    (rests : x.engine ≠ .sorting ∧ x.engine ≠ .draining) : t.Clears (t.setCmu x) where
  fewer c works := by
    cases c
    case stop => exact absurd (of_decide_eq_true works) rests.2
    all_goals exact works
  executing := executing
  runs running := absurd running (not_or.2 rests)
  banks := rfl
  rest := rfl

/-- The copy stops where it stands. -/
theorem dropCopy_clears (t : State) : t.Clears (t.setTbs { t.tbs with copy := none }) where
  fewer c works := by
    cases c
    case bankCopy => cases works
    all_goals exact works
  executing := rfl
  runs := id
  banks := rfl
  rest := rfl

/-- The pending swap is cancelled. -/
theorem dropSwap_clears (t : State) : t.Clears (t.setTbs { t.tbs with swap := none }) where
  fewer c works := by
    cases c
    case bankSwap => cases works
    all_goals exact works
  executing := rfl
  runs := id
  banks := rfl
  rest := rfl

/-- The executing command ends, what it works on given up. -/
theorem endOwn_laws {c : Command} {status : Status} {detail : Nat} {data : List Byte} (h : s.KeepsLaws t)
    (own : t.executed = some c) (e : t.Clears u) (gone : u.works c = false) :
    s.KeepsLaws (endCommand status detail data u) := by
  refine endCommand_laws (h.clears e) fun _ d executed => ?_
  rw [State.executed, e.executing, ← State.executed, own] at executed
  cases executed
  exact gone

/-- The executing command ends with ABORTED; a STOP only once the engine has left DRAINING (R173, R175). -/
theorem endAborted_laws (h : s.KeepsLaws t) (drains : t.executed = some .stop → t.cmu.engine ≠ .draining) :
    s.KeepsLaws (endAborted t) := by
  unfold endAborted
  split
  next => exact h
  next e executes =>
    have own : t.executed = some e.command := by simp [State.executed, executes]
    split
    next kind => exact endOwn_laws h (own.trans (congrArg some kind)) (dropCapture_clears t) rfl
    next kind => exact endOwn_laws h (own.trans (congrArg some kind)) (dropCopy_clears t) rfl
    next kind => exact endOwn_laws h (own.trans (congrArg some kind)) (dropSwap_clears t) rfl
    next kind => exact abortTest_laws h (own.trans (congrArg some kind))
    next calibrate bankCopy bankSwap valveTest =>
      refine endOwn_laws h own ⟨fun _ => id, rfl, id, rfl, rfl⟩ ?_
      cases kind : e.command
      case stop => simpa [State.works] using drains (own.trans (congrArg some kind))
      all_goals simp_all [State.works]

theorem faultEffects_laws {c : FaultCause} (h : s.KeepsLaws t) : s.KeepsLaws (faultEffects c t) := by
  have entered : s.KeepsLaws (t.setCmu
      { t.cmu with engine := .fault, cause := some c, causes := t.cmu.causes.erase c }) :=
    h.clears (setCmu_clears rfl (by simp))
  have emptied : s.KeepsLaws (abandonVerdicts (emptyAssembler (t.setCmu
      { t.cmu with engine := .fault, cause := some c, causes := t.cmu.causes.erase c }))) :=
    entered.same (by simp)
  exact setLiu_laws ((flush_laws emptied).same (by simp))

theorem notice_laws {n : Notice} (h : s.KeepsLaws t) : s.KeepsLaws (notice n t) := h.same (by simp)

theorem enterFault_laws {c : FaultCause} (h : s.KeepsLaws t) : s.KeepsLaws (enterFault c t) := by
  have fault : (faultEffects c t).cmu.engine = .fault := by simp [faultEffects]
  exact notice_laws (endAborted_laws (faultEffects_laws h) fun _ => by simp [fault])

theorem takeLater_laws {c : FaultCause} (h : s.KeepsLaws t) : s.KeepsLaws (takeLater c t) :=
  ite_laws (h.same (by simp)) h

theorem takeCause_laws {c : FaultCause} (h : s.KeepsLaws t) : s.KeepsLaws (takeCause c t) :=
  ite_laws (enterFault_laws h) h

/-- The drain has run out: the engine leaves DRAINING and STOP ends (R172). -/
theorem runOut_laws (h : s.KeepsLaws t) (drains : t.cmu.engine = .draining) : s.KeepsLaws (runOut t) :=
  endCommand_laws (h.clears (setCmu_clears rfl (by simp))) fun law =>
    ended_of_works (s := t) (c := .stop) (by simpa [State.works] using drains) rfl rfl (h.executing law)

theorem drainRunsOut_laws (h : s.KeepsLaws t) : s.KeepsLaws (drainRunsOut t) := by
  unfold drainRunsOut
  split
  next found =>
    simp only [Bool.and_eq_true, decide_eq_true_eq] at found
    exact runOut_laws h found.1
  next => exact h

theorem finish_laws (h : s.KeepsLaws t) : s.KeepsLaws (finish t) := by
  unfold finish
  split
  next =>
    split
    · exact enterFault_laws h
    · exact h
  next drains =>
    split
    · exact ite_laws (runOut_laws h drains) h
    · exact ite_laws h (enterFault_laws h)
    · exact h
  next => exact h
  next => exact h
  next => exact h

/-! ## START, STOP, ABORT, CLEAR_FAULT, CONFIGURE (R168 ~ R177) -/

/-- SORTING is entered with the active bank whole (R170). -/
theorem startSorting_laws (h : s.KeepsLaws t) (whole : t.tbs.activeBank.whole) : s.KeepsLaws (startSorting t) := by
  have sorts : s.KeepsLaws (t.setEngine .sorting) := by
    refine setCmu_laws h (fun law => ?_) fun banks => ?_
    · refine executingLaw_of_fewer law rfl fun c works => ?_
      cases c
      case stop => cases works
      all_goals exact works
    · exact (bankLaw_iff _).2 ⟨fun _ => whole, ((bankLaw_iff t).1 banks).2⟩
  exact deliver_laws (sorts.same (by simp))

/-- DRAINING is entered from SORTING, STOP executing (R171). -/
theorem stopSorting_laws {tag : Word16} (h : s.KeepsLaws t) (idle : t.cmu.executing = none)
    (sorts : t.cmu.engine = .sorting) : s.KeepsLaws (stopSorting tag t) := by
  have drains : s.KeepsLaws (beginCommand .stop tag (t.setEngine .draining)) := by
    refine setCmu_laws (t := t) h (fun law => ?_) fun banks => ?_
    · refine executingLaw_of_begin law idle rfl fun c works => ?_
      cases c
      case stop => exact .inl rfl
      all_goals exact .inr works
    · obtain ⟨first, second⟩ := (bankLaw_iff t).1 banks
      exact (bankLaw_iff _).2 ⟨fun _ => first (.inl sorts), second⟩
  exact deliver_laws (drains.same (by simp))

theorem flushDrain_laws (h : s.KeepsLaws t) : s.KeepsLaws (flushDrain t) := by
  have abandoned : s.KeepsLaws (abandonVerdicts (abandonClosing t)) := h.same (by simp)
  exact (flush_laws abandoned).clears (setCmu_clears rfl (by simp))

theorem abortExecuting_laws (h : s.KeepsLaws t) : s.KeepsLaws (abortExecuting t) := by
  unfold abortExecuting
  split
  next => exact endAborted_laws (flushDrain_laws h) fun _ => by simp [flushDrain]
  next other => exact endAborted_laws h fun stops => absurd ((executes_iff _ _).2 stops) other

/-- The belt leaves REVERSING at the blocks, and the valves are handed its new state (R19, R177). -/
theorem clearFault_laws (h : s.KeepsLaws t) : s.KeepsLaws (clearFault t) := by
  have standby : t.KeepsLaws (t.setCmu { t.cmu with engine := .standby, cause := none, causes := [] }) :=
    (State.KeepsLaws.refl t).clears (setCmu_clears rfl (by simp))
  exact enterHunt1_laws (handOver_laws h (((State.Moves.refl h).keeps standby.toKeepsOrders rfl rfl).same (by simp) (by simp)))

end Sys2Proof.Machine
end

section
/-! The laws through CONFIGURE, the belt and the resets (Machine/Engine, Belt, Reset). -/

namespace Sys2Proof.Machine

variable {p s t : State}

/-! ## CONFIGURE (R18, R38, R157, R168) -/

@[simp] theorem configureBelt_beltState (old new : Configuration) (s : State) :
    (configureBelt old new s).bpu.beltState = s.bpu.beltState := by
  unfold configureBelt
  dsimp only
  split <;> rfl

/-- A lowered debt leaves REVERSING; before it no count held a valve ON (R18, R122). -/
theorem configureDebt_laws {new : Configuration} (h : s.KeepsLaws t) :
    s.KeepsLaws (configureDebt new t) := by
  unfold configureDebt
  split
  next lowered =>
    refine h.valves (by simp) fun law i inside => fun on => ?_
    have reverses : t.bpu.beltState ≠ .moving := by
      simp [Bpu.beltState, Nat.zero_lt_of_lt lowered]
    have before := law i inside (by simpa [State.valve] using on)
    have tests := before.resolve_left fun moves => reverses moves.2
    exact .inr (by simpa using tests)
  next => exact h

theorem configure_laws {new : Configuration} (h : s.KeepsLaws t) : s.KeepsLaws (configure new t) := by
  have belt : s.KeepsLaws (configureBelt t.cmu.config new (t.setCmu { t.cmu with config := new })) := h.same (by simp)
  have intake : s.KeepsLaws (configureIntake t.cmu.config new (configureDebt new
      (configureBelt t.cmu.config new (t.setCmu { t.cmu with config := new })))) :=
    (configureDebt_laws (new := new) belt).same (by simp)
  exact ite_laws intake (setTbs_laws intake id id fun _ banks => banks)

/-! ## Index check and line triggers (R9 ~ R15) -/

/-- Of the belt the laws read its state alone. -/
theorem setBpu_laws {x : Bpu} (h : s.KeepsLaws t) (belt : x.beltState = t.bpu.beltState) :
    s.KeepsLaws (t.setBpu x) := h.same (by simp [belt])

theorem mismatch_laws {counted : Option Nat} (h : s.KeepsLaws t) : s.KeepsLaws (mismatch counted t) := by
  have slipped : s.KeepsLaws (notice (.encoderSlip counted (t.bpu.mismatchRun + 1)) (bump .encoderSlips t)) :=
    h.same (by simp)
  exact ite_laws (setBpu_laws (slipped.same (by simp)) rfl) (setBpu_laws slipped rfl)

theorem missingIndexTest_laws (h : s.KeepsLaws t) : s.KeepsLaws (missingIndexTest t) :=
  ite_laws (setBpu_laws (mismatch_laws h) rfl) h

theorem lineTriggerTest_laws (h : s.KeepsLaws t) : s.KeepsLaws (lineTriggerTest t) :=
  ite_laws (intakeTrigger_laws (bump_laws (setBpu_laws h rfl))) h

/-! ## Belt events (R3 ~ R8): the hand-over at the end -/

theorem advance_moves (m : p.Moves s t) : p.Moves s (advance t) := by
  have stepped : p.Moves s (missingIndexTest (stepTravel t)) := m.same (by simp) (by simp)
  refine ejectionAdvance_moves (stepped.keeps ?_ (by simp) (by simp))
  exact (lineTriggerTest_laws (.refl _)).toKeepsOrders

theorem decodePair_moves {old new : Bool × Bool} (m : p.Moves s t) : p.Moves s (decodePair old new t) := by
  unfold decodePair
  split
  · exact m
  · split
    · exact bump_moves m
    · split
      · unfold forwardEdge
        split
        · exact m.same (by simp) (by simp)
        · exact advance_moves m
      · exact m.same (by simp) (by simp)

theorem acceptLevels_moves {acc : Accepted} (m : p.Moves s t) : p.Moves s (acceptLevels acc t) := by
  cases acc with
  | a level => exact decodePair_moves (m.same (by simp) (by simp))
  | b level => exact decodePair_moves (m.same (by simp) (by simp))
  | ab levelA levelB => exact decodePair_moves (m.same (by simp) (by simp))
  | z level =>
    have accepted : p.Moves s (acceptZ level t) := m.same (by simp) (by simp)
    unfold acceptLevels
    dsimp only
    split
    · exact accepted.same (by simp) (by simp)
    · exact accepted

/-- A belt event ends with the hand-over (R8, R114). -/
theorem beltEvent_laws {f : State → State} (h : p.KeepsLaws t) (event : p.Moves t (f t)) :
    p.KeepsLaws (beltEvent f t) := finish_laws (handOver_laws h event)

theorem acceptAtOnce_laws {acc : Accepted} (h : p.KeepsLaws t) : p.KeepsLaws (acceptAtOnce acc t) :=
  ite_laws (beltEvent_laws h (acceptLevels_moves (.refl h))) h

theorem seeA_laws {level : Bool} (h : p.KeepsLaws t) : p.KeepsLaws (seeA level t) :=
  ite_laws h (ite_laws (setBpu_laws h rfl) (acceptAtOnce_laws (setBpu_laws h rfl)))

theorem seeB_laws {level : Bool} (h : p.KeepsLaws t) : p.KeepsLaws (seeB level t) :=
  ite_laws h (ite_laws (setBpu_laws h rfl) (acceptAtOnce_laws (setBpu_laws h rfl)))

theorem seeZ_laws {level : Bool} (h : p.KeepsLaws t) : p.KeepsLaws (seeZ level t) :=
  ite_laws h (ite_laws (setBpu_laws h rfl) (acceptAtOnce_laws (setBpu_laws h rfl)))

theorem stallExpires_moves (m : p.Moves s t) : p.Moves s (stallExpires t) := m.same (by simp) (by simp)

/-! ## Resets (R20, R39, R54, R82, R99, R120, R141, R162, R178, R191, R198) -/

/-- A reset leaves nothing to execute, every valve IDLE and every record dropped. -/
theorem resetBlocks_laws {tbs : Tbs} {config : Configuration} {lki : Lki} (copy : tbs.copy = none)
    (swap : tbs.swap = none) : s.KeepsLaws (resetBlocks tbs config lki t) where
  executing _ := by simp [State.executingLaw, resetBlocks, Vlc.reset, Cmu.reset, copy, swap]
  bank _ _ := by simp [State.bankLaw, resetBlocks, Cmu.reset, swap]
  cover _ := reset_coverLaw
  valve _ _ := reset_valveLaw

theorem powerOnReset_laws : s.KeepsLaws (powerOnReset t) := resetBlocks_laws rfl rfl

theorem linkReset_laws : s.KeepsLaws (linkReset t) := resetBlocks_laws rfl rfl

end Sys2Proof.Machine
end

section
/-! The laws through the commands and the link (Machine/Commands, Link), and through every row of the table and
the passing of time. -/

namespace Sys2Proof.Machine

variable {s t u : State}

/-! ## What an accepted command does (R129 ~ R131, R149 ~ R177) -/

theorem respond_laws {code : Byte} {tag : Word16} {status : Status} {detail : Nat} {data : List Byte}
    (h : s.KeepsLaws t) : s.KeepsLaws (respond code tag status detail data t) := h.same (by simp)

theorem answer_laws {c : Command} {tag : Word16} {status : Status} {detail : Nat} {data : List Byte}
    (h : s.KeepsLaws t) : s.KeepsLaws (answer c tag status detail data t) := respond_laws h

/-- A command begins where none executes; only what belongs to it comes to stand. -/
theorem beginCommand_laws {c : Command} {tag : Word16} (h : s.KeepsLaws t) (idle : t.cmu.executing = none)
    (own : ∀ d, u.works d = true → d = c ∨ t.works d = true) (banks : t.bankLaw → u.bankLaw)
    (cover : t.coverLaw → u.coverLaw) (valves : t.executingLaw → t.valveLaw → u.valveLaw) :
    s.KeepsLaws (beginCommand c tag u) where
  executing law := executingLaw_of_begin (h.executing law) idle rfl fun d works => own d works
  bank law before := banks (h.bank law before)
  cover law := cover (h.cover law)
  valve law before := valves (h.executing law) (h.valve law before)

theorem doReadCounters_laws {tag : Word16} {p : List Byte} (h : s.KeepsLaws t) :
    s.KeepsLaws (doReadCounters tag p t) := by
  have cleared : s.KeepsLaws (clearCounters t) := h.same (t := t) (u := t.setRpu _) (by simp)
  exact answer_laws (ite_laws cleared h)

theorem doAbort_laws {tag : Word16} (h : s.KeepsLaws t) : s.KeepsLaws (doAbort tag t) := by
  unfold doAbort
  split
  · exact answer_laws h
  · exact answer_laws (abortExecuting_laws h)

theorem doBlockMark_laws {tag : Word16} {p : List Byte} (h : s.KeepsLaws t) :
    s.KeepsLaws (doBlockMark tag p t) := by
  have marked {name : Bank} {n : Nat} {st : BlockState} (written : st ≠ .unwritten) :
      s.KeepsLaws (t.setBlock name n { (t.tbs.bank name).block n with state := st }) :=
    setBlock_laws h fun _ => written
  exact ite_laws (answer_laws h)
    (ite_laws (ite_laws (answer_laws (marked (by simp))) (answer_laws (marked (by simp))))
      (answer_laws (marked (by simp))))

theorem enableIfCool_laws {tag : Word16} {i : Nat} (h : s.KeepsLaws t) : s.KeepsLaws (enableIfCool tag i t) :=
  ite_laws (answer_laws (enableValve_laws h)) (answer_laws h)

theorem doEnable_laws {tag : Word16} {i : Nat} (h : s.KeepsLaws t) : s.KeepsLaws (doEnable tag i t) := by
  unfold doEnable
  split
  · exact answer_laws h
  · exact answer_laws h
  · exact answer_laws h
  · exact enableIfCool_laws h
  · exact enableIfCool_laws h
  · exact ite_laws (answer_laws h) (enableIfCool_laws h)

theorem doValveControl_laws {tag : Word16} {p : List Byte} (h : s.KeepsLaws t) :
    s.KeepsLaws (doValveControl tag p t) :=
  ite_laws (doEnable_laws h) (answer_laws (disableValve_laws h))

theorem doStart_laws {tag : Word16} (h : s.KeepsLaws t) : s.KeepsLaws (doStart tag t) := by
  unfold doStart
  split
  next => exact answer_laws h
  next whole =>
    exact ite_laws (ite_laws
      (ite_laws (answer_laws (startSorting_laws h ((firstIn_unwritten_iff _).1 whole))) (answer_laws h))
      (answer_laws h)) (answer_laws h)

/-! ## Commands that find no command executing (R164, R165) -/

section idle

variable (h : s.KeepsLaws t) (idle : t.cmu.executing = none)

include h idle

/-- With no command executing no swap is pending. -/
theorem no_swap_of_idle (law : s.executingLaw) : t.tbs.swap.isSome = false :=
  (h.executing law).none_works idle .bankSwap

theorem doCctFill_laws {tag : Word16} {p : List Byte} : s.KeepsLaws (doCctFill tag p t) :=
  answer_laws (setStandby_laws h (no_swap_of_idle h idle))

theorem doNbtWrite_laws {tag : Word16} {p : List Byte} : s.KeepsLaws (doNbtWrite tag p t) :=
  answer_laws (setStandby_laws h (no_swap_of_idle h idle))

theorem doRrtWrite_laws {tag : Word16} {p : List Byte} : s.KeepsLaws (doRrtWrite tag p t) :=
  answer_laws (setStandby_laws h (no_swap_of_idle h idle))

theorem doBankCopy_laws {tag : Word16} : s.KeepsLaws (doBankCopy tag t) := by
  refine beginCommand_laws h idle (fun d works => ?_) id id fun _ => id
  cases d
  case bankCopy => exact .inl rfl
  all_goals exact .inr works

theorem doBankSwap_laws {tag : Word16} {p : List Byte} : s.KeepsLaws (doBankSwap tag p t) := by
  unfold doBankSwap
  split
  next => exact answer_laws h
  next written =>
    have whole := (firstIn_unwritten_iff _).1 written
    split
    next => exact answer_laws h
    next =>
      refine ite_laws (beginCommand_laws h idle (fun d works => ?_) (fun banks => ?_) id fun _ => id)
        (answer_laws (exchangeBanks_laws h fun _ => whole))
      · cases d
        case bankSwap => exact .inl rfl
        all_goals exact .inr works
      · exact (bankLaw_iff _).2 ⟨((bankLaw_iff t).1 banks).1, fun _ => whole⟩

theorem doCalibrate_laws {tag : Word16} : s.KeepsLaws (doCalibrate tag t) := by
  refine ite_laws (ite_laws (beginCommand_laws h idle (fun d works => ?_) id id fun _ => id)
    (answer_laws h)) (answer_laws h)
  cases d
  case calibrate => exact .inl rfl
  all_goals exact .inr works

/-- The test that begins is the only one, so that a valve that stands without it stands with it (R131). -/
theorem doValveTest_laws {tag : Word16} {p : List Byte} : s.KeepsLaws (doValveTest tag p t) := by
  refine ite_laws (ite_laws (onTest_laws
    (beginCommand_laws h idle (fun d works => ?_) id id fun law valves => ?_)) (answer_laws h)) (answer_laws h)
  · cases d
    case valveTest => exact .inl rfl
    all_goals exact .inr works
  · have none_runs : t.vlc.test = none := by
      simpa [State.works] using law.none_works idle .valveTest
    intro i inside on
    refine .inl ((valves i inside on).resolve_right ?_)
    simp [Vlc.tests, none_runs]

end idle

/-! ## Reception of a command (R164, R182, R194) -/

theorem acceptCommand_laws {c : Command} {tag : Word16} {p : List Byte} (h : s.KeepsLaws t)
    (idle : c.sequenced = true → t.cmu.executing = none) (taken : c.takenIn t.cmu.engine = true) :
    s.KeepsLaws (acceptCommand c tag p t) := by
  cases c with
  | nop => exact answer_laws h
  | readStatus => exact answer_laws h
  | readCounters => exact doReadCounters_laws h
  | readConfig => exact answer_laws h
  | blockRead => exact answer_laws h
  | abort => exact doAbort_laws h
  | resync => exact answer_laws (enterHunt1_laws h)
  | configure => exact answer_laws (configure_laws h)
  | cctWrite => exact ite_laws (answer_laws (setBlock_laws h fun _ => by simp)) (answer_laws h)
  | cctFill => exact doCctFill_laws h (idle rfl)
  | nbtWrite => exact doNbtWrite_laws h (idle rfl)
  | rrtWrite => exact doRrtWrite_laws h (idle rfl)
  | vmtWrite => exact answer_laws (setTbs_laws h id id fun _ banks => banks)
  | ccalWrite => exact answer_laws (setTbs_laws h id id fun _ banks => banks)
  | blockMark => exact doBlockMark_laws h
  | bankCopy => exact doBankCopy_laws h (idle rfl)
  | bankSwap => exact doBankSwap_laws h (idle rfl)
  | calibrate => exact doCalibrate_laws h (idle rfl)
  | start => exact doStart_laws h
  | stop => exact stopSorting_laws h (idle rfl) (of_decide_eq_true taken)
  | clearFault => exact answer_laws (clearFault_laws h)
  | valveControl => exact doValveControl_laws h
  | valveTest => exact doValveTest_laws h (idle rfl)

theorem testCommand_laws {c : Command} {tag : Word16} {p : List Byte} (h : s.KeepsLaws t) :
    s.KeepsLaws (testCommand c tag p t) := by
  unfold testCommand
  split
  next => exact answer_laws h
  next =>
    split
    next => exact answer_laws h
    next taken =>
      split
      next => exact answer_laws h
      next free =>
        split
        next => exact answer_laws h
        next =>
          refine acceptCommand_laws h (fun sequenced => ?_) (by simpa using taken)
          cases executes : t.cmu.executing with
          | none => rfl
          | some e => exact (free e sequenced executes).elim

theorem commandFrame_laws {hdr : Header} {payload : List Byte} (h : s.KeepsLaws t) :
    s.KeepsLaws (commandFrame hdr payload t) := by
  refine ite_laws (ite_laws (bump_laws h) ?_) h
  unfold receiveCommand
  split
  · exact respond_laws h
  · split
    · exact respond_laws h
    · exact testCommand_laws h

/-! ## The link (R179 ~ R190) -/

/-- The engine that an ENUM numbers becomes STANDBY (R183). -/
theorem enumerate_laws {n : Nat} (h : s.KeepsLaws t) : s.KeepsLaws (enumerate n t) := by
  unfold enumerate
  split
  · exact ite_laws (enterHunt1_laws (h.clears (setCmu_clears rfl (by simp)))) h
  · exact ite_laws (ite_laws h (h.same (by simp))) (notice_laws h)

theorem localAction_laws {f : Frame} (h : s.KeepsLaws t) : s.KeepsLaws (localAction f t) :=
  ite_laws (intakeFrame_laws h)
    (ite_laws (commandFrame_laws h)
      (ite_laws (ite_laws (enumerate_laws h) h)
        (ite_laws (ite_laws linkReset_laws h)
          (ite_laws (ite_laws (h.same (by simp)) h) h))))

theorem receiveDi_laws {f : Frame} (h : s.KeepsLaws t) : s.KeepsLaws (receiveDi f t) :=
  ite_laws (finish_laws (localAction_laws (h.same (by simp)))) (h.same (by simp))

theorem receiveNotGood_laws {lane : Lane} {bytes : List Byte} {cut : Bool} (h : s.KeepsLaws t) :
    s.KeepsLaws (receiveNotGood lane bytes cut t) := by
  unfold receiveNotGood
  split
  · exact receiveDi_laws h
  · exact h.same (by simp)
  · exact h.same (by simp)
  · exact bump_laws h

/-! ## Every row of the table -/

/-- What a step makes of a state that keeps the laws keeps them. -/
theorem of_next_laws (h : s.KeepsLaws u) :
    ∀ v, (Host.Outcome.next u : Host.Outcome State Fault Refusal) = .next v → s.KeepsLaws v := by
  rintro v ⟨⟩
  exact h

/-- A command that stops on an operand out of range makes no state. -/
theorem of_ite_fault_laws {p : Prop} [Decidable p] {r : Fault} (h : s.KeepsLaws u) :
    ∀ v, (if p then .next u else .fault r : Host.Outcome State Fault Refusal) = .next v → s.KeepsLaws v := by
  intro v hv
  split at hv
  · exact of_next_laws h v hv
  · cases hv

/-- Every command keeps the laws. The rows that are frames on DI, the commands of section 9.4 among them, are
one reception. -/
theorem exec_laws (c : Instr) (s : State) : ∀ t, exec c s = .next t → s.KeepsLaws t := by
  have h := State.KeepsLaws.refl s
  cases c with
  | encoderEdgeAccepted acc => exact of_next_laws (beltEvent_laws h (acceptLevels_moves (.refl h)))
  | stallTimerExpiry => exact of_next_laws (beltEvent_laws h (stallExpires_moves (.refl h)))
  | missingIndex => exact of_next_laws (finish_laws (missingIndexTest_laws h))
  | lineTrigger => exact of_next_laws (finish_laws (lineTriggerTest_laws h))
  | slotDue => exact of_next_laws (finish_laws (settleOldest_laws h))
  | huntTimeout => exact of_next_laws (finish_laws (h.same (by simp)))
  | slotDelivery => exact of_next_laws (finish_laws (deliver_laws h))
  | calibrateCompletion => exact of_next_laws (calibrateIfDone_laws h)
  | lineAssemblyCompletion => exact of_next_laws (finish_laws (assemblyCompletes_laws h))
  | closeAll => exact of_next_laws (finish_laws (closeAllFirst_laws h))
  | closingToVq => exact of_next_laws (finish_laws (h.same (by simp)))
  | vqTake => exact of_next_laws (finish_laws (h.same (by simp)))
  | evaluationCompletion => exact of_next_laws (finish_laws (evaluationCompletes_laws h))
  | ejectionRequest src => exact of_next_laws (finish_laws (takeFrom_laws h))
  | holdoffExpiry valve => exact of_ite_fault_laws (holdoffExpires_laws h)
  | thermalTick => exact of_next_laws (thermalTick_laws h)
  | valveTrip valve => exact of_ite_fault_laws (trip_laws h)
  | valveTestExpiry => exact of_next_laws (endTestOff_laws h)
  | imageStart => exact of_next_laws (ite_laws (h.same (by simp)) h)
  | imageTransmissionEnd => exact of_next_laws (ite_laws (h.same (by simp)) h)
  | statusFrame bytes => exact of_next_laws (statusArrives_laws h)
  | answerWindowClose => exact of_next_laws (ite_laws (finish_laws (windowCloses_laws h)) h)
  | bankCopyStep => exact of_next_laws (copyStep_laws h)
  | swapAtQuietPoint => exact of_next_laws (swapAtQuietPoint_laws h)
  | swapForced => exact of_next_laws (swapAtDeadline_laws h)
  | scrubCheck => exact of_next_laws (scrubIfDue_laws h)
  | drainRunOut => exact of_next_laws (drainRunsOut_laws h)
  | faultEntry cause => exact of_next_laws (takeCause_laws h)
  | laterCause cause => exact of_next_laws (takeLater_laws h)
  | frameNotGood lane bytes cut => exact of_next_laws (receiveNotGood_laws h)
  | pauseTimerExpiry => exact of_next_laws (h.same (by simp))
  | passBufferEntry f => exact of_next_laws (h.same (by simp))
  | pauseRepeatExpiry => exact of_next_laws (h.same (by simp))
  | doFrameBoundary => exact of_next_laws (h.same (by simp))
  | roTransmissionEnd => exact of_next_laws (h.same (by simp))
  | silenceTimerExpiry => exact of_next_laws (finish_laws (h.same (by simp)))
  | powerOnReset => exact of_next_laws powerOnReset_laws
  | encoderInputChange ch level =>
    cases ch with
    | a => exact of_next_laws (seeA_laws h)
    | b => exact of_next_laws (seeB_laws h)
    | z => exact of_next_laws (seeZ_laws h)
  | diSymbolReceived sym => exact of_next_laws (h.same (by simp))
  | cctEntryChange name index code => exact of_ite_fault_laws (changeEntry_laws h)
  | _ => exact of_next_laws (receiveDi_laws h)

/-- The passing of 0.1 us keeps the laws: time left is not read (log 3). -/
theorem tick_laws (s : State) : s.KeepsLaws (tick s) := by
  have tested : (tick s).vlc.test.map ValveTest.valve = s.vlc.test.map ValveTest.valve := by
    cases test : s.vlc.test <;> simp [tick, Vlc.tick, test]
  refine (State.KeepsLaws.refl s).same ⟨⟨⟨rfl, rfl, rfl, rfl, rfl, rfl, rfl, rfl, tested⟩, rfl, ?_⟩, rfl, ?_⟩
  all_goals simp [tick, Vlc.tick, Function.comp_def]

/-- Every step keeps the laws: a command runs on the state with the queue's rest, which meets the laws the state
before it meets. -/
theorem step_laws {s t : State} (h : step s = .next t) : s.KeepsLaws t := by
  unfold step at h
  split at h
  next => exact of_next_laws (tick_laws s) t h
  next c rest _ =>
    have keeps := exec_laws c (s.setPending rest) t h
    exact ⟨⟨keeps.executing, keeps.bank, keeps.cover⟩, keeps.valve⟩

/-- Settles O58: a step is a chain of operations that each carry `State.KeepsLaws` on. -/
theorem stepKeepsTheValveLaw : Obligations.StepKeepsTheValveLaw := by
  unfold Obligations.StepKeepsTheValveLaw
  exact ⟨fun _ _ law valves hs => ⟨(step_laws hs).executing law, (step_laws hs).valve law valves⟩,
    fun _ _ law hs => (step_laws hs).cover law, fun _ _ law banks hs => (step_laws hs).bank law banks⟩

end Sys2Proof.Machine
end

section
/-! VALVE_CONTROL by the valve's state (R129, R130): the disable, and the rows of R130's table. -/

namespace Sys2Proof.Machine

variable {h : Header} {params : List Byte} {s : State} {i : Nat}

/-- An accepted VALVE_CONTROL takes its effect in the state that has heard it. -/
theorem exec_valveControl_of_accepts (accepted : s.accepts .valveControl h params) :
    exec (.valveControlDisable h params) s
        = .next (finish (doValveControl h.tag params (s.heardCommand .valveControl h params)))
      ∧ exec (.valveControlEnable h params) s
        = .next (finish (doValveControl h.tag params (s.heardCommand .valveControl h params))) := by
  have received := congrArg (Host.Outcome.next (φ := Fault) (ρ := Refusal)) (receiveDi_of_accepts accepted)
  exact ⟨received, received⟩

/-- Hearing a command leaves every valve. -/
@[simp] theorem heardCommand_valve (c : Command) (h : Header) (params : List Byte) (s : State) (i : Nat) :
    (s.heardCommand c h params).valve i = s.valve i := by
  simp [State.valve]

/-! ## The rows of R130's table -/

/-- ENABLE leaves a valve that is IDLE, ON or in HOLDOFF. -/
theorem doEnable_of_enabled (tag : Word16)
    (enabled : (s.valve i).state = .idle ∨ (s.valve i).state = .on ∨ (s.valve i).state = .holdoff) :
    doEnable tag i s = answer .valveControl tag .ok (s.valve i).state.code [] s := by
  unfold doEnable
  rcases enabled with state | state | state <;> simp [state]

/-- ENABLE of a valve DISABLED SOFT, TRIPPED, or DISABLED COIL with no fault standing turns on its thermal
count. -/
theorem doEnable_of_off (tag : Word16)
    (off : (s.valve i).state = .disabled .soft ∨ (s.valve i).state = .tripped
      ∨ ((s.valve i).state = .disabled .coil ∧ (s.valve i).coilFault = false)) :
    doEnable tag i s = enableIfCool tag i s := by
  unfold doEnable
  rcases off with state | state | ⟨state, sound⟩
  · simp [state]
  · simp [state]
  · simp [state, sound]

/-- ENABLE refuses a valve whose coil fault stands. -/
theorem doEnable_of_fault (tag : Word16) (state : (s.valve i).state = .disabled .coil)
    (fault : (s.valve i).coilFault = true) :
    doEnable tag i s = answer .valveControl tag .valveState (s.valve i).thermal [] s := by
  unfold doEnable
  simp [state, fault]

theorem enableIfCool_of_cool (tag : Word16) (cool : (s.valve i).thermal ≤ s.cmu.config.rearmLevel) :
    enableIfCool tag i s = enableAccepted tag i s := if_pos cool

theorem enableIfCool_of_hot (tag : Word16) (hot : s.cmu.config.rearmLevel < (s.valve i).thermal) :
    enableIfCool tag i s = answer .valveControl tag .valveHot (s.valve i).thermal [] s :=
  if_neg (Nat.not_le.2 hot)

/-- Settles O36: the accepted command takes its effect in the state that has heard it, and ENABLE acts by the
valve's state there, which is its state before. -/
theorem valveControlByState : Obligations.ValveControlByState := by
  unfold Obligations.ValveControlByState
  intro h params s accepted
  obtain ⟨disables, enables⟩ := exec_valveControl_of_accepts accepted
  refine ⟨fun action => ?_, fun action => ?_⟩
  · rw [disables, doValveControl, if_neg (by simp [action]), doDisable, disableValve, heardCommand_valve]
  · rw [enables, doValveControl, if_pos action]
    refine ⟨fun enabled => ?_, fun off => ⟨fun cool => ?_, fun hot => ?_⟩, fun state fault => ?_⟩
    · rw [doEnable_of_enabled _ (by simpa using enabled), heardCommand_valve]
    · rw [doEnable_of_off _ (by simpa using off), enableIfCool_of_cool _ (by simpa using cool), enableAccepted,
        enableValve, heardCommand_valve]
    · rw [doEnable_of_off _ (by simpa using off), enableIfCool_of_hot _ (by simpa using hot), heardCommand_valve]
    · rw [doEnable_of_fault _ (by simpa using state) (by simpa using fault), heardCommand_valve]

end Sys2Proof.Machine
end

section
/-! The ON test by the valve's state, HOLDOFF_EXPIRY, the hand-over of an event and the raise of the counts
(R114, R122 ~ R126). -/

namespace Sys2Proof.Machine

variable {s : State} {i : Nat}

/-! ## The ON test (R122 ~ R125) -/

/-- The ON condition of a valve in a state (R122). -/
def State.onHolds (s : State) (i : Nat) : Prop :=
  (0 < (s.valve i).refCount ∧ s.bpu.beltState = .moving) ∨ s.vlc.tests i = true

theorem onCondition_iff (s : State) (i : Nat) :
    (s.valve i).onCondition s.bpu.beltState (s.vlc.tests i) = true ↔ s.onHolds i := by
  simp [Valve.onCondition, State.onHolds]

theorem onCondition_eq_true (on : s.onHolds i) :
    (s.valve i).onCondition s.bpu.beltState (s.vlc.tests i) = true := (onCondition_iff s i).2 on

theorem onCondition_eq_false (off : ¬ s.onHolds i) :
    (s.valve i).onCondition s.bpu.beltState (s.vlc.tests i) = false := by
  simpa using (onCondition_iff s i).not.2 off

theorem onTest_of_idle_on (state : (s.valve i).state = .idle) (on : s.onHolds i) :
    onTest i s = setImageDue (s.setValve i { s.valve i with state := .on }) := by
  simp [onTest, state, onCondition_eq_true on]

theorem onTest_of_idle_off (state : (s.valve i).state = .idle) (off : ¬ s.onHolds i) : onTest i s = s := by
  simp [onTest, state, onCondition_eq_false off]

theorem onTest_of_on_on (state : (s.valve i).state = .on) (on : s.onHolds i) : onTest i s = s := by
  simp [onTest, state, onCondition_eq_true on]

theorem onTest_of_on_off (state : (s.valve i).state = .on) (off : ¬ s.onHolds i) :
    onTest i s = setImageDue (s.setValve i ((s.valve i).enterHoldoff s.cmu.config.holdoff)) := by
  simp [onTest, state, onCondition_eq_false off]

/-- A valve in HOLDOFF whose ON condition holds has its deferral counted, once (R125). -/
theorem onTest_of_holdoff_on (state : (s.valve i).state = .holdoff) (on : s.onHolds i)
    (unmarked : (s.valve i).delayMark = false) :
    onTest i s = bump .valveDelays (s.setValve i { s.valve i with delayMark := true }) := by
  simp [onTest, state, onCondition_eq_true on, unmarked]

theorem onTest_of_holdoff_marked (state : (s.valve i).state = .holdoff)
    (passed : ¬ s.onHolds i ∨ (s.valve i).delayMark = true) : onTest i s = s := by
  rcases passed with off | marked
  · simp [onTest, state, onCondition_eq_false off]
  · simp [onTest, state, marked]

theorem onTest_of_blocked (blocked : (s.valve i).state = .tripped ∨ (s.valve i).state = .disabled .soft
    ∨ (s.valve i).state = .disabled .coil) : onTest i s = s := by
  unfold onTest
  rcases blocked with state | state | state <;> simp [state]

/-- With a holdoff time the valve waits for it; with none it is IDLE as the timer is loaded (R124). -/
theorem enterHoldoff_of_ne_zero {n : Nat} (waits : n ≠ 0) (v : Valve) :
    v.enterHoldoff n
      = { v with state := .holdoff, holdoff := some (n * 100), delayMark := false, tripDue := false } :=
  if_neg waits

theorem enterHoldoff_of_zero {n : Nat} (none_waits : n = 0) (v : Valve) :
    v.enterHoldoff n = { v with state := .idle, holdoff := none, delayMark := false, tripDue := false } :=
  if_pos none_waits

/-! ## HOLDOFF_EXPIRY (R125) -/

theorem holdoffExpires_of_some (held : (s.valve i).holdoff.isSome = true) :
    holdoffExpires i s = onTest i (s.setValve i { s.valve i with state := .idle, holdoff := none }) := by
  obtain ⟨n, timer⟩ := Option.isSome_iff_exists.1 held
  simp [holdoffExpires, timer]

theorem holdoffExpires_of_none (absent : (s.valve i).holdoff = none) : holdoffExpires i s = s := by
  simp [holdoffExpires, absent]

theorem exec_holdoffExpiry (inside : i < 64) (s : State) :
    exec (.holdoffExpiry i) s = .next (holdoffExpires i s) := if_pos inside

/-- A valve that the engine does not have stops the rows that name it (log 15). -/
theorem exec_of_no_valve (outside : 64 ≤ i) (s : State) :
    exec (.holdoffExpiry i) s = .fault (.noSuchValve i) ∧ exec (.valveTrip i) s = .fault (.noSuchValve i) :=
  ⟨if_neg (Nat.not_lt.2 outside), if_neg (Nat.not_lt.2 outside)⟩

/-! ## The raise of the counts (R103, R126) -/

/-- The raises that find a valve TRIPPED or DISABLED, counted over the 64 valves. -/
theorem raiseCounts_eq (first last : Nat) (length : s.vlc.valves.length = 64) :
    raiseCounts first last s
      = bumpBy .valveSkipped
          ((List.range 64).countP (fun k =>
            decide (first ≤ k) && decide (k ≤ last)
              && (decide ((s.valve k).state = .tripped) || decide ((s.valve k).state = .disabled .soft)
                || decide ((s.valve k).state = .disabled .coil))))
          (s.setVlc { s.vlc with valves := (raiseCounts first last s).vlc.valves }) := by
  have found : ((s.vlc.valves.drop first).take (last + 1 - first)).countP Valve.blocked
      = (List.range 64).countP (fun k =>
            decide (first ≤ k) && decide (k ≤ last)
              && (decide ((s.valve k).state = .tripped) || decide ((s.valve k).state = .disabled .soft)
                || decide ((s.valve k).state = .disabled .coil))) := by
    rw [countP_slice Valve.blocked Valve.reset, length]
    refine List.countP_congr fun k _ => ?_
    have within : first ≤ k ∧ k < first + (last + 1 - first) ↔ first ≤ k ∧ k ≤ last := by omega
    rw [← blocked_eq, ← Bool.decide_and, decide_eq_decide.2 within]
    rfl
  rw [← found]
  rfl

/-- Settles O37: the ON test by the valve's state, each row of the expiry, each valve's part of the hand-over,
and the raises counted over the 64 valves. -/
theorem onTestAndHoldoffExpiry : Obligations.OnTestAndHoldoffExpiry := by
  unfold Obligations.OnTestAndHoldoffExpiry
  refine ⟨fun i s => ?_, fun i s => ?_, fun before s => ⟨?_, fun i inside => ⟨fun given => ?_, fun kept => ?_⟩⟩,
    fun first last s => ⟨fun i inside => raiseCounts_valve first last s inside, raiseCounts_eq first last⟩⟩
  · refine ⟨onTest_of_idle_on, onTest_of_idle_off, onTest_of_on_on, fun state off waits => ?_,
      fun state off none_waits => ?_, onTest_of_holdoff_on, onTest_of_holdoff_marked, onTest_of_blocked⟩
    · rw [onTest_of_on_off state off, enterHoldoff_of_ne_zero waits]
    · rw [onTest_of_on_off state off, enterHoldoff_of_zero none_waits]
  · refine ⟨fun inside held => ?_, fun inside absent => ?_, fun outside => exec_of_no_valve outside s⟩
    · rw [exec_holdoffExpiry inside, holdoffExpires_of_some held]
    · rw [exec_holdoffExpiry inside, holdoffExpires_of_none absent]
  · unfold handOver onTests
    congr 1
    funext t i
    simp
  · rw [handOver_valve before s inside, if_pos given]
  · rw [handOver_valve before s inside, if_neg kept]

end Sys2Proof.Machine
end

section
/-! The thermal tick and the trips it brings (R127, R128). A walk over the valves whose step for a valve reads and
changes that valve alone leaves each valve as its own step does. -/

namespace Sys2Proof.Machine

variable {s t : State} {i j n : Nat}

/-! ## A walk over the valves -/

/-- A walk whose step for valve `i` makes `g` of it and leaves every other valve. -/
theorem foldl_range_valve {f : Nat → State → State} {g : Valve → Valve}
    (own : ∀ i t, (f i t).valve i = g (t.valve i)) (other : ∀ i j t, i ≠ j → (f i t).valve j = t.valve j)
    (n : Nat) (s : State) (j : Nat) :
    ((List.range n).foldl (fun t i => f i t) s).valve j = if j < n then g (s.valve j) else s.valve j := by
  induction n with
  | zero => simp
  | succ n ih =>
    rw [List.range_succ, List.foldl_append, List.foldl_cons, List.foldl_nil]
    by_cases last : n = j
    · subst last
      rw [own, ih]
      simp
    · rw [other n j _ last, ih]
      exact if_congr (by omega) rfl rfl

/-- A walk in which no step acts. -/
theorem foldl_of_fixed {α β : Type} {f : α → β → β} {l : List α} {x : β} (fixed : ∀ a ∈ l, f a x = x) :
    l.foldl (fun y a => f a y) x = x := by
  induction l with
  | nil => rfl
  | cons a l ih =>
    rw [List.foldl_cons, fixed a List.mem_cons_self]
    exact ih fun c member => fixed c (List.mem_cons_of_mem a member)

/-- A walk in which the step for `k` alone acts. -/
theorem foldl_of_single {α β : Type} [DecidableEq α] {f : α → β → β} {l : List α} {x : β} {k : α}
    (nodup : l.Nodup) (member : k ∈ l) (before : ∀ a ∈ l, a ≠ k → f a x = x)
    (after : ∀ a ∈ l, a ≠ k → f a (f k x) = f k x) : l.foldl (fun y a => f a y) x = f k x := by
  induction l with
  | nil => cases member
  | cons a l ih =>
    obtain ⟨absent, rest⟩ := List.nodup_cons.1 nodup
    rw [List.foldl_cons]
    by_cases same : a = k
    · subst same
      exact foldl_of_fixed fun c later =>
        after c (List.mem_cons_of_mem _ later) fun again => absent (again ▸ later)
    · rw [before a List.mem_cons_self same]
      exact ih rest ((List.mem_cons.1 member).resolve_left (Ne.symm same))
        (fun c later => before c (List.mem_cons_of_mem _ later))
        (fun c later => after c (List.mem_cons_of_mem _ later))

/-! ## The end of a valve's test -/

/-- A valve without a running test has none to end. -/
theorem endTestOf_of_untested {status : Status} {detail : Nat} (untested : s.vlc.tests i = false) :
    endTestOf i status detail s = s := by
  simp [endTestOf, untested]

/-- The end of a test changes of the Valve Controller the test alone. -/
theorem endTestOf_vlc (i : Nat) (status : Status) (detail : Nat) (s : State) :
    (endTestOf i status detail s).vlc
      = { s.vlc with test := if s.vlc.tests i then none else s.vlc.test } := by
  unfold endTestOf
  split
  · simp [endTest]
  · rfl

/-! ## One trip (R128) -/

/-- What the trip makes of a valve. -/
def Valve.afterTrip (v : Valve) : Valve :=
  if v.tripDue && decide (v.state = .on) then { v with state := .tripped, tripDue := false } else v

theorem Valve.afterTrip_keeps (v : Valve) :
    v.afterTrip.thermal = v.thermal ∧ v.afterTrip.refCount = v.refCount ∧ v.afterTrip.holdoff = v.holdoff
      ∧ v.afterTrip.coilFault = v.coilFault := by
  unfold Valve.afterTrip
  split <;> exact ⟨rfl, rfl, rfl, rfl⟩

/-- A trip that stands due, without its valve's test. -/
def tripped (i : Nat) (s : State) : State :=
  notice (.valveTrip i (s.valve i).thermal (s.valve i).refCount)
    (bump .valveTrips (setImageDue (s.setValve i { s.valve i with state := .tripped, tripDue := false })))

theorem trip_of_due (due : (s.valve i).tripDue = true) (on : (s.valve i).state = .on) :
    trip i s = endTestOf i .valveHot (s.valve i).thermal (tripped i s) := by
  simp only [trip, due, on, decide_true, Bool.and_self, if_true]
  rw [tripped]

theorem trip_of_not_due (none_due : ¬ ((s.valve i).tripDue = true ∧ (s.valve i).state = .on)) :
    trip i s = s := by
  unfold trip
  exact if_neg (by simpa using none_due)

@[simp] theorem tripped_vlc (i : Nat) (s : State) :
    (tripped i s).vlc
      = { s.vlc with
          valves := s.vlc.valves.set i { s.valve i with state := .tripped, tripDue := false }
          imageDue := true } := by
  simp [tripped, setImageDue, State.setValve]

@[simp] theorem tripped_cmu (i : Nat) (s : State) : (tripped i s).cmu = s.cmu := by simp [tripped]

theorem valve_congr (valves : t.vlc.valves = s.vlc.valves) (i : Nat) : t.valve i = s.valve i := by
  rw [State.valve, State.valve, valves]

/-- A trip acts on its own valve alone. -/
theorem trip_valve (i j : Nat) (s : State) :
    (trip i s).valve j = if i = j then (s.valve j).afterTrip else s.valve j := by
  by_cases due : (s.valve i).tripDue = true ∧ (s.valve i).state = .on
  · obtain ⟨marked, on⟩ := due
    have written : (trip i s).vlc.valves
        = (s.setValve i { s.valve i with state := .tripped, tripDue := false }).vlc.valves := by
      rw [trip_of_due marked on, endTestOf_vlc, tripped_vlc]
      rfl
    rw [valve_congr written, State.setValve_valve]
    simp only [State.inside_of_on on, and_true]
    split
    next same => simp [Valve.afterTrip, ← same, marked, on]
    next => rfl
  · rw [trip_of_not_due due]
    split
    next same =>
      subst same
      exact (if_neg (by simpa using due)).symm
    next => rfl

/-- A trip ends its own valve's test and no other. -/
theorem trip_of_untested (untested : s.vlc.tests i = false) :
    (trip i s).vlc.test = s.vlc.test ∧ (trip i s).cmu = s.cmu := by
  by_cases due : (s.valve i).tripDue = true ∧ (s.valve i).state = .on
  · obtain ⟨marked, on⟩ := due
    rw [trip_of_due marked on, endTestOf_of_untested (by simpa [Vlc.tests] using untested)]
    simp
  · simp [trip_of_not_due due]

/-! ## The tick (R127) -/

/-- The tick heats every valve, those beyond the list reading as after a reset. -/
theorem heat_valve (s : State) (i : Nat) :
    (heat s).valve i = (s.valve i).tick s.cmu.config.heatStep s.cmu.config.tripLevel :=
  List.getD_map (f := Valve.tick s.cmu.config.heatStep s.cmu.config.tripLevel) (d := Valve.reset) ..

theorem Valve.tick_of_on {v : Valve} (on : v.state = .on) (step level : Nat) :
    v.tick step level
      = { v with
          thermal := min 65535 (v.thermal + step), tripDue := decide (level ≤ min 65535 (v.thermal + step)) } :=
  if_pos on

theorem Valve.tick_of_off {v : Valve} (off : v.state ≠ .on) (step level : Nat) :
    v.tick step level = { v with thermal := v.thermal - 1 } := if_neg off

theorem thermalTick_valve (s : State) (inside : i < 64) :
    (thermalTick s).valve i
      = ((s.valve i).tick s.cmu.config.heatStep s.cmu.config.tripLevel).afterTrip := by
  unfold thermalTick
  rw [foldl_range_valve (fun i t => by rw [trip_valve, if_pos rfl])
    (fun i j t apart => by rw [trip_valve, if_neg apart]), if_pos inside, heat_valve]

theorem thermalTick_port (s : State) :
    (thermalTick s).vlc.phase = s.vlc.phase ∧ (thermalTick s).vlc.link = s.vlc.link := by
  have one (i : Nat) (t : State) : ((trip i t).vlc.phase, (trip i t).vlc.link) = (t.vlc.phase, t.vlc.link) := by
    unfold trip
    dsimp only
    split
    · rw [endTestOf_vlc]
      simp [setImageDue, State.setValve]
    · rfl
  have all := foldl_keeps (fun (t : State) (i : Nat) => trip i t)
    (fun t : State => (t.vlc.phase, t.vlc.link)) (fun t i => one i t) (List.range 64) (heat s)
  unfold thermalTick
  exact Prod.mk.inj all

/-- With no test running the Command Unit stands. -/
theorem thermalTick_cmu (untested : ∀ i < 64, s.vlc.tests i = false) : (thermalTick s).cmu = s.cmu := by
  have walk (l : List Nat) (t : State) (none_tested : ∀ i ∈ l, t.vlc.tests i = false) :
      (l.foldl (fun t i => trip i t) t).cmu = t.cmu := by
    induction l generalizing t with
    | nil => rfl
    | cons i l ih =>
      obtain ⟨test, cmu⟩ := trip_of_untested (none_tested i List.mem_cons_self)
      rw [List.foldl_cons, ih _ fun j later => ?_, cmu]
      rw [Vlc.tests, test]
      exact none_tested j (List.mem_cons_of_mem _ later)
  have heated : (heat s).cmu = s.cmu := by simp
  rw [thermalTick, walk _ (heat s) fun i within => untested i (List.mem_range.1 within), heated]

theorem exec_valveTrip (inside : i < 64) (s : State) : exec (.valveTrip i) s = .next (trip i s) := if_pos inside

/-- Settles O38: each valve is heated and then takes its own trip. -/
theorem thermalTickHeatsAndTrips : Obligations.ThermalTickHeatsAndTrips := by
  unfold Obligations.ThermalTickHeatsAndTrips
  refine ⟨fun s => ⟨thermalTick s, rfl, fun i inside => ?_, ?_⟩, fun i s inside due on untested => ?_,
    fun i s inside none_due => ?_⟩
  · obtain ⟨thermal, refCount, holdoff, coilFault⟩ :=
      Valve.afterTrip_keeps ((s.valve i).tick s.cmu.config.heatStep s.cmu.config.tripLevel)
    rw [← thermalTick_valve s inside] at thermal refCount holdoff coilFault
    rw [thermal, refCount, holdoff, coilFault, thermalTick_valve s inside]
    by_cases on : (s.valve i).state = .on
    · rw [Valve.tick_of_on on]
      simp [Valve.afterTrip, on, apply_ite Valve.state]
    · rw [Valve.tick_of_off on]
      simp [Valve.afterTrip, on]
  · obtain ⟨phase, link⟩ := thermalTick_port s
    simp only [phase, link, thermalTick_keeps, true_and]
    exact thermalTick_cmu
  · rw [exec_valveTrip inside, trip_of_due due on, endTestOf_of_untested (by simpa [Vlc.tests] using untested)]
    rfl
  · rw [exec_valveTrip inside, trip_of_not_due fun ⟨due, on⟩ => none_due.elim (by simp [due]) (absurd on)]

end Sys2Proof.Machine
end

section
/-! What the valves' operations, the ejections and FAULT entry leave of the Valve Port and the running test: all
of the Valve Controller but the valves' records and image due. For an operation `f` the lemma `f_besides` says
so. -/

namespace Sys2Proof.Machine

variable {s t : State} {i j : Nat}

/-- The Valve Controller without the valves' records and image due. -/
def Vlc.besides (v : Vlc) : Vlc := { v with valves := [], imageDue := false }

theorem Vlc.besides_fields {v w : Vlc} (same : v.besides = w.besides) :
    v.test = w.test ∧ v.phase = w.phase ∧ v.link = w.link ∧ v.missCount = w.missCount
      ∧ v.nextSequence = w.nextSequence ∧ v.awaited = w.awaited ∧ v.answerLeft = w.answerLeft := by
  have field {α : Type} (f : Vlc → α) : f v.besides = f w.besides := congrArg f same
  exact ⟨field Vlc.test, field Vlc.phase, field Vlc.link, field Vlc.missCount, field Vlc.nextSequence,
    field Vlc.awaited, field Vlc.answerLeft⟩

@[simp] theorem setValve_besides (i : Nat) (v : Valve) (s : State) :
    (s.setValve i v).vlc.besides = s.vlc.besides := rfl

@[simp] theorem setImageDue_besides (s : State) : (setImageDue s).vlc.besides = s.vlc.besides := rfl

/-! ## The ON test and the counts (R103, R114, R122 ~ R126) -/

@[simp] theorem onTest_besides (i : Nat) (s : State) : (onTest i s).vlc.besides = s.vlc.besides := by
  unfold onTest
  dsimp only
  repeat' split
  all_goals simp

@[simp] theorem handOver_besides (before s : State) : (handOver before s).vlc.besides = s.vlc.besides :=
  foldl_keeps _ (fun t : State => t.vlc.besides) (fun t i => by split <;> simp) _ s

@[simp] theorem raiseCounts_besides (first last : Nat) (s : State) :
    (raiseCounts first last s).vlc.besides = s.vlc.besides := rfl

/-! ## Ejections (R105 ~ R119) -/

@[simp] theorem activate_besides (i : Nat) (r : EjectionRecord) (s : State) :
    (activate i r s).vlc.besides = s.vlc.besides := by
  unfold activate
  dsimp only
  split <;> simp

@[simp] theorem activationTest_besides (n : Nat) (s : State) :
    (activationTest n s).vlc.besides = s.vlc.besides := by
  induction n generalizing s with
  | zero => rfl
  | succ n ih =>
    unfold activationTest
    repeat' split
    all_goals simp [ih]

@[simp] theorem mergeQueued_besides (k : Nat) (q : EjectionRequest) (r : EjectionRecord) (s : State) :
    (mergeQueued k q r s).vlc.besides = s.vlc.besides := by
  unfold mergeQueued testHead
  dsimp only
  repeat' split
  all_goals simp

@[simp] theorem mergeActive_besides (i : Nat) (q : EjectionRequest) (r : EjectionRecord) (s : State) :
    (mergeActive i q r s).vlc.besides = s.vlc.besides := by
  rw [mergeActive_vlc]
  rfl

@[simp] theorem makeRecord_besides (q : EjectionRequest) (s : State) :
    (makeRecord q s).vlc.besides = s.vlc.besides := by
  unfold makeRecord makeLate
  repeat' split
  all_goals simp

@[simp] theorem takeMerge_besides (q : EjectionRequest) (s : State) :
    (takeMerge q s).vlc.besides = s.vlc.besides := by
  unfold takeMerge
  repeat' split
  all_goals simp

@[simp] theorem takeRequest_besides (q : EjectionRequest) (s : State) :
    (takeRequest q s).vlc.besides = s.vlc.besides := by
  unfold takeRequest takeRefuse
  repeat' split
  all_goals simp

@[simp] theorem takeAll_besides (s : State) : (takeAll s).vlc.besides = s.vlc.besides :=
  foldl_keeps _ (fun t : State => t.vlc.besides) (fun t q => by simp [requestEvent]) _
    (s.setEjs { s.ejs with vduRequests := [], oasRequests := [] })

@[simp] theorem dropRecords_besides (s : State) : (dropRecords s).vlc.besides = s.vlc.besides := by
  simp [dropRecords, zeroCounts, Vlc.besides]

@[simp] theorem flush_besides (s : State) : (flush s).vlc.besides = s.vlc.besides := by
  simp [flush]

/-! ## FAULT entry (R133, R175) -/

@[simp] theorem faultEffects_besides (c : FaultCause) (s : State) :
    (faultEffects c s).vlc.besides = s.vlc.besides := by
  simp [faultEffects]

/-- With no test running, the executing command's end leaves the Valve Controller. -/
theorem endAborted_vlc_of_untested (untested : s.vlc.test = none) : (endAborted s).vlc = s.vlc := by
  unfold endAborted abortTest
  repeat' split
  all_goals simp_all

theorem enterFault_besides_of_untested {c : FaultCause} (untested : s.vlc.test = none) :
    (enterFault c s).vlc.besides = s.vlc.besides := by
  have test : (faultEffects c s).vlc.test = none := by
    rw [(Vlc.besides_fields (faultEffects_besides c s)).1, untested]
  simp [enterFault, endAborted_vlc_of_untested test]

end Sys2Proof.Machine
end

section
/-! The end of a running test, and the coil faults that a Status frame shows (R131 ~ R133, R136). -/

namespace Sys2Proof.Machine

variable {s t : State} {i j : Nat} {e : Executing}

/-! ## The end of a test -/

/-- The executing command's end is its answer (R165). -/
theorem endCommand_of_executing {status : Status} {detail : Nat} {data : List Byte}
    (executes : s.cmu.executing = some e) :
    endCommand status detail data s
      = answer e.command e.tag status detail data (s.setCmu { s.cmu with executing := none }) := by
  simp only [endCommand, executes]
  rfl

/-- No test left, and no command executing. -/
def testEnded (s : State) : State :=
  (s.setVlc { s.vlc with test := none }).setCmu { s.cmu with executing := none }

/-- The end of a valve's running test is the executing command's answer (R128, R136). -/
theorem endTestOf_of_tested {status : Status} {detail : Nat} (tested : s.vlc.tests i = true)
    (executes : s.cmu.executing = some e) :
    endTestOf i status detail s = answer e.command e.tag status detail [] (testEnded s) := by
  rw [endTestOf, if_pos tested]
  exact endCommand_of_executing executes

/-- The end of a running test turns its valve off, and is the executing command's answer (R132, R133). -/
theorem endTestOff_of_test {k : ValveTest} {status : Status} {data : Nat → State → List Byte}
    (test : s.vlc.test = some k) (executes : s.cmu.executing = some e) :
    endTestOff status data s
      = answer e.command e.tag status 0 (data k.valve (onTest k.valve (s.setVlc { s.vlc with test := none })))
          ((onTest k.valve (s.setVlc { s.vlc with test := none })).setCmu
            { s.cmu with executing := none }) := by
  simp only [endTestOff, test]
  rw [endCommand_of_executing (e := e) (by simpa using executes)]
  simp

theorem endTestOff_of_none {status : Status} {data : Nat → State → List Byte} (untested : s.vlc.test = none) :
    endTestOff status data s = s := by
  simp only [endTestOff, untested]

/-- The ON test leaves a valve's heat. -/
theorem onTest_thermal (i : Nat) (s : State) : ((onTest i s).valve i).thermal = (s.valve i).thermal := by
  have written {v : Valve} (same : v.thermal = (s.valve i).thermal) :
      ((s.setValve i v).valve i).thermal = (s.valve i).thermal := by
    rw [State.setValve_valve]
    split
    · exact same
    · rfl
  have held : ((s.valve i).enterHoldoff s.cmu.config.holdoff).thermal = (s.valve i).thermal := by
    unfold Valve.enterHoldoff
    split <;> rfl
  unfold onTest
  dsimp only
  repeat' split
  case h_1.isTrue => exact written rfl
  case h_2.isFalse => exact written held
  case h_3.isTrue => exact written rfl
  all_goals rfl

/-! ## One coil fault (R136) -/

/-- What a coil fault indication makes of a valve. -/
def Valve.afterFault (v : Valve) : Valve :=
  if v.coilFault && decide (v.state ≠ .disabled .coil) then
    { v with state := .disabled .coil, holdoff := none, tripDue := false }
  else v

theorem Valve.afterFault_keeps (v : Valve) :
    v.afterFault.thermal = v.thermal ∧ v.afterFault.refCount = v.refCount
      ∧ v.afterFault.coilFault = v.coilFault := by
  unfold Valve.afterFault
  split <;> exact ⟨rfl, rfl, rfl⟩

/-- A coil fault acted on, without its valve's test. -/
def faulted (i : Nat) (s : State) : State :=
  notice (.valveCoil i (s.valve i).state)
    (bump .valveCoilFaults
      (if (s.valve i).state = .on then
        setImageDue (s.setValve i
          { s.valve i with state := .disabled .coil, holdoff := none, tripDue := false })
      else s.setValve i { s.valve i with state := .disabled .coil, holdoff := none, tripDue := false }))

@[simp] theorem faulted_cmu (i : Nat) (s : State) : (faulted i s).cmu = s.cmu := by
  unfold faulted
  split <;> simp

@[simp] theorem faulted_besides (i : Nat) (s : State) : (faulted i s).vlc.besides = s.vlc.besides := by
  unfold faulted
  split <;> simp

theorem faulted_valves (i : Nat) (s : State) :
    (faulted i s).vlc.valves
      = (s.setValve i
          { s.valve i with state := .disabled .coil, holdoff := none, tripDue := false }).vlc.valves := by
  unfold faulted
  split <;> simp

theorem tests_congr {v w : Vlc} (test : v.test = w.test) (i : Nat) : v.tests i = w.tests i := by
  rw [Vlc.tests, Vlc.tests, test]

@[simp] theorem faulted_tests (i j : Nat) (s : State) : (faulted i s).vlc.tests j = s.vlc.tests j :=
  tests_congr (Vlc.besides_fields (faulted_besides i s)).1 j

theorem coilFault_of_fault (fault : (s.valve i).coilFault = true) (state : (s.valve i).state ≠ .disabled .coil) :
    coilFault i s = endTestOf i .valveState 5 (faulted i s) := by
  unfold coilFault
  exact if_pos (by simp [fault, state])

theorem coilFault_of_sound
    (sound : ¬ ((s.valve i).coilFault = true ∧ (s.valve i).state ≠ .disabled .coil)) : coilFault i s = s := by
  unfold coilFault
  exact if_neg (by simpa using sound)

/-- A valve with a coil fault is one of the engine's. -/
theorem State.inside_of_fault (fault : (s.valve i).coilFault = true) : i < s.vlc.valves.length := by
  by_contra outside
  simp [State.valve, List.getElem?_eq_none (Nat.le_of_not_lt outside), Valve.reset] at fault

/-- A coil fault acts on its own valve alone. -/
theorem coilFault_valve (i j : Nat) (s : State) :
    (coilFault i s).valve j = if i = j then (s.valve j).afterFault else s.valve j := by
  by_cases acts : (s.valve i).coilFault = true ∧ (s.valve i).state ≠ .disabled .coil
  · obtain ⟨fault, state⟩ := acts
    have written : (coilFault i s).vlc.valves = (faulted i s).vlc.valves := by
      rw [coilFault_of_fault fault state, endTestOf_vlc]
    rw [valve_congr (written.trans (faulted_valves i s)), State.setValve_valve]
    simp only [State.inside_of_fault fault, and_true]
    split
    next same => simp [Valve.afterFault, ← same, fault, state]
    next => rfl
  · rw [coilFault_of_sound acts]
    split
    next same =>
      subst same
      exact (if_neg (by simpa using acts)).symm
    next => rfl

/-- A coil fault acted on ends its own valve's test and leaves the port. -/
theorem coilFault_besides (i : Nat) (s : State) :
    (coilFault i s).vlc.besides
      = { s.vlc.besides with
          test :=
            if ((s.valve i).coilFault = true ∧ (s.valve i).state ≠ .disabled .coil) ∧ s.vlc.tests i = true then none
            else s.vlc.test } := by
  by_cases acts : (s.valve i).coilFault = true ∧ (s.valve i).state ≠ .disabled .coil
  · have same := faulted_besides i s
    rw [coilFault_of_fault acts.1 acts.2, endTestOf_vlc, faulted_tests]
    simp only [acts, not_false_eq_true, ne_eq, and_self, true_and, (Vlc.besides_fields same).1, ← same]
    rfl
  · rw [coilFault_of_sound acts]
    simp only [acts, false_and, if_false]
    rfl

/-! ## The valves a Status frame shows (R136) -/

/-- The Status frame's indications replace all those held. -/
def shown (frame : List Byte) (s : State) : State :=
  s.setVlc
    { s.vlc with valves := mapFrom (fun i v => { v with coilFault := statusFault frame i }) 0 s.vlc.valves }

theorem shown_valve {frame : List Byte} (inside : i < s.vlc.valves.length) :
    (shown frame s).valve i = { s.valve i with coilFault := statusFault frame i } := by
  show (mapFrom _ 0 s.vlc.valves).getD i Valve.reset = _
  rw [List.getD_eq_getElem?_getD, getElem?_mapFrom]
  simp [State.valve, inside]

theorem applyStatus_eq (frame : List Byte) (s : State) :
    applyStatus frame s = (List.range 64).foldl (fun t i => coilFault i t) (shown frame s) := rfl

/-- Each valve has its indication, and is DISABLED by it. -/
theorem applyStatus_valve {frame : List Byte} (inside : i < s.vlc.valves.length) (few : i < 64) :
    (applyStatus frame s).valve i = ({ s.valve i with coilFault := statusFault frame i } : Valve).afterFault := by
  rw [applyStatus_eq, foldl_range_valve (fun i t => by rw [coilFault_valve, if_pos rfl])
    (fun i j t apart => by rw [coilFault_valve, if_neg apart]), if_pos few, shown_valve inside]

/-- The faults acted on end a test at most: the rest of the port is left. -/
theorem applyStatus_port (frame : List Byte) (s : State) :
    ({ (applyStatus frame s).vlc.besides with test := none } : Vlc) = { s.vlc.besides with test := none } := by
  have one (i : Nat) (t : State) :
      ({ (coilFault i t).vlc.besides with test := none } : Vlc) = { t.vlc.besides with test := none } := by
    rw [coilFault_besides]
  have all := foldl_keeps (fun (t : State) (i : Nat) => coilFault i t)
    (fun t : State => ({ t.vlc.besides with test := none } : Vlc)) (fun t i => one i t) (List.range 64)
    (shown frame s)
  rw [applyStatus_eq]
  exact all

theorem applyStatus_link (frame : List Byte) (s : State) : (applyStatus frame s).vlc.link = s.vlc.link := by
  have link := congrArg Vlc.link (applyStatus_port frame s)
  simpa only [Vlc.besides] using link

end Sys2Proof.Machine
end

section
/-! A valve test's start, its end at the expiry of its time, and its early ends (R128, R131 ~ R133, R136,
R137). -/

namespace Sys2Proof.Machine

variable {h : Header} {params : List Byte} {s : State} {i : Nat} {e : Executing} {k : ValveTest}

/-! ## Start (R131) -/

theorem doValveTest_engine (tag : Word16) (params : List Byte) (s : State) :
    (doValveTest tag params s).cmu.engine = s.cmu.engine := by
  unfold doValveTest startTest beginCommand
  repeat' split
  all_goals simp [answer]

/-- An accepted VALVE_TEST meets its own tests in the state that has heard it; in STANDBY its event ends
there. -/
theorem exec_valveTest_of_accepts (accepted : s.accepts .valveTest h params) :
    exec (.valveTest h params) s = .next (doValveTest h.tag params (s.heardCommand .valveTest h params)) := by
  have standby : s.cmu.engine = .standby := by
    obtain ⟨_, _, taken, _⟩ := accepted
    simpa [Command.takenIn] using taken
  show Host.Outcome.next (receiveDi (commandOf .valveTest h params) s) = _
  rw [receiveDi_of_accepts accepted, acceptCommand, finish_of_idle] <;>
    simp [doValveTest_engine, standby]

/-- An IDLE valve whose test begins is ON (R122, R131). -/
theorem startTest_of_idle (tag : Word16) (ms : Nat) (idle : (s.valve i).state = .idle) :
    startTest tag i ms s
      = setImageDue
          (((s.setVlc { s.vlc with test := some { valve := i, left := ms * 10000 } }).setCmu
              { s.cmu with executing := some { command := .valveTest, tag := tag } }).setValve i
            { s.valve i with state := .on }) :=
  onTest_of_idle_on idle (.inr (by simp [Vlc.tests, beginCommand]))

theorem doValveTest_of_lost (tag : Word16) (link : s.vlc.link = .lost) :
    doValveTest tag params s = answer .valveTest tag .valveLink 0 [] s := by
  simp [doValveTest, link]

theorem doValveTest_of_not_idle (tag : Word16) (link : s.vlc.link = .up)
    (state : (s.valve (u8 params 0)).state ≠ .idle) :
    doValveTest tag params s = answer .valveTest tag .valveState (s.valve (u8 params 0)).state.code [] s := by
  simp [doValveTest, link, state]

theorem doValveTest_of_idle (tag : Word16) (link : s.vlc.link = .up)
    (state : (s.valve (u8 params 0)).state = .idle) :
    doValveTest tag params s = startTest tag (u8 params 0) (u8 params 1) s := by
  simp [doValveTest, link, state]

/-! ## Early ends (R128, R136, R137) -/

theorem tests_of_test (test : s.vlc.test = some k) : s.vlc.tests k.valve = true := by
  simp [Vlc.tests, test]

theorem tripped_tests (i j : Nat) (s : State) : (tripped i s).vlc.tests j = s.vlc.tests j :=
  tests_congr (by simp) j

/-- A valve under test that trips ends its test. -/
theorem trip_of_tested (due : (s.valve i).tripDue = true) (on : (s.valve i).state = .on)
    (tested : s.vlc.tests i = true) (executes : s.cmu.executing = some e) :
    trip i s = answer e.command e.tag .valveHot (s.valve i).thermal [] (testEnded (tripped i s)) := by
  rw [trip_of_due due on,
    endTestOf_of_tested ((tripped_tests i i s).trans tested) (by simpa using executes)]

/-- A valve under test with a coil fault ends its test. -/
theorem coilFault_of_tested (fault : (s.valve i).coilFault = true) (state : (s.valve i).state ≠ .disabled .coil)
    (tested : s.vlc.tests i = true) (executes : s.cmu.executing = some e) :
    coilFault i s = answer e.command e.tag .valveState 5 [] (testEnded (faulted i s)) := by
  rw [coilFault_of_fault fault state, endTestOf_of_tested (by simpa using tested) (by simpa using executes)]

/-- With one valve ON, and hot, the tick is its heat and its trip. -/
theorem thermalTick_of_single (few : i < 64) (others : ∀ j < 64, j ≠ i → (s.valve j).state ≠ .on) :
    thermalTick s = trip i (heat s) := by
  have rests (j : Nat) (inside : j ∈ List.range 64) (apart : j ≠ i) : ((heat s).valve j).state ≠ .on := by
    have off := others j (List.mem_range.1 inside) apart
    rwa [heat_valve, Valve.tick_of_off off]
  refine foldl_of_single List.nodup_range (List.mem_range.2 few)
    (fun j inside apart => trip_of_not_due fun due => rests j inside apart due.2)
    fun j inside apart => trip_of_not_due fun due => rests j inside apart ?_
  rw [← due.2, trip_valve, if_neg (Ne.symm apart)]

/-- A Status frame that shows one fault is that valve's part of it. -/
theorem applyStatus_of_single {frame : List Byte} (few : i < 64)
    (others : ∀ j < 64, j ≠ i → statusFault frame j = false) :
    applyStatus frame s = coilFault i (shown frame s) := by
  have sound (j : Nat) (inside : j ∈ List.range 64) (apart : j ≠ i) :
      ((shown frame s).valve j).coilFault ≠ true := by
    intro fault
    have within : j < s.vlc.valves.length := by simpa [shown] using State.inside_of_fault fault
    rw [shown_valve within] at fault
    simp [others j (List.mem_range.1 inside) apart] at fault
  rw [applyStatus_eq]
  refine foldl_of_single List.nodup_range (List.mem_range.2 few)
    (fun j inside apart => coilFault_of_sound fun acts => sound j inside apart acts.1)
    fun j inside apart => coilFault_of_sound fun acts => sound j inside apart ?_
  rw [← acts.1, coilFault_valve, if_neg (Ne.symm apart)]

/-- With its trip or fault acted on, a valve is TRIPPED, or DISABLED COIL. -/
theorem tripped_state (inside : i < s.vlc.valves.length) : ((tripped i s).valve i).state = .tripped := by
  simp [State.valve, inside]

theorem faulted_state (inside : i < s.vlc.valves.length) : ((faulted i s).valve i).state = .disabled .coil := by
  rw [valve_congr (faulted_valves i s), State.setValve_valve, if_pos ⟨rfl, inside⟩]

/-! ## The answer window (R135, R137) -/

/-- The answer window closed, with a count of misses. -/
def windowClosed (misses : Nat) (s : State) : State :=
  s.setVlc
    { s.vlc with phase := .free, awaited := none, answerLeft := none, image := none, missCount := misses }

theorem statusArrives_of_match {frame : List Byte} (good : statusGood frame = true)
    (awaits : s.vlc.phase = .awaiting) (awaited : s.vlc.awaited = some (frame.getD 0 0)) :
    statusArrives frame s = restoreLink (frame.getD 0 0) (applyStatus frame (windowClosed 0 s)) := by
  rw [statusArrives, if_pos (by simp only [good, awaits, awaited, decide_true, Bool.and_self])]
  rfl

theorem restoreLink_of_up {q : Byte} (link : s.vlc.link = .up) : restoreLink q s = s := by
  simp [restoreLink, link]

/-- What the loss of the valve link does before it raises its cause and ends a test (R137). -/
def linkLost (q : Byte) (s : State) : State :=
  notice (.valveLinkLost q s.cmu.engine) (bump .valveLinkLosses (s.setVlc { s.vlc with link := .lost }))

@[simp] theorem linkLost_vlc (q : Byte) (s : State) :
    (linkLost q s).vlc = { s.vlc with link := .lost } ∧ (linkLost q s).cmu = s.cmu ∧ (linkLost q s).bpu = s.bpu := by
  simp [linkLost]

/-- The third miss while the link is UP loses it. -/
theorem windowCloses_of_third (misses : 2 ≤ s.vlc.missCount) (link : s.vlc.link = .up) :
    windowCloses s
      = endTestOff .valveLink (fun _ _ => [])
          (raiseCause .valveLinkLost (linkLost (s.vlc.awaited.getD 0) (windowClosed 3 s))) := by
  have third : min 3 (s.vlc.missCount + 1) = 3 := by omega
  simp only [windowCloses, third, link, decide_true, Bool.and_self, if_true]
  rfl

/-- A miss before the third, or with the link LOST, is counted. -/
theorem windowCloses_of_kept (kept : s.vlc.missCount < 2 ∨ s.vlc.link = .lost) :
    windowCloses s = windowClosed (min 3 (s.vlc.missCount + 1)) s := by
  unfold windowCloses
  refine if_neg ?_
  rcases kept with early | lost
  · simp only [Bool.and_eq_true, decide_eq_true_eq, not_and]
    omega
  · simp [lost]

/-- In STANDBY a cause requests nothing (R175). -/
theorem raiseCause_of_standby {c : FaultCause} (standby : s.cmu.engine = .standby) : raiseCause c s = s := by
  simp [raiseCause, standby]

end Sys2Proof.Machine
end

section
/-! The statement about a valve test (R128, R131 ~ R133, R136, R137). -/

namespace Sys2Proof.Machine

variable {h : Header} {params frame : List Byte} {s : State} {i : Nat} {e : Executing} {k : ValveTest}

/-- A test that is accepted starts, its valve ON (R131). -/
theorem doValveTest_of_heard (link : s.vlc.link = .up)
    (state : (s.valve (u8 params 0)).state = .idle) :
    doValveTest h.tag params (s.heardCommand .valveTest h params)
      = setImageDue
          ((((s.heardCommand .valveTest h params).setVlc
                { s.vlc with test := some { valve := u8 params 0, left := u8 params 1 * 10000 } }).setCmu
              { s.cmu with executing := some { command := .valveTest, tag := h.tag } }).setValve (u8 params 0)
            { s.valve (u8 params 0) with state := .on }) := by
  rw [doValveTest_of_idle _ (by simpa using link) (by simpa using state),
    startTest_of_idle _ _ (by simpa using state)]
  simp

/-- The expiry of a running test (R132). -/
theorem testExpires_of_test (test : s.vlc.test = some k) (executes : s.cmu.executing = some e)
    (kind : e.command = .valveTest) :
    testExpires s
      = answer .valveTest e.tag .ok 0 (le 1 k.valve ++ le 2 (s.valve k.valve).thermal)
          ((onTest k.valve (s.setVlc { s.vlc with test := none })).setCmu
            { s.cmu with executing := none }) := by
  rw [testExpires, endTestOff_of_test test executes, onTest_thermal, kind]
  rfl

section single

variable (test : s.vlc.test = some k) (few : k.valve < 64) (executes : s.cmu.executing = some e)

include test few executes

/-- The tick that leaves the tested valve hot, no other being ON, ends its test (R128). -/
theorem thermalTick_of_tested (on : (s.valve k.valve).state = .on)
    (hot : s.cmu.config.tripLevel ≤ min 65535 ((s.valve k.valve).thermal + s.cmu.config.heatStep))
    (others : ∀ j < 64, j ≠ k.valve → (s.valve j).state ≠ .on) :
    thermalTick s
      = answer e.command e.tag .valveHot (min 65535 ((s.valve k.valve).thermal + s.cmu.config.heatStep)) []
          (testEnded (tripped k.valve (heat s))) := by
  have heated := heat_valve s k.valve
  rw [Valve.tick_of_on on] at heated
  rw [thermalTick_of_single few others,
    trip_of_tested (by simp [heated, hot]) (by simp [heated, on]) (by simpa [Vlc.tests] using tests_of_test test)
      (by simpa using executes), heated]

/-- A Status frame that shows the tested valve's fault, and no other, ends its test (R136). -/
theorem statusArrives_of_tested (inside : k.valve < s.vlc.valves.length) (good : statusGood frame = true) (awaits : s.vlc.phase = .awaiting)
    (awaited : s.vlc.awaited = some (frame.getD 0 0)) (link : s.vlc.link = .up)
    (fault : statusFault frame k.valve = true) (state : (s.valve k.valve).state ≠ .disabled .coil)
    (others : ∀ j < 64, j ≠ k.valve → statusFault frame j = false) :
    statusArrives frame s
      = answer e.command e.tag .valveState 5 []
          (testEnded (faulted k.valve (shown frame (windowClosed 0 s)))) := by
  have marked : (shown frame (windowClosed 0 s)).valve k.valve
      = { s.valve k.valve with coilFault := statusFault frame k.valve } := shown_valve inside
  have acted := coilFault_of_tested (s := shown frame (windowClosed 0 s)) (by rw [marked]; exact fault)
    (by rw [marked]; exact state) (tests_of_test test) executes
  rw [statusArrives_of_match good awaits awaited,
    restoreLink_of_up ((applyStatus_link frame (windowClosed 0 s)).trans link),
    applyStatus_of_single few others, acted]

end single

/-- The loss of the valve link in STANDBY ends the running test, its valve turned off (R137). -/
theorem windowCloses_of_tested (test : s.vlc.test = some k) (executes : s.cmu.executing = some e)
    (misses : 2 ≤ s.vlc.missCount) (link : s.vlc.link = .up) (standby : s.cmu.engine = .standby) {lost : State}
    (reported : linkLost (s.vlc.awaited.getD 0) (windowClosed 3 s) = lost) :
    finish (windowCloses s)
      = answer e.command e.tag .valveLink 0 []
          ((onTest k.valve (lost.setVlc { lost.vlc with test := none })).setCmu
            { s.cmu with executing := none }) := by
  have cmu : lost.cmu = s.cmu := by simp [← reported, windowClosed]
  have running : lost.vlc.test = some k := by simpa [← reported, windowClosed] using test
  rw [finish_of_idle (by simp [standby]) (by simp [standby]), windowCloses_of_third misses link, reported,
    raiseCause_of_standby (by rw [cmu, standby]), endTestOff_of_test running (by rw [cmu, executes]), cmu]

theorem exec_answerWindowClose (awaits : s.vlc.phase = .awaiting) :
    exec .answerWindowClose s = .next (finish (windowCloses s)) :=
  congrArg Host.Outcome.next (if_pos awaits)

/-- A tested valve that nothing else holds ON goes to HOLDOFF as its test ends (R124, R133). -/
theorem onTest_state_of_released (on : (s.valve i).state = .on) (waits : s.cmu.config.holdoff ≠ 0)
    (released : (s.valve i).refCount = 0 ∨ s.bpu.beltState ≠ .moving) (untested : s.vlc.test = none) :
    ((onTest i s).valve i).state = .holdoff := by
  have off : ¬ s.onHolds i := by
    rintro (⟨counted, moves⟩ | tested)
    · exact released.elim (fun none_left => by omega) (absurd moves)
    · simp [Vlc.tests, untested] at tested
  rw [onTest_of_on_off on off, enterHoldoff_of_ne_zero waits, valve_congr (setImageDue_valves _).1,
    State.setValve_valve, if_pos ⟨rfl, State.inside_of_on on⟩]

/-- Settles O39: the start of the command, its answer at the expiry, and each early end, which answers the
command as its event's own part leaves the state. -/
theorem valveTestRunsAndEnds : Obligations.ValveTestRunsAndEnds := by
  unfold Obligations.ValveTestRunsAndEnds
  refine ⟨fun h params s accepted => ?_, fun s => ⟨fun untested => ?_, fun k e test executes kind => ⟨?_, ?_⟩⟩,
    fun i e s few tested executes kind => ⟨fun due on => ?_, fun fault state => ?_⟩,
    fun k e s test few inside executes kind =>
      ⟨fun on hot others => ?_, fun frame good awaits awaited link fault state others => ?_,
        fun awaits misses link standby => ⟨?_, ?_, fun on waits released => ?_⟩⟩⟩
  · rw [exec_valveTest_of_accepts accepted]
    refine ⟨fun link => ?_, fun link state => ?_, fun link state => ?_⟩
    · rw [doValveTest_of_lost _ (by simpa using link)]
    · rw [doValveTest_of_not_idle _ (by simpa using link) (by simpa using state), heardCommand_valve]
    · rw [doValveTest_of_heard link state]
  · exact congrArg Host.Outcome.next (endTestOff_of_none untested)
  · exact congrArg Host.Outcome.next (testExpires_of_test test executes kind)
  · exact onTest_thermal k.valve _
  · rw [exec_valveTrip few, trip_of_tested due on tested executes, kind]
    rfl
  · rw [coilFault_of_tested fault state tested executes, kind]
    rfl
  · have ended := thermalTick_of_tested test few executes on hot others
    rw [kind] at ended
    refine ⟨_, congrArg Host.Outcome.next ended, rfl, by simp [testEnded], ?_⟩
    exact tripped_state (s := heat s) (by simpa [heat] using inside)
  · have ended := statusArrives_of_tested test few executes inside good awaits awaited link fault state others
    rw [kind] at ended
    refine ⟨_, congrArg Host.Outcome.next ended, rfl, by simp [testEnded, shown, windowClosed], ?_⟩
    exact faulted_state (by simpa [shown, windowClosed] using inside)
  · have reported : linkLost (s.vlc.awaited.getD 0) (windowClosed 3 s)
        = notice (.valveLinkLost (s.vlc.awaited.getD 0) .standby)
            (bump .valveLinkLosses
              (s.setVlc
                { s.vlc with
                  phase := .free, awaited := none, answerLeft := none, image := none
                  missCount := 3, link := .lost })) := by
      rw [linkLost, show (windowClosed 3 s).cmu.engine = .standby from standby]
      rfl
    rw [exec_answerWindowClose awaits, windowCloses_of_tested test executes misses link standby reported, kind]
  · simp
  · exact onTest_state_of_released (by simpa [State.valve] using on) (by simpa using waits)
      (by simpa [State.valve] using released) rfl

end Sys2Proof.Machine
end

section
/-! The Valve Port exchange (R134 ~ R138): the image, the answer window, the Status frame, and the miss. -/

namespace Sys2Proof.Machine

variable {frame : List Byte} {s : State} {i : Nat}

/-! ## The image (R134) -/

theorem imageStarts_iff (v : Vlc) :
    v.imageStarts = true ↔ v.phase = .free ∧ (v.imageDue = true ∨ 10000 ≤ v.refresh) := by
  simp [Vlc.imageStarts]

theorem exec_imageStart_of_starts (starts : s.vlc.imageStarts = true) :
    exec .imageStart s = .next (startImage s) := congrArg Host.Outcome.next (if_pos starts)

theorem exec_imageStart_of_waits (waits : ¬ s.vlc.imageStarts = true) : exec .imageStart s = .next s :=
  congrArg Host.Outcome.next (if_neg waits)

/-! ## The Status frame (R135, R136, R138) -/

theorem statusArrives_of_mismatch
    (mismatch : statusGood frame = false ∨ s.vlc.phase ≠ .awaiting ∨ s.vlc.awaited ≠ some (frame.getD 0 0)) :
    statusArrives frame s = bump .valveStatusErrors s := by
  unfold statusArrives
  refine if_neg ?_
  rcases mismatch with bad | phase | sequence
  · simp [bad]
  · simp [phase]
  · simp only [Bool.and_eq_true, decide_eq_true_eq, not_and]
    exact fun _ => sequence

/-- The link is UP after a matching Status frame. -/
theorem restoreLink_vlc (q : Byte) (s : State) : (restoreLink q s).vlc = { s.vlc with link := .up } := by
  cases link : s.vlc.link with
  | up => rw [restoreLink_of_up link, ← link]
  | lost => simp [restoreLink, link]

theorem coilFault_test (i : Nat) (s : State) :
    (coilFault i s).vlc.test
      = if ((s.valve i).coilFault = true ∧ (s.valve i).state ≠ .disabled .coil) ∧ s.vlc.tests i = true then none
        else s.vlc.test :=
  congrArg Vlc.test (coilFault_besides i s)

/-- The running test of a valve whose fault is acted on ends (R136). -/
theorem applyStatus_test {k : ValveTest} (test : s.vlc.test = some k) (few : k.valve < 64)
    (inside : k.valve < s.vlc.valves.length) (fault : statusFault frame k.valve = true)
    (state : (s.valve k.valve).state ≠ .disabled .coil) : (applyStatus frame s).vlc.test = none := by
  have walk (n : Nat) : ((List.range n).foldl (fun t i => coilFault i t) (shown frame s)).vlc.test
      = if k.valve < n then none else some k := by
    induction n with
    | zero => simpa [shown] using test
    | succ n ih =>
      have valve := foldl_range_valve (fun i t => by rw [coilFault_valve, if_pos rfl])
        (fun i j t apart => by rw [coilFault_valve, if_neg apart]) n (shown frame s) k.valve
      rw [List.range_succ, List.foldl_append, List.foldl_cons, List.foldl_nil]
      generalize (List.range n).foldl (fun t i => coilFault i t) (shown frame s) = t at ih valve ⊢
      rw [coilFault_test]
      rcases Nat.lt_trichotomy k.valve n with ended | same | ahead
      · simp [ih, ended, Nat.lt_succ_of_lt ended]
      · subst same
        have acts : (t.valve k.valve).coilFault = true ∧ (t.valve k.valve).state ≠ .disabled .coil := by
          rw [valve, if_neg (Nat.lt_irrefl _), shown_valve inside]
          exact ⟨fault, state⟩
        rw [if_pos ⟨acts, by simp [Vlc.tests, ih]⟩, if_pos (Nat.lt_succ_self _)]
      · rw [ih, if_neg (Nat.not_lt.2 ahead.le), if_neg (Nat.not_lt.2 ahead)]
        refine if_neg fun acts => ?_
        simp [Vlc.tests, ih, Nat.not_lt.2 ahead.le, ahead.ne'] at acts
  rw [applyStatus_eq, walk, if_pos few]

/-- A matching Status frame closes the window, clears the misses, restores the link, and shows its faults. -/
theorem statusArrives_port (good : statusGood frame = true) (awaits : s.vlc.phase = .awaiting)
    (awaited : s.vlc.awaited = some (frame.getD 0 0)) :
    (statusArrives frame s).vlc = { (applyStatus frame (windowClosed 0 s)).vlc with link := .up } := by
  rw [statusArrives_of_match good awaits awaited, restoreLink_vlc]

/-- What a matching Status frame leaves a valve at. -/
theorem statusArrives_valve (good : statusGood frame = true) (awaits : s.vlc.phase = .awaiting)
    (awaited : s.vlc.awaited = some (frame.getD 0 0)) (inside : i < s.vlc.valves.length) (few : i < 64) :
    (statusArrives frame s).valve i = ({ s.valve i with coilFault := statusFault frame i } : Valve).afterFault := by
  have valves : (statusArrives frame s).vlc.valves = (applyStatus frame (windowClosed 0 s)).vlc.valves := by
    rw [statusArrives_port good awaits awaited]
  rw [valve_congr valves]
  exact applyStatus_valve inside few

/-- The port after a matching Status frame (R135, R138). -/
theorem statusArrives_fields (good : statusGood frame = true) (awaits : s.vlc.phase = .awaiting)
    (awaited : s.vlc.awaited = some (frame.getD 0 0)) :
    (statusArrives frame s).vlc.phase = .free ∧ (statusArrives frame s).vlc.awaited = none
      ∧ (statusArrives frame s).vlc.answerLeft = none ∧ (statusArrives frame s).vlc.missCount = 0
      ∧ (statusArrives frame s).vlc.link = .up
      ∧ (statusArrives frame s).vlc.nextSequence = s.vlc.nextSequence := by
  obtain ⟨_, phase, _, misses, sequence, none_awaited, none_left⟩ :=
    Vlc.besides_fields (v := { (applyStatus frame (windowClosed 0 s)).vlc with test := none })
      (w := { (windowClosed 0 s).vlc with test := none }) (applyStatus_port frame (windowClosed 0 s))
  rw [statusArrives_port good awaits awaited]
  exact ⟨phase, none_awaited, none_left, misses, rfl, sequence⟩

/-- A valve whose fault is shown is DISABLED COIL; another keeps its state (R136). -/
theorem Valve.afterFault_state (v : Valve) :
    (v.coilFault = true → v.afterFault.state = .disabled .coil)
      ∧ (v.coilFault = false → v.afterFault.state = v.state) := by
  unfold Valve.afterFault
  refine ⟨fun fault => ?_, fun sound => by simp [sound]⟩
  by_cases already : v.state = .disabled .coil
  · simp [already]
  · simp [fault, already]

/-! ## The miss (R137) -/

/-- The loss of the link leaves no test (R133). -/
theorem endTestOff_besides (status : Status) (data : Nat → State → List Byte) (s : State) :
    (endTestOff status data s).vlc.besides = { s.vlc.besides with test := none } := by
  unfold endTestOff
  split
  next untested => simp [Vlc.besides, untested]
  next =>
    simp only [endCommand_keeps, onTest_besides]
    rfl

section third

variable (misses : 2 ≤ s.vlc.missCount) (link : s.vlc.link = .up)

include misses link

/-- The third miss leaves the link LOST and no test. -/
theorem windowCloses_besides :
    (windowCloses s).vlc.besides
      = { (windowClosed 3 s).vlc.besides with link := .lost, test := none } := by
  rw [windowCloses_of_third misses link, endTestOff_besides]
  simp [Vlc.besides]

/-- In SORTING or DRAINING the loss of the link is the one cause standing at the end of its event (R137, R175). -/
theorem finish_windowCloses_of_running (rest : s.atRest)
    (runs : s.cmu.engine = .sorting ∨ s.cmu.engine = .draining) :
    finish (windowCloses s) = enterFault .valveLinkLost (windowCloses s) := by
  obtain ⟨none_stands, running⟩ := rest
  refine finish_of_single_cause ?_ (by simpa using runs) fun drains => ?_
  · have raised : (raiseCause .valveLinkLost (linkLost (s.vlc.awaited.getD 0) (windowClosed 3 s))).cmu.causes
        = [.valveLinkLost] := by
      rw [raiseCause_cmu (by simpa [windowClosed] using runs)]
      simp [windowClosed, none_stands]
    rw [windowCloses_of_third misses link]
    simpa using raised
  · rw [drained_congr (s := s) (by simp) (by simp) (by simp)]
    exact running (by simpa using drains)

/-- The end of the event leaves the link LOST and no test, whatever the engine does. -/
theorem finish_windowCloses_besides (rest : s.atRest) :
    (finish (windowCloses s)).vlc.besides
      = { (windowClosed 3 s).vlc.besides with link := .lost, test := none } := by
  have port := windowCloses_besides misses link
  by_cases runs : s.cmu.engine = .sorting ∨ s.cmu.engine = .draining
  · have untested : (windowCloses s).vlc.test = none := congrArg Vlc.test port
    rw [finish_windowCloses_of_running misses link rest runs, enterFault_besides_of_untested untested, port]
  · obtain ⟨sorts, drains⟩ := not_or.1 runs
    rw [finish_of_idle (by simpa using sorts) (by simpa using drains), port]

end third

/-- Settles O40: each row of the port by the phase, the frame and the count of misses. -/
theorem valvePortExchange : Obligations.ValvePortExchange := by
  unfold Obligations.ValvePortExchange
  refine fun s => ⟨fun free due => ?_, fun waits => ?_, fun sends => ?_, fun rests => ?_, fun frame mismatch => ?_,
    fun frame good awaits awaited => ?_, fun rests => ?_, fun awaits => ⟨fun kept => ?_, fun misses link rest => ?_⟩⟩
  · exact exec_imageStart_of_starts ((imageStarts_iff _).2 ⟨free, due⟩)
  · refine exec_imageStart_of_waits fun starts => ?_
    obtain ⟨free, due⟩ := (imageStarts_iff _).1 starts
    rcases waits with busy | ⟨none_due, fresh⟩
    · exact busy free
    · rcases due with due | late
      · simp [none_due] at due
      · omega
  · exact congrArg Host.Outcome.next (if_pos sends)
  · exact congrArg Host.Outcome.next (if_neg rests)
  · exact congrArg Host.Outcome.next (statusArrives_of_mismatch mismatch)
  · obtain ⟨phase, none_awaited, none_left, misses, link, sequence⟩ := statusArrives_fields good awaits awaited
    refine ⟨statusArrives frame s, rfl, phase, none_awaited, none_left, misses, link, sequence,
      fun i inside few => ?_, by simp, by simp, by simp⟩
    rw [statusArrives_valve good awaits awaited inside few]
    obtain ⟨thermal, count, fault⟩ :=
      Valve.afterFault_keeps { s.valve i with coilFault := statusFault frame i }
    obtain ⟨disabled, kept⟩ := Valve.afterFault_state { s.valve i with coilFault := statusFault frame i }
    refine ⟨fault, count, thermal, disabled, kept, fun tested acts state => ?_⟩
    obtain ⟨k, test, rfl⟩ := (tests_iff _ _).1 tested
    have ended : (applyStatus frame (windowClosed 0 s)).vlc.test = none :=
      applyStatus_test (s := windowClosed 0 s) test few inside acts state
    simp only [statusArrives_port good awaits awaited, ended]
  · exact congrArg Host.Outcome.next (if_neg rests)
  · rw [exec_answerWindowClose awaits, windowCloses_of_kept kept]
    rfl
  · obtain ⟨test, phase, lost, count, _⟩ :=
      Vlc.besides_fields (w := { (windowClosed 3 s).vlc with link := .lost, test := none })
        (finish_windowCloses_besides misses link rest)
    refine ⟨_, exec_answerWindowClose awaits, lost, count, phase, test, fun runs => ?_, fun sorts drains => ?_⟩
    · rw [finish_windowCloses_of_running misses link rest runs]
      exact enterFault_engine _ _
    · rw [finish_of_idle (by simpa using sorts) (by simpa using drains)]
      simp

end Sys2Proof.Machine
end

section
/-! What the statements about the tables share: a command's own row once it is accepted (R164), its parameter
tests taken apart (R200), the banks read after one of them is written (R142), and a list written over from an
entry on. -/

namespace Sys2Proof.Machine

variable {c : Command} {h : Header} {p : List Byte} {s : State}

/-! ## Acceptance (R164, R200) -/

/-- The row of an accepted command takes its effect in the state that has heard it, and its event ends. -/
theorem exec_of_accepts {i : Instr} (row : exec i s = .next (receiveDi (commandOf c h p) s))
    (accepted : s.accepts c h p) :
    exec i s = .next (finish (acceptCommand c h.tag p (s.heardCommand c h p))) :=
  row.trans (congrArg Host.Outcome.next (receiveDi_of_accepts accepted))

theorem heardCommand_tbs (c : Command) (h : Header) (p : List Byte) (s : State) :
    (s.heardCommand c h p).tbs = s.tbs := by simp

theorem heardCommand_cmu (c : Command) (h : Header) (p : List Byte) (s : State) :
    (s.heardCommand c h p).cmu = s.cmu := by simp

theorem firstFailing_eq_none_iff (tests : List (Nat × Bool)) :
    firstFailing tests = none ↔ ∀ t ∈ tests, t.2 = true := by
  induction tests with
  | nil => simp [firstFailing]
  | cons t rest ih =>
    obtain ⟨position, ok⟩ := t
    cases ok <;> simp [firstFailing, ih]

/-- Every parameter of an accepted command lies in its range. -/
theorem paramTests_of_accepts (accepted : s.accepts c h p) : ∀ t ∈ c.paramTests p, t.2 = true := by
  obtain ⟨_, _, _, _, passed⟩ := accepted
  exact (firstFailing_eq_none_iff _).1 passed

/-! ## Banks (R142) -/

/-- A write of the standby bank leaves the active bank. -/
@[simp] theorem setStandby_activeBank (s : State) (x : ProductBank) :
    (s.setStandby x).tbs.activeBank = s.tbs.activeBank := by
  simp [Tbs.activeBank, setBank_bank, Tbs.standby, otherBank_ne]

@[simp] theorem setStandby_standbyBank (s : State) (x : ProductBank) :
    (s.setStandby x).tbs.standbyBank = x := by
  simp [Tbs.standbyBank, setBank_bank, Tbs.standby]

/-! ## Lists -/

theorem getElem?_writeFrom {α : Type} (first : Nat) (new l : List α) (i : Nat) :
    (writeFrom first new l)[i]? = l[i]?.map (fun x =>
      if first ≤ i ∧ i < first + new.length then new.getD (i - first) x else x) := by
  simp [writeFrom, getElem?_mapFrom]

/-- A list whose entry `j` is `entry j` is written over from entry `first` on. -/
theorem getElem?_writeFrom_of_entries {α : Type} {new : List α} {n : Nat} {entry : Nat → α}
    (length : new.length = n) (entries : ∀ j < n, new[j]? = some (entry j)) (first : Nat) (l : List α)
    (i : Nat) :
    (writeFrom first new l)[i]? = l[i]?.map (fun x =>
      if first ≤ i ∧ i < first + n then entry (i - first) else x) := by
  rw [getElem?_writeFrom, length]
  congr 1
  funext x
  split
  next inside => rw [List.getD_eq_getElem?_getD, entries _ (by omega), Option.getD_some]
  next => rfl

end Sys2Proof.Machine
end

section
/-! CCT_WRITE by its check word (R149), BLOCK_MARK by the block's state and its action (R154), and the statement
about them. -/

namespace Sys2Proof.Machine

variable {p : List Byte} {s : State} {name : Bank} {n : Nat}

/-! ## CCT_WRITE (R149) -/

theorem doCctWrite_of_agrees (tag : Word16) (agrees : (blockCheck (cctCodes p)).toNat = u16 p 257) :
    doCctWrite tag p s
      = answer .cctWrite tag .ok (s.tbs.standbyBank.block (u8 p 0)).state.code []
          (s.setBlock s.tbs.standby (u8 p 0)
            { codes := cctCodes p, check := blockCheck (cctCodes p), state := .valid }) := if_pos agrees

theorem doCctWrite_of_differs (tag : Word16) (differs : (blockCheck (cctCodes p)).toNat ≠ u16 p 257) :
    doCctWrite tag p s = answer .cctWrite tag .badCheck (blockCheck (cctCodes p)).toNat [] s := if_neg differs

/-! ## BLOCK_MARK (R154) -/

theorem doBlockMark_of_unwritten (tag : Word16)
    (unwritten : ((s.tbs.bank (bankOf (u8 p 0))).block (u8 p 1)).state = .unwritten) :
    doBlockMark tag p s = answer .blockMark tag .badState 0 [] s := if_pos unwritten

/-- The mark of a written block is made by its action. -/
theorem doBlockMark_of_written (tag : Word16)
    (written : ((s.tbs.bank (bankOf (u8 p 0))).block (u8 p 1)).state ≠ .unwritten) :
    doBlockMark tag p s
      = if u8 p 2 = 1 then recheck tag (bankOf (u8 p 0)) (u8 p 1) s
        else markBad tag (bankOf (u8 p 0)) (u8 p 1) s := if_neg written

theorem recheck_of_agrees (tag : Word16)
    (agrees : blockCheck ((s.tbs.bank name).block n).codes = ((s.tbs.bank name).block n).check) :
    recheck tag name n s
      = answer .blockMark tag .ok 0 []
          (s.setBlock name n { (s.tbs.bank name).block n with state := .valid }) := if_pos agrees

theorem recheck_of_differs (tag : Word16)
    (differs : blockCheck ((s.tbs.bank name).block n).codes ≠ ((s.tbs.bank name).block n).check) :
    recheck tag name n s
      = answer .blockMark tag .badCheck (blockCheck ((s.tbs.bank name).block n).codes).toNat []
          (s.setBlock name n { (s.tbs.bank name).block n with state := .bad }) := if_neg differs

/-- Both rows of an accepted BLOCK_MARK take its effect in the state that has heard it. -/
theorem exec_blockMark_of_accepts {h : Header} (accepted : s.accepts .blockMark h p) :
    exec (.blockMarkBad h p) s = .next (finish (doBlockMark h.tag p (s.heardCommand .blockMark h p)))
      ∧ exec (.blockMarkRecheck h p) s
        = .next (finish (doBlockMark h.tag p (s.heardCommand .blockMark h p))) :=
  ⟨exec_of_accepts rfl accepted, exec_of_accepts rfl accepted⟩

/-- Settles O26: hearing the command leaves the tables, so that its effect goes by the block as it stood. -/
theorem blocksAreWrittenAndMarked : Obligations.BlocksAreWrittenAndMarked := by
  unfold Obligations.BlocksAreWrittenAndMarked
  refine ⟨fun h p s accepted => ⟨fun agrees => ?_, fun differs => ?_⟩, fun h p s accepted => ?_⟩
  · rw [exec_of_accepts rfl accepted, acceptCommand, doCctWrite_of_agrees _ agrees, Tbs.standby, heardCommand_tbs]
    rfl
  · rw [exec_of_accepts rfl accepted, acceptCommand, doCctWrite_of_differs _ differs]
    rfl
  · obtain ⟨bad, checked⟩ := exec_blockMark_of_accepts accepted
    have tables := heardCommand_tbs .blockMark h p s
    rw [bad, checked]
    refine ⟨fun unwritten => ?_, fun written action => ?_, fun written action agrees => ?_,
      fun written action differs => ?_⟩
    · rw [doBlockMark_of_unwritten _ (by rwa [tables])]
      exact ⟨rfl, rfl⟩
    · rw [doBlockMark_of_written _ (by rwa [tables]), if_neg (by omega), markBad, tables]
    · rw [doBlockMark_of_written _ (by rwa [tables]), if_pos action, recheck_of_agrees _ (by rwa [tables]), tables]
    · rw [doBlockMark_of_written _ (by rwa [tables]), if_pos action, recheck_of_differs _ (by rwa [tables]), tables]

end Sys2Proof.Machine
end

section
/-! The entries that a payload carries, one by one (12.2), the table writes on the tables as they stand (R150 ~
R152), and the statement about them. -/

namespace Sys2Proof.Machine

variable {h : Header} {p : List Byte} {s : State}

/-! ## The entries of a payload (12.2) -/

theorem u8_drop (bytes : List Byte) (n off : Nat) : u8 (bytes.drop n) off = u8 bytes (n + off) := by
  simp [u8, List.getD_eq_getElem?_getD]

/-- A list of `n` NBT entries takes 3 bytes for each: `low`, `high`, the override class. -/
theorem length_nbtEntries {n : Nat} {bytes : List Byte} (length : bytes.length = 3 * n) :
    (nbtEntries bytes).length = n := by
  induction n generalizing bytes with
  | zero => simp [List.length_eq_zero_iff.1 length, nbtEntries]
  | succ n ih =>
    match bytes, length with
    | _ :: _ :: _ :: rest, length => simp [nbtEntries, ih (bytes := rest) (by simpa [Nat.mul_succ] using length)]

theorem getElem?_nbtEntries {n j : Nat} {bytes : List Byte} (length : bytes.length = 3 * n) (inside : j < n) :
    (nbtEntries bytes)[j]?
      = some
          { low := u8 bytes (3 * j)
            high := u8 bytes (1 + 3 * j)
            override := Fin.ofNat 16 (u8 bytes (2 + 3 * j)) } := by
  induction n generalizing bytes j with
  | zero => omega
  | succ n ih =>
    match bytes, length with
    | a :: b :: c :: rest, length =>
      cases j with
      | zero => simp [nbtEntries, u8]
      | succ j =>
        rw [nbtEntries, List.getElem?_cons_succ,
          ih (by simpa [Nat.mul_succ] using length) (Nat.lt_of_succ_lt_succ inside)]
        simp [u8, Nat.mul_succ, ← Nat.add_assoc]

theorem getElem?_vmtEntries {j : Nat} {bytes : List Byte} (inside : j < bytes.length) :
    (bytes.map vmtEntry)[j]? = some (if u8 bytes j ≤ 63 then some (u8 bytes j) else none) := by
  simp [vmtEntry, u8, inside]

theorem length_ccalEntries (n : Nat) (bytes : List Byte) : (ccalEntries n bytes).length = n := by
  induction n generalizing bytes with
  | zero => rfl
  | succ n ih => simp [ccalEntries, ih]

theorem getElem?_ccalEntries {n j : Nat} (bytes : List Byte) (inside : j < n) :
    (ccalEntries n bytes)[j]? = some (ccalEntry (bytes.drop (12 * j))) := by
  induction n generalizing bytes j with
  | zero => omega
  | succ n ih =>
    cases j with
    | zero => simp [ccalEntries]
    | succ j =>
      rw [ccalEntries, List.getElem?_cons_succ, ih _ (Nat.lt_of_succ_lt_succ inside), List.drop_drop,
        Nat.mul_succ, Nat.add_comm]

theorem measure_ofCode (n : Nat) : Measure.ofCode n = if n = 0 then .count else .share := by
  cases n <;> rfl

theorem ruleAction_ofCode (n : Nat) : RuleAction.ofCode n = if n = 0 then .accept else .reject := by
  cases n <;> rfl

/-! ## What the tests of an accepted write say (R151, R152) -/

/-- An accepted NBT_WRITE carries as many entries as it says. -/
theorem nbtWrite_length (accepted : s.accepts .nbtWrite h p) : (p.drop 2).length = 3 * u8 p 1 := by
  have counted := paramTests_of_accepts accepted
  simp only [Command.paramTests, List.forall_mem_cons, Bool.and_eq_true, decide_eq_true_eq] at counted
  obtain ⟨_, ⟨_, length⟩, _⟩ := counted
  simp [length]

/-- An accepted VMT_WRITE carries as many entries as it says. -/
theorem vmtWrite_length (accepted : s.accepts .vmtWrite h p) : (p.drop 4).length = u16 p 2 := by
  have counted := paramTests_of_accepts accepted
  simp only [Command.paramTests, List.forall_mem_cons, Bool.and_eq_true, decide_eq_true_eq] at counted
  obtain ⟨_, ⟨_, length⟩, _⟩ := counted
  simp [length]

/-! ## The statement -/

/-- Settles O27: a write takes effect on the tables as they stood before its frame was heard, and the entry it
leaves at `i` is the carried one or the one that stood. -/
theorem tableWritesReachTheirEntries : Obligations.TableWritesReachTheirEntries := by
  unfold Obligations.TableWritesReachTheirEntries
  refine ⟨fun h p s accepted => ?_, fun h p s accepted => ?_, fun h p s accepted => ?_,
    fun h p s accepted => ?_, fun h p s accepted => ?_⟩
  · refine ⟨_, _, exec_of_accepts rfl accepted, rfl, ?_, ?_, fun i => ?_⟩
    · rw [setStandby_standbyBank, heardCommand_tbs]
    · rw [setStandby_activeBank, heardCommand_tbs]
    · rw [setStandby_standbyBank, heardCommand_tbs, getElem?_mapFrom, Nat.zero_add]
      rfl
  · have length := nbtWrite_length accepted
    refine ⟨_, _, exec_of_accepts rfl accepted, rfl, ?_, ?_, fun i => ?_⟩
    · rw [setStandby_standbyBank, heardCommand_tbs]
    · rw [setStandby_activeBank, heardCommand_tbs]
    · rw [setStandby_standbyBank, heardCommand_tbs,
        getElem?_writeFrom_of_entries (length_nbtEntries length) fun j inside => getElem?_nbtEntries length inside]
      simp only [u8_drop, ← Nat.add_assoc, Nat.reduceAdd]
  · refine ⟨fun named => ?_, fun defaults => ?_⟩
    · rw [exec_of_accepts rfl accepted, acceptCommand, doRrtWrite, if_pos named, heardCommand_tbs]
      simp only [ruleOf, measure_ofCode, ruleAction_ofCode]
    · rw [exec_of_accepts rfl accepted, acceptCommand, doRrtWrite, if_neg (by omega), heardCommand_tbs,
        ruleAction_ofCode]
  · refine ⟨_, _, exec_of_accepts rfl accepted, rfl, ?_, fun i => ?_⟩
    · rw [State.setTbs_tbs, heardCommand_tbs]
    · rw [State.setTbs_tbs, heardCommand_tbs,
        getElem?_writeFrom_of_entries (by rw [List.length_map, vmtWrite_length accepted])
          fun j inside => getElem?_vmtEntries (by rwa [vmtWrite_length accepted])]
      simp only [u8_drop]
  · refine ⟨_, _, exec_of_accepts rfl accepted, rfl, ?_, fun i => ?_⟩
    · rw [State.setTbs_tbs, heardCommand_tbs]
    · rw [State.setTbs_tbs, heardCommand_tbs,
        getElem?_writeFrom_of_entries (length_ccalEntries _ _) fun j inside => getElem?_ccalEntries _ inside]
      simp only [ccalEntry, List.drop_drop]

end Sys2Proof.Machine
end

section
/-! BANK_COPY (R155): its acceptance, the step of a block, the final step, and the statement about it. -/

namespace Sys2Proof.Machine

variable {s : State} {k : CopyProgress} {e : Executing}

/-- A copied block is BAD where a VALID source failed its check, and only there. -/
theorem copied_failed_iff (x : CctBlock) :
    (decide (x.state = .valid) && decide (x.copied.state = .bad)) = true
      ↔ x.state = .valid ∧ blockCheck x.codes ≠ x.check := by
  by_cases fails : x.state = .valid ∧ blockCheck x.codes ≠ x.check
  · simp [CctBlock.copied, fails]
  · have kept : x.copied = x := if_neg fails
    simp only [kept, Bool.and_eq_true, decide_eq_true_eq, fails, iff_false]
    rintro ⟨valid, bad⟩
    simp [valid] at bad

/-- The step of a block writes the copied block, and counts it if it failed its check. -/
theorem copyBlock_eq (k : CopyProgress) (s : State) :
    copyBlock k s
      = s.setTbs
          { (s.tbs.setBank s.tbs.standby
              (s.tbs.standbyBank.setBlock k.next (s.tbs.activeBank.block k.next).copied)) with
            copy := some
              { next := k.next + 1
                badCopies :=
                  if (s.tbs.activeBank.block k.next).state = .valid
                      ∧ blockCheck (s.tbs.activeBank.block k.next).codes
                        ≠ (s.tbs.activeBank.block k.next).check then k.badCopies + 1
                  else k.badCopies } } := by
  simp only [copyBlock, copied_failed_iff]
  split <;> rfl

theorem copyStep_of_no_copy (idle : s.tbs.copy = none) : copyStep s = s := by simp [copyStep, idle]

theorem copyStep_of_block (copy : s.tbs.copy = some k) (block : k.next < 128) :
    copyStep s = copyBlock k s := by simp [copyStep, copy, block]

theorem copyStep_of_tables (copy : s.tbs.copy = some k) (tables : 128 ≤ k.next) :
    copyStep s = copyTables k s := by simp [copyStep, copy, Nat.not_lt.2 tables]

/-- Settles O28: a step is the copy of a block while one is left, then the copy of the tables, whose end is
BANK_COPY's answer. -/
theorem bankCopyStepsThroughTheBank : Obligations.BankCopyStepsThroughTheBank := by
  unfold Obligations.BankCopyStepsThroughTheBank
  refine ⟨fun h p s accepted => ?_, fun s => ⟨fun idle => ?_, fun k copy block => ?_,
    fun k e copy tables executes isCopy => ?_⟩⟩
  · rw [exec_of_accepts rfl accepted, acceptCommand, doBankCopy, beginCommand, State.setTbs_cmu, heardCommand_tbs,
      heardCommand_cmu]
  · exact congrArg Host.Outcome.next (copyStep_of_no_copy idle)
  · exact ⟨_, congrArg Host.Outcome.next ((copyStep_of_block copy block).trans (copyBlock_eq k s)), rfl,
      setStandby_activeBank s _, rfl⟩
  · have ends := (copyStep_of_tables copy tables).trans (endCommand_of_executing executes)
    rw [isCopy] at ends
    exact ⟨_, congrArg Host.Outcome.next ends, rfl, rfl⟩

end Sys2Proof.Machine
end

section
/-! The scrubber (R157): the check at its interval, the line that counts toward it, an entry that changes of
itself, and the statement about them. -/

namespace Sys2Proof.Machine

variable {s : State}

/-! ## A notice and the tables -/

theorem roKick_setTbs (s : State) (x : Tbs) : roKick (s.setTbs x) = (roKick s).setTbs x := by
  have pass : roSendPass (s.setTbs x) = (roSendPass s).setTbs x := by
    simp only [roSendPass, State.setTbs_lki]
    split <;> rfl
  have report : roSendReport (s.setTbs x) = (roSendReport s).setTbs x := by
    simp only [roSendReport, State.setTbs_rpu]
    split <;> rfl
  have choice : roChoose (s.setTbs x) = (roChoose s).setTbs x := by
    simp only [roChoose, State.setTbs_lki, State.setTbs_rpu, pass, report]
    repeat' split
    all_goals rfl
  simp only [roKick, State.setTbs_lki, choice]
  split <;> rfl

/-- What a notice does is the same whatever the tables hold. -/
theorem notice_setTbs (n : Notice) (s : State) (x : Tbs) : notice n (s.setTbs x) = (notice n s).setTbs x := by
  have join (r : Report) : joinRq r (s.setTbs x) = (joinRq r s).setTbs x :=
    roKick_setTbs (s.setRpu { s.rpu with rq := s.rpu.rq ++ [r] }) x
  have same : notice n (s.setTbs x)
      = if s.numbered then
          if decide (s.rpu.notices < 4) || s.rpu.generalFree then (joinRq (.notice s.unitNumber n) s).setTbs x
          else (bump .noticesDropped s).setTbs x
        else s.setTbs x := by
    rw [← join]
    rfl
  rw [same, notice]
  repeat' split
  all_goals rfl

/-! ## The check (R157) -/

/-- The count set back before a bank is written, and the pointer raised after it. -/
theorem setBank_scrubbed (t : Tbs) (name : Bank) (x : ProductBank) :
    { ({ t with scrubCount := 0 } : Tbs).setBank name x with
      scrubPointer := ((({ t with scrubCount := 0 } : Tbs).setBank name x).scrubPointer + 1) % 128 }
      = { t.setBank name x with scrubCount := 0, scrubPointer := (t.scrubPointer + 1) % 128 } := by
  cases name <;> rfl

theorem scrubIfDue_of_early
    (early : s.cmu.config.scrubInterval = 0 ∨ s.tbs.scrubCount < s.cmu.config.scrubInterval) :
    scrubIfDue s = s := if_neg (by omega)

theorem scrubIfDue_of_due (set : s.cmu.config.scrubInterval ≠ 0)
    (due : s.cmu.config.scrubInterval ≤ s.tbs.scrubCount) : scrubIfDue s = scrubCheck s := if_pos ⟨set, due⟩

/-- The pointer rises from where the recheck of the block leaves it. -/
theorem scrubCheck_of_block {t : State} {x : Tbs}
    (block : scrubBlock (s.setTbs { s.tbs with scrubCount := 0 }) = t.setTbs x) :
    scrubCheck s = t.setTbs { x with scrubPointer := (x.scrubPointer + 1) % 128 } := by
  simp only [scrubCheck, block]
  rfl

/-- A VALID block that fails its check is marked, counted and noticed. -/
theorem scrubCheck_of_fails (valid : (s.tbs.activeBank.block s.tbs.scrubPointer).state = .valid)
    (fails : blockCheck (s.tbs.activeBank.block s.tbs.scrubPointer).codes
      ≠ (s.tbs.activeBank.block s.tbs.scrubPointer).check) :
    scrubCheck s
      = (notice
          (.tableBlockBad s.tbs.active s.tbs.scrubPointer (s.tbs.activeBank.block s.tbs.scrubPointer).check
            (blockCheck (s.tbs.activeBank.block s.tbs.scrubPointer).codes))
          (bump .scrubMismatches s)).setTbs
          { (s.tbs.setBank s.tbs.active
              (s.tbs.activeBank.setBlock s.tbs.scrubPointer
                { s.tbs.activeBank.block s.tbs.scrubPointer with state := .bad })) with
            scrubCount := 0
            scrubPointer := (s.tbs.scrubPointer + 1) % 128 } := by
  have marked : scrubBlock (s.setTbs { s.tbs with scrubCount := 0 }) = _ :=
    (if_pos ⟨valid, fails⟩).trans (notice_setTbs _ (bump .scrubMismatches s) _)
  exact (scrubCheck_of_block marked).trans (congrArg _ (setBank_scrubbed _ _ _))

theorem scrubCheck_of_passes (passes : (s.tbs.activeBank.block s.tbs.scrubPointer).state ≠ .valid
      ∨ blockCheck (s.tbs.activeBank.block s.tbs.scrubPointer).codes
        = (s.tbs.activeBank.block s.tbs.scrubPointer).check) :
    scrubCheck s = s.setTbs { s.tbs with scrubCount := 0, scrubPointer := (s.tbs.scrubPointer + 1) % 128 } :=
  scrubCheck_of_block (if_neg fun ⟨valid, fails⟩ => passes.elim (· valid) fails)

/-- Settles O30: the check made at the interval is that of the block under the pointer, with the count set
back before it. -/
theorem scrubberRechecksTheActiveBlock : Obligations.ScrubberRechecksTheActiveBlock := by
  unfold Obligations.ScrubberRechecksTheActiveBlock
  refine ⟨fun s => ⟨fun early => ?_, fun set due => ⟨fun valid fails => ?_, fun passes => ?_⟩, fun unset => ?_,
    fun set => ?_⟩, fun name index code s => ⟨fun inside => ?_, fun outside => ?_⟩⟩
  · exact congrArg Host.Outcome.next (scrubIfDue_of_early early)
  · exact congrArg Host.Outcome.next ((scrubIfDue_of_due set due).trans (scrubCheck_of_fails valid fails))
  · exact congrArg Host.Outcome.next ((scrubIfDue_of_due set due).trans (scrubCheck_of_passes passes))
  · exact if_pos unset
  · exact congrArg Host.Outcome.next (if_neg set)
  · exact if_pos inside
  · exact if_neg (Nat.not_lt.2 outside)

end Sys2Proof.Machine
end

section
/-! BANK_SWAP (R158 ~ R160): its acceptance, a pending swap at a line boundary, the test inside the take of a line
(R56), and the statement about it. -/

namespace Sys2Proof.Machine

variable {s : State} {k : PendingSwap} {e : Executing}

/-! ## Acceptance (R158) -/

section acceptance

variable {n : Nat}

theorem doBankSwap_of_unwritten (tag : Word16) (p : List Byte)
    (unwritten : s.tbs.standbyBank.firstIn .unwritten = some n) :
    doBankSwap tag p s = answer .bankSwap tag .bankIncomplete n [] s := by
  simp only [doBankSwap, unwritten]

theorem doBankSwap_of_bad (tag : Word16) (p : List Byte)
    (written : s.tbs.standbyBank.firstIn .unwritten = none)
    (bad : s.tbs.standbyBank.firstIn .bad = some n) :
    doBankSwap tag p s = answer .bankSwap tag .bankHasBad n [] s := by
  simp only [doBankSwap, written, bad]

theorem doBankSwap_of_whole (tag : Word16) (p : List Byte)
    (written : s.tbs.standbyBank.firstIn .unwritten = none) (sound : s.tbs.standbyBank.firstIn .bad = none) :
    doBankSwap tag p s = acceptSwap tag (u8 p 0) s := by
  simp only [doBankSwap, written, sound]

theorem acceptSwap_of_sorting (tag : Word16) (deadline : Nat) (sorts : s.cmu.engine = .sorting) :
    acceptSwap tag deadline s
      = (s.setTbs
          { s.tbs with
            swap :=
              some
                { deadline := if deadline = 0 then s.cmu.config.swapDeadline else deadline
                  counted := 0 } }).setCmu
          { s.cmu with executing := some { command := .bankSwap, tag := tag } } := if_pos sorts

theorem acceptSwap_of_not_sorting (tag : Word16) (deadline : Nat) (rests : s.cmu.engine ≠ .sorting) :
    acceptSwap tag deadline s = answer .bankSwap tag .ok 0 [] (exchangeBanks s) := if_neg rests

end acceptance

/-! ## A pending swap at a signalled boundary (R159) -/

/-- The boundary has been acted on. -/
def boundaryTaken (s : State) : State := s.setTbs { s.tbs with boundary := false }

theorem swapAtQuietPoint_of_idle (idle : s.tbs.boundary = false ∨ s.tbs.swap = none) :
    swapAtQuietPoint s = s := by
  rcases idle with unsignalled | unpending <;> simp [swapAtQuietPoint, *]

theorem swapAtDeadline_of_idle (idle : s.tbs.boundary = false ∨ s.tbs.swap = none) :
    swapAtDeadline s = s := by
  unfold swapAtDeadline
  split
  next => rfl
  next pending => rcases idle with unsignalled | unpending <;> simp_all

theorem swapCount_of_no_swap (unpending : s.tbs.swap = none) : swapCount s = s := by
  simp only [swapCount, unpending]

theorem swapAtQuietPoint_of_quiet (boundary : s.tbs.boundary = true) (pending : s.tbs.swap = some k)
    (quiet : s.quiet = true) : swapAtQuietPoint s = swapQuietly (boundaryTaken s) := by
  simp [swapAtQuietPoint, boundaryTaken, boundary, pending, quiet]

theorem swapAtQuietPoint_of_busy (busy : s.quiet = false) : swapAtQuietPoint s = s := by
  simp [swapAtQuietPoint, busy]

theorem swapAtDeadline_of_quiet (quiet : s.quiet = true) : swapAtDeadline s = s := by
  unfold swapAtDeadline
  split <;> simp [quiet]

theorem swapAtDeadline_of_reached (boundary : s.tbs.boundary = true) (pending : s.tbs.swap = some k)
    (busy : s.quiet = false) (reached : k.deadline ≤ k.counted) :
    swapAtDeadline s = swapForced (boundaryTaken s) := by
  simp [swapAtDeadline, boundaryTaken, boundary, pending, busy, reached]

theorem swapAtDeadline_of_below (pending : s.tbs.swap = some k) (below : k.counted < k.deadline) :
    swapAtDeadline s = s := by
  simp [swapAtDeadline, pending, Nat.not_le.2 below]

/-! ## The completion (R160) -/

/-- The end of the executing BANK_SWAP is its answer. -/
theorem endCommand_of_swap {status : Status} {detail : Nat} (executes : s.cmu.executing = some e)
    (isSwap : e.command = .bankSwap) :
    endCommand status detail [] s
      = answer .bankSwap e.tag status detail [] (s.setCmu { s.cmu with executing := none }) := by
  rw [endCommand_of_executing executes, isSwap]

theorem swapQuietly_of_executing (executes : s.cmu.executing = some e) (isSwap : e.command = .bankSwap) :
    swapQuietly s
      = answer .bankSwap e.tag .ok 0 [] ((exchangeBanks s).setCmu { s.cmu with executing := none }) :=
  endCommand_of_swap (s := exchangeBanks s) executes isSwap

theorem swapForced_of_executing (executes : s.cmu.executing = some e) (isSwap : e.command = .bankSwap) :
    swapForced s
      = answer .bankSwap e.tag .ok s.inFlight []
          ((exchangeBanks (bump .swapsForced (markMixed s))).setCmu { s.cmu with executing := none }) :=
  endCommand_of_swap (s := exchangeBanks (bump .swapsForced (markMixed s))) executes isSwap

/-- A swap that completes is no longer pending, and does not touch the boundary. -/
theorem exchanged_ends (status : Status) (detail : Nat) (s : State) :
    (endCommand status detail [] (exchangeBanks s)).tbs.swap = none
      ∧ (endCommand status detail [] (exchangeBanks s)).tbs.boundary = s.tbs.boundary := by
  simp [exchangeBanks]

/-! ## The test inside the take of a line (R56, R159) -/

/-- The state in which the take of a line tests a pending swap. -/
def boundarySignalled (s : State) : State := s.setTbs { s.tbs with boundary := true }

theorem boundaryTaken_of_taken (taken : s.tbs.boundary = false) : boundaryTaken s = s := by
  unfold boundaryTaken
  rw [← taken]
  rfl

/-- A swap that completes at the boundary ends the test. -/
theorem lineBoundary_of_completed {t : State}
    (tested : swapAtDeadline (swapAtQuietPoint (boundarySignalled s)) = t)
    (ended : t.tbs.swap = none ∧ t.tbs.boundary = false) : lineBoundary s = t := by
  obtain ⟨unpending, taken⟩ := ended
  subst tested
  show boundaryTaken (swapCount (swapAtDeadline (swapAtQuietPoint (boundarySignalled s)))) = _
  rw [swapCount_of_no_swap unpending, boundaryTaken_of_taken taken]

theorem lineBoundary_of_quiet (pending : s.tbs.swap = some k) (quiet : s.quiet = true) :
    lineBoundary s = swapQuietly (boundaryTaken s) := by
  have ended := exchanged_ends .ok 0 (boundaryTaken s)
  refine lineBoundary_of_completed ?_ ended
  rw [swapAtQuietPoint_of_quiet (s := boundarySignalled s) rfl pending quiet]
  exact swapAtDeadline_of_idle (.inr ended.1)

theorem lineBoundary_of_reached (pending : s.tbs.swap = some k) (busy : s.quiet = false)
    (reached : k.deadline ≤ k.counted) : lineBoundary s = swapForced (boundaryTaken s) := by
  refine lineBoundary_of_completed ?_ (exchanged_ends .ok _ (bump .swapsForced (markMixed (boundaryTaken s))))
  rw [swapAtQuietPoint_of_busy (s := boundarySignalled s) busy]
  exact swapAtDeadline_of_reached (s := boundarySignalled s) rfl pending busy reached

/-- Below the deadline the line counts (R159). -/
theorem lineBoundary_of_below (pending : s.tbs.swap = some k) (busy : s.quiet = false)
    (below : k.counted < k.deadline) :
    lineBoundary s
      = s.setTbs { s.tbs with swap := some { k with counted := k.counted + 1 }, boundary := false } := by
  have counts : swapCount (boundarySignalled s)
      = (boundarySignalled s).setTbs
          { (boundarySignalled s).tbs with swap := some { k with counted := k.counted + 1 } } := by
    simp [swapCount, boundarySignalled, pending]
  show boundaryTaken (swapCount (swapAtDeadline (swapAtQuietPoint (boundarySignalled s)))) = _
  rw [swapAtQuietPoint_of_busy (s := boundarySignalled s) busy,
    swapAtDeadline_of_below (s := boundarySignalled s) pending below, counts]
  rfl

/-! ## The statement -/

/-- Settles O29: the command by the standby bank and the engine state; the rows and the take of a line by the
same completion, made from the state in which the boundary has been acted on. -/
theorem bankSwapCompletesOrWaits : Obligations.BankSwapCompletesOrWaits := by
  unfold Obligations.BankSwapCompletesOrWaits
  refine ⟨fun h p s accepted => ?_, fun s => ⟨fun idle => ?_,
    fun k e boundary pending executes isSwap => ⟨fun quiet => ?_, fun busy reached => ?_, fun busy below => ?_⟩,
    lineBoundary_of_no_swap, fun k e pending executes isSwap => ⟨fun quiet => ?_, fun busy reached => ?_⟩,
    fun k => lineBoundary_of_below⟩⟩
  · have tables := heardCommand_tbs .bankSwap h p s
    have command := heardCommand_cmu .bankSwap h p s
    rw [exec_of_accepts rfl accepted, acceptCommand]
    refine ⟨fun n unwritten => ?_, fun n written bad => ?_,
      fun written sound => ⟨fun sorts => ?_, fun stands => ?_⟩⟩
    · rw [doBankSwap_of_unwritten _ _ (by rwa [tables])]
    · rw [doBankSwap_of_bad _ _ (by rwa [tables]) (by rwa [tables])]
    · rw [doBankSwap_of_whole _ _ (by rwa [tables]) (by rwa [tables]), acceptSwap_of_sorting _ _ (by rwa [command]),
        tables, command]
    · rw [doBankSwap_of_whole _ _ (by rwa [tables]) (by rwa [tables]),
        acceptSwap_of_not_sorting _ _ (by simp [stands]), exchangeBanks, tables,
        finish_of_idle] <;> simp [answer, stands]
  · exact ⟨congrArg Host.Outcome.next (swapAtQuietPoint_of_idle idle),
      congrArg Host.Outcome.next (swapAtDeadline_of_idle idle)⟩
  · exact ⟨congrArg Host.Outcome.next ((swapAtQuietPoint_of_quiet boundary pending quiet).trans
        (swapQuietly_of_executing (s := boundaryTaken s) executes isSwap)),
      congrArg Host.Outcome.next (swapAtDeadline_of_quiet quiet)⟩
  · exact ⟨congrArg Host.Outcome.next (swapAtQuietPoint_of_busy busy), _,
      congrArg Host.Outcome.next ((swapAtDeadline_of_reached boundary pending busy reached).trans
        (swapForced_of_executing (s := boundaryTaken s) executes isSwap)), rfl, rfl, rfl, rfl, rfl⟩
  · exact ⟨congrArg Host.Outcome.next (swapAtQuietPoint_of_busy busy),
      congrArg Host.Outcome.next (swapAtDeadline_of_below pending below)⟩
  · exact (lineBoundary_of_quiet pending quiet).trans
      (swapQuietly_of_executing (s := boundaryTaken s) executes isSwap)
  · exact ⟨_, (lineBoundary_of_reached pending busy reached).trans
      (swapForced_of_executing (s := boundaryTaken s) executes isSwap), rfl, rfl, rfl, rfl, rfl⟩

end Sys2Proof.Machine
end

section
/-! The tests of a received command in their order (R164, R200), the command gate (R194) and the destination
filter (R182), and the statement about them. -/

namespace Sys2Proof.Machine

variable {c : Command} {h : Header} {p : List Byte} {s : State}

/-! ## The rows of the commands -/

/-- The row of a command is the reception of its command frame (12.2). -/
theorem exec_row (c : Command) (h : Header) (p : List Byte) (s : State) :
    exec (c.row h p) s = .next (receiveDi (commandOf c h p) s) := by
  cases c
  case blockMark | valveControl =>
    unfold Command.row
    dsimp only
    split <;> rfl
  all_goals rfl

/-! ## The four tests (R164) -/

section tests

variable (tag : Word16)

theorem testCommand_of_badLength (length : c.lengthOk (p.length + 1) = false) :
    testCommand c tag p s = answer c tag .badLength (p.length + 1) [] s := by
  simp only [testCommand, length, Bool.not_false, if_true]

theorem testCommand_of_badState (length : c.lengthOk (p.length + 1) = true)
    (refuses : c.takenIn s.cmu.engine = false) :
    testCommand c tag p s = answer c tag .badState s.cmu.engine.code [] s := by
  simp [testCommand, length, refuses]

theorem testCommand_of_busy {e : Executing} (length : c.lengthOk (p.length + 1) = true)
    (taken : c.takenIn s.cmu.engine = true) (sequenced : c.sequenced = true)
    (executes : s.cmu.executing = some e) :
    testCommand c tag p s = answer c tag .busy e.command.code [] s := by
  simp [testCommand, length, taken, sequenced, executes]

theorem testCommand_of_badParam {n : Nat} (length : c.lengthOk (p.length + 1) = true)
    (taken : c.takenIn s.cmu.engine = true) (free : c.sequenced = true → s.cmu.executing = none)
    (fails : firstFailing (c.paramTests p) = some n) :
    testCommand c tag p s = answer c tag .badParam n [] s := by
  cases sequenced : c.sequenced with
  | false => simp [testCommand, length, taken, sequenced, fails]
  | true => simp [testCommand, length, taken, sequenced, free sequenced, fails]

end tests

/-! ## A refusal (R164) -/

/-- A command answered in the state that has heard it changes nothing but the link and the reports. -/
theorem answer_heardCommand_sameButLink (status : Status) (detail : Nat) :
    s.sameButLink (answer c h.tag status detail [] (s.heardCommand c h p)) := by
  simp [State.sameButLink, answer]

theorem answer_heardCommand_atRest (rest : s.atRest) (status : Status) (detail : Nat) :
    (answer c h.tag status detail [] (s.heardCommand c h p)).atRest :=
  atRest_congr rest (by simp [answer]) (by simp [answer]) (by simp [answer]) (by simp [answer])

/-- A received command that its tests refuse is answered, and changes nothing but the link and the reports. -/
theorem exec_row_of_refused {status : Status} {detail : Nat} (received : s.receives h)
    (fits : p.length + 1 ≤ maxPayload)
    (refused : testCommand c h.tag p (s.heardCommand c h p)
      = answer c h.tag status detail [] (s.heardCommand c h p)) :
    exec (c.row h p) s = .next (finish (answer c h.tag status detail [] (s.heardCommand c h p)))
      ∧ (s.atRest →
          s.sameButLink (finish (answer c h.tag status detail [] (s.heardCommand c h p)))) := by
  refine ⟨?_, fun rest => ?_⟩
  · rw [exec_row, receiveDi_of_receives received fits, refused]
  · rw [finish_of_atRest (answer_heardCommand_atRest rest status detail)]
    exact answer_heardCommand_sameButLink status detail

/-! ## Payloads of no known command, the gate and the filter (R164, R182, R194, R199) -/

section payloads

variable {payload : List Byte}

/-- A CMD frame that fits the envelope is heard, acted on, and its event ends. -/
theorem receiveDi_cmdFrame (fits : payload.length ≤ maxPayload) :
    receiveDi (cmdFrame h payload) s
      = finish (commandFrame h payload (s.heard (cmdFrame h payload))) := by
  rw [receiveDi_of_fits _ _ fits, localAction_cmd]

theorem exec_badOpcode_of_receives (received : s.receives h) (fits : payload.length ≤ maxPayload) :
    exec (.badOpcode h payload) s
      = .next (finish (receiveCommand h.tag payload (s.heard (cmdFrame h payload)))) := by
  rw [← commandFrame_of_receives payload ((receives_heard h (cmdFrame h payload) s).2 received),
    ← receiveDi_cmdFrame fits]
  rfl

theorem exec_commandsDropped (fits : payload.length ≤ maxPayload) :
    exec (.commandsDropped h payload) s
      = .next (finish (commandFrame h payload (s.heard (cmdFrame h payload)))) := by
  rw [← receiveDi_cmdFrame fits]
  rfl

theorem heard_passesFilter (h : Header) (f : Frame) (s : State) :
    passesFilter h (s.heard f) = passesFilter h s := passesFilter_congr h (by simp)

theorem receiveCommand_of_unknown {code : Byte} (tag : Word16) (unknown : Command.ofCode code.toNat = none) :
    receiveCommand tag (code :: p) s = respond code tag .badOpcode code.toNat [] s := by
  simp only [receiveCommand, unknown]

theorem commandFrame_of_closed (passes : passesFilter h s = true) (closed : gateClosed s = true) :
    commandFrame h payload s = bump .commandsDropped s := by
  simp only [commandFrame, passes, closed, if_true]

theorem commandFrame_of_filtered (fails : passesFilter h s = false) : commandFrame h payload s = s := by
  simp only [commandFrame, fails, Bool.false_eq_true, if_false]

end payloads

/-- The three destinations that an engine is addressed by: its unit number, its group, every engine (R182). -/
theorem passesFilter_iff (h : Header) (s : State) :
    passesFilter h s = true ↔
      ∃ u, s.cmu.unit = some u
        ∧ ((h.destKind = 0x01 ∧ h.destValue.toNat = u)
          ∨ (h.destKind = 0x02 ∧ h.destValue.getLsbD s.cmu.config.group = true)
          ∨ h.destKind = 0x03) := by
  cases numbered : s.cmu.unit with
  | none => simp [passesFilter, numbered]
  | some u =>
    by_cases byUnit : h.destKind = 0x01
    · simp [passesFilter, numbered, byUnit]
    · by_cases byGroup : h.destKind = 0x02
      · simp [passesFilter, numbered, byGroup]
      · simp_all [passesFilter]

/-- Settles O21: each test that fails is the refusal of the command in the state that has heard it; the other
payloads by what the reception of a CMD frame makes of them. -/
theorem commandsAreTestedInOrder : Obligations.CommandsAreTestedInOrder := by
  unfold Obligations.CommandsAreTestedInOrder
  refine ⟨fun c h p s received fits => ⟨fun length => ?_, fun length refuses => ?_,
      fun e length taken sequenced executes => ?_, fun n length taken free fails => ?_⟩,
    fun h s received => ⟨exec_badOpcode_of_receives received (Nat.zero_le _), fun code p fits unknown => ?_⟩,
    fun h payload s fits => ⟨fun passes full => ?_, fun fails => ?_⟩, passesFilter_iff⟩
  · exact exec_row_of_refused received fits (testCommand_of_badLength h.tag length)
  · have refused := testCommand_of_badState (s := s.heardCommand c h p) h.tag length (by simpa using refuses)
    rw [heardCommand_cmu] at refused
    exact exec_row_of_refused received fits refused
  · exact exec_row_of_refused received fits
      (testCommand_of_busy h.tag length (by simpa using taken) sequenced (by simpa using executes))
  · exact exec_row_of_refused received fits
      (testCommand_of_badParam h.tag length (by simpa using taken) (by simpa using free) fails)
  · rw [exec_badOpcode_of_receives (payload := code :: p) received fits, receiveCommand_of_unknown h.tag unknown]
  · have closed : gateClosed (s.heard (cmdFrame h payload)) = true := by
      rw [gateClosed_congr (heard_rq _ s)]
      exact decide_eq_true full
    rw [exec_commandsDropped fits, commandFrame_of_closed ((heard_passesFilter h _ s).trans passes) closed]
  · rw [exec_commandsDropped fits, commandFrame_of_filtered ((heard_passesFilter h _ s).trans fails)]

end Sys2Proof.Machine
end

section
/-! The reading commands (R153, R166, R167, R169, R197): what each answers, the counters it clears, the bytes of
READ_STATUS (R201), and the statement about them. -/

namespace Sys2Proof.Machine

variable {h : Header} {p : List Byte} {s : State}

/-! ## READ_COUNTERS (R197) -/

/-- A clear sets every counter to 0 and objects_opened to the objects in flight, and leaves all else. -/
theorem clearCounters_counter (s : State) (c : Counter) :
    (clearCounters s).counter c = if c = .objectsOpened then BitVec.ofNat 32 s.inFlight else 0 := by
  by_cases opened : c = .objectsOpened
  · simp [opened, State.counter, clearCounters, Counter.index]
  · have other : Counter.objectsOpened.index ≠ c.index := fun same =>
      opened (Counter.index_injective same).symm
    rw [if_neg opened]
    rw [State.counter, clearCounters, State.setRpu_rpu, List.getD_eq_getElem?_getD, List.getElem?_set_ne other,
      ← List.getD_eq_getElem?_getD, getD_replicate_self]

theorem clearCounters_rpu (s : State) :
    clearCounters s = s.setRpu (clearCounters s).rpu ∧ (clearCounters s).rpu.rq = s.rpu.rq
      ∧ (clearCounters s).rpu.counters.length = 54 :=
  ⟨rfl, rfl, by simp [clearCounters]⟩

/-- The objects in flight are those of the state in which the command is heard. -/
theorem heardCommand_inFlight (c : Command) (h : Header) (p : List Byte) (s : State) :
    (s.heardCommand c h p).inFlight = s.inFlight := by
  simp [State.inFlight]

/-! ## The bytes of READ_STATUS (R167, R201) -/

theorem statusLiu_eq (s : State) :
    statusLiu s
      = le 1 s.liu.sync.code ++ le 2 s.liu.offset.toNat ++ le 1 s.liu.consecutiveLoss
        ++ le 1 (if s.liu.sync = .locked then 0 else s.liu.completeRun)
        ++ le 1 (if s.liu.sync = .locked then 0 else s.liu.huntCount) ++ le 2 s.liu.pendingLost
        ++ le 1 (8 - s.liu.busy.length)
        ++ ([SlotState.filling, .complete, .partialLine, .lost, .assembling].map (fun x =>
            le 1 (s.liu.busy.countP (fun y => decide (y.state = x))))).flatten := by
  by_cases locked : s.liu.sync = .locked <;> simp [statusLiu, Liu.count, locked]

theorem statusEjs_eq (s : State) :
    statusEjs s
      = le 1 s.ejs.eq.length
        ++ le 1 (s.ejs.eq.countP (fun r => decide (r.openDistance s.bpu.travel = 0)))
        ++ le 1 (s.ejs.ael.countP (fun x => x.isSome))
        ++ optional (fun r => r.bytes ++ le 3 (r.openDistance s.bpu.travel)) s.ejs.eq.head?
        ++ (s.ejs.ael.map (optional EjectionRecord.bytes)).flatten
        ++ (s.vlc.valves.map (fun v => le 1 v.refCount)).flatten := by
  have head : headBytes s.bpu.travel s.ejs.eq
      = optional (fun r => r.bytes ++ le 3 (r.openDistance s.bpu.travel)) s.ejs.eq.head? := by
    cases s.ejs.eq <;> rfl
  rw [statusEjs, head, Ejs.activeCount]

/-- Settles O22: each accepted command answers from the state that has heard it; the rows of READ_STATUS are the
blocks' own. -/
theorem readingCommandsAnswer : Obligations.ReadingCommandsAnswer := by
  unfold Obligations.ReadingCommandsAnswer
  refine fun h p s => ⟨fun accepted => ?_, fun accepted => ?_, fun accepted => ?_, fun accepted => ?_,
    fun accepted => ?_, ?_⟩
  · rw [exec_of_accepts rfl accepted, acceptCommand, doNop, heardCommand_cmu]
  · rw [exec_of_accepts rfl accepted, acceptCommand, doReadStatus]
  · rw [exec_of_accepts rfl accepted, acceptCommand, doReadConfig, configBytes, State.unitNumber,
      heardCommand_cmu]
  · rw [exec_of_accepts rfl accepted, acceptCommand, doBlockRead, blockBytes, heardCommand_tbs]
  · refine ⟨_, by rw [exec_of_accepts rfl accepted, acceptCommand, doReadCounters, counterBytes], ?_,
      fun keep => ?_, fun clear => ?_⟩
    · split
      · exact (clearCounters_rpu _).2.1
      · rfl
    · rw [if_neg (by omega)]
    · obtain ⟨alone, _, length⟩ := clearCounters_rpu (s.heardCommand .readCounters h p)
      rw [if_pos clear]
      refine ⟨alone, length, fun c => ?_⟩
      rw [clearCounters_counter, heardCommand_inFlight]
  · dsimp only
    rw [statusBytes, statusLiu_eq, statusEjs_eq]
    rfl

end Sys2Proof.Machine
end

section
/-! START (R170, R77): its own tests in their order, the entry to SORTING, and the statement about them. -/

namespace Sys2Proof.Machine

variable {s : State}

/-- An accepted command is one taken in the engine state it meets (R164). -/
theorem takenIn_of_accepts {c : Command} {h : Header} {p : List Byte} (accepted : s.accepts c h p) :
    c.takenIn s.cmu.engine = true := by
  obtain ⟨_, _, taken, _⟩ := accepted
  exact taken

/-! ## Its own tests (R170) -/

section tests

variable (tag : Word16)

theorem doStart_of_unwritten {n : Nat} (unwritten : s.tbs.activeBank.firstIn .unwritten = some n) :
    doStart tag s = answer .start tag .bankIncomplete n [] s := by
  simp only [doStart, unwritten]

theorem doStart_of_no_window (written : s.tbs.activeBank.firstIn .unwritten = none)
    (none_observed : s.cmu.config.windowed = false) :
    doStart tag s = answer .start tag .badParam 2 [] s := by
  simp [doStart, written, none_observed]

theorem doStart_of_not_locked (written : s.tbs.activeBank.firstIn .unwritten = none)
    (window : s.cmu.config.windowed = true) (hunts : s.liu.sync ≠ .locked) :
    doStart tag s = answer .start tag .notLocked s.liu.sync.code [] s := by
  simp [doStart, written, window, hunts]

theorem doStart_of_link_lost (written : s.tbs.activeBank.firstIn .unwritten = none)
    (window : s.cmu.config.windowed = true) (locked : s.liu.sync = .locked) (lost : s.vlc.link = .lost) :
    doStart tag s = answer .start tag .valveLink 0 [] s := by
  simp [doStart, written, window, locked, lost]

theorem doStart_of_ready (written : s.tbs.activeBank.firstIn .unwritten = none)
    (window : s.cmu.config.windowed = true) (locked : s.liu.sync = .locked) (up : s.vlc.link = .up) :
    doStart tag s = answer .start tag .ok 0 [] (startSorting s) := by
  simp [doStart, written, window, locked, up]

end tests

/-! ## The statement -/

/-- Settles O32: an accepted START finds the engine in STANDBY, where a refused one leaves it; an effective one
leaves it in SORTING with no cause standing, whatever is delivered. -/
theorem startEntersSorting : Obligations.StartEntersSorting := by
  unfold Obligations.StartEntersSorting
  intro h p s accepted u
  have standby : s.cmu.engine = .standby := by simpa [Command.takenIn] using takenIn_of_accepts accepted
  have cmu : u.cmu = s.cmu := heardCommand_cmu _ _ _ s
  have tbs : u.tbs = s.tbs := heardCommand_tbs _ _ _ s
  have liu : u.liu = s.liu := by simp [u]
  have vlc : u.vlc = s.vlc := by simp [u]
  have oas : u.oas = s.oas := by simp [u]
  have refused {status : Status} {detail : Nat} (test : doStart h.tag u = answer .start h.tag status detail [] u) :
      exec (.start h p) s = .next (answer .start h.tag status detail [] u) := by
    rw [exec_of_accepts rfl accepted, acceptCommand, test, finish_of_idle] <;> simp [answer, cmu, standby]
  refine ⟨fun n unwritten => refused (doStart_of_unwritten _ (by rwa [tbs])),
    fun written => ⟨fun no_window => refused (doStart_of_no_window _ (by rwa [tbs]) ?_),
      fun window => ?_⟩⟩
  · simpa [cmu, Configuration.windowed] using no_window
  have written : u.tbs.activeBank.firstIn .unwritten = none := by rwa [tbs]
  have window : u.cmu.config.windowed = true := by simpa [cmu, Configuration.windowed] using window
  refine ⟨fun hunts => ?_, fun locked lost => ?_, fun locked up no_cause => ?_⟩
  · rw [← liu] at hunts ⊢
    exact refused (doStart_of_not_locked _ written window hunts)
  · exact refused (doStart_of_link_lost _ written window (liu ▸ locked) (vlc ▸ lost))
  · intro v
    have starts : startSorting u = deliver v := by
      simp only [startSorting, State.setEngine, State.setCmu_oas, cmu, oas]
      rfl
    have sorts : exec (.start h p) s = .next (answer .start h.tag .ok 0 [] (deliver v)) := by
      have ready := doStart_of_ready h.tag written window (liu ▸ locked) (vlc ▸ up)
      have rests : (answer .start h.tag .ok 0 [] (deliver v)).atRest := by
        simp [State.atRest, answer, v, no_cause]
      rw [exec_of_accepts rfl accepted, acceptCommand, ready, starts, finish_of_atRest rests]
    refine ⟨sorts, fun t next => ?_, fun none_due => deliver_of_none none_due⟩
    rw [sorts, Host.Outcome.next.injEq] at next
    simp [← next, answer, v]

end Sys2Proof.Machine
end

section
/-! What the taking of ejection requests and the flush leave (R104 ~ R119): the standing requests, each valve's heat
and what keeps it off, and every counter that an ejection does not advance. -/

namespace Sys2Proof.Machine

variable {s t : State} {i : Nat} {c : Counter}

/-! ## What keeps a valve off (R128, R129, R136) -/

/-- What an ejection leaves of a valve: its thermal count, and the state that keeps it off, TRIPPED or DISABLED. -/
def Valve.lasting (v : Valve) : Nat × Option ValveState :=
  (v.thermal, if v.blocked then some v.state else none)

/-- The valves' lasting parts. -/
def State.lasting (s : State) : List (Nat × Option ValveState) := s.vlc.valves.map Valve.lasting

/-- A valve is TRIPPED or DISABLED where its lasting part says so. -/
theorem lasting_state (v : Valve) {state : ValveState} (off : state = .tripped ∨ ∃ k, state = .disabled k) :
    v.lasting.2 = some state ↔ v.state = state := by
  rcases off with rfl | ⟨k, rfl⟩ <;> cases here : v.state <;> simp [Valve.lasting, Valve.blocked, here]

theorem State.valve_lasting (s : State) (i : Nat) :
    (s.valve i).lasting = s.lasting.getD i Valve.reset.lasting := by
  simp [State.valve, State.lasting, List.getD_eq_getElem?_getD, Option.getD_map]

/-- A valve whose lasting part stands has its heat, and is TRIPPED or DISABLED where it was. -/
theorem lasting_valve (same : t.lasting = s.lasting) (i : Nat) :
    (t.valve i).thermal = (s.valve i).thermal
      ∧ ((t.valve i).state = .tripped ↔ (s.valve i).state = .tripped)
      ∧ ∀ k, (t.valve i).state = .disabled k ↔ (s.valve i).state = .disabled k := by
  have same : (t.valve i).lasting = (s.valve i).lasting := by
    rw [State.valve_lasting, same, ← State.valve_lasting]
  refine ⟨congrArg Prod.fst same, ?_, fun k => ?_⟩
  · rw [← lasting_state _ (.inl rfl), same, lasting_state _ (.inl rfl)]
  · rw [← lasting_state _ (.inr ⟨k, rfl⟩), same, lasting_state _ (.inr ⟨k, rfl⟩)]

theorem setValve_lasting {v : Valve} (same : v.lasting = (s.valve i).lasting) :
    (s.setValve i v).lasting = s.lasting := by
  apply List.ext_getElem?
  intro j
  simp only [State.lasting, State.setValve, State.setVlc_vlc, List.getElem?_map, List.getElem?_set]
  split
  next here =>
    subst here
    split
    next inside => simp [same, State.valve, inside]
    next outside => simp [List.getElem?_eq_none (Nat.le_of_not_lt outside)]
  next => rfl

theorem enterHoldoff_lasting {v : Valve} (on : v.state = .on) (holdoff : Nat) :
    (v.enterHoldoff holdoff).lasting = v.lasting := by
  unfold Valve.enterHoldoff
  split <;> simp [Valve.lasting, Valve.blocked, on]

/-- The ON test leaves a valve's heat, and neither frees nor takes one that is kept off (R122). -/
@[simp] theorem onTest_lasting (i : Nat) (s : State) : (onTest i s).lasting = s.lasting := by
  have due (t : State) : (setImageDue t).lasting = t.lasting := rfl
  have counted (t : State) : (bump .valveDelays t).lasting = t.lasting := rfl
  unfold onTest
  dsimp only
  split
  next idle => split <;> simp [due, setValve_lasting, Valve.lasting, Valve.blocked, idle]
  next on => split <;> simp [due, setValve_lasting, enterHoldoff_lasting on]
  next held => split <;> simp [counted, setValve_lasting, Valve.lasting, Valve.blocked, held]
  next => rfl
  next => rfl

@[simp] theorem handOver_lasting (before s : State) : (handOver before s).lasting = s.lasting :=
  foldl_keeps _ State.lasting (fun t i => by split <;> simp) _ s

theorem map_lasting_mapFrom {f : Nat → Valve → Valve} (same : ∀ j v, (f j v).lasting = v.lasting) (n : Nat)
    (l : List Valve) : (mapFrom f n l).map Valve.lasting = l.map Valve.lasting := by
  induction l generalizing n with
  | nil => rfl
  | cons v l ih => simp [mapFrom, same, ih]

@[simp] theorem raiseCounts_lasting (first last : Nat) (s : State) :
    (raiseCounts first last s).lasting = s.lasting :=
  map_lasting_mapFrom (fun j v => by split <;> rfl) 0 s.vlc.valves

@[simp] theorem zeroCounts_lasting (s : State) : (zeroCounts s).lasting = s.lasting :=
  List.map_map

/-! ## The relation -/

/-- The counters that the taking of a request, the activations it brings, and a flush can advance (R103 ~ R119,
R125, R126). -/
def ejectionCounters : List Counter :=
  [.ejectionsFired, .ejectionsLate, .ejectionsMerged, .ejectionsRefusedOverlap, .ejectionsRefusedFull,
    .ejectionsMissedLate, .ejectionsMissedAelFull, .ejectionsMissedFlush, .aelWaits, .valveDelays, .valveSkipped]

/-- From `s` to `t` nothing is done but ejections: the requests that stand are the same, and so are the valves'
lasting parts and every counter that an ejection does not advance. -/
structure State.OnlyEjects (s t : State) : Prop where
  vdu : t.ejs.vduRequests = s.ejs.vduRequests
  oas : t.ejs.oasRequests = s.ejs.oasRequests
  valves : t.lasting = s.lasting
  counters : ∀ c, c ∉ ejectionCounters → t.counter c = s.counter c

theorem State.OnlyEjects.refl (s : State) : s.OnlyEjects s := ⟨rfl, rfl, rfl, fun _ _ => rfl⟩

section steps

variable {r : EjectionRecord} {q : EjectionRequest}

theorem bumpBy_onlyEjects {n : Nat} (m : s.OnlyEjects t) (counted : c ∈ ejectionCounters) :
    s.OnlyEjects (bumpBy c n t) where
  vdu := m.vdu
  oas := m.oas
  valves := m.valves
  counters d other :=
    (bumpBy_counter_of_ne (fun same : c = d => other (same ▸ counted)) n t).trans (m.counters d other)

theorem bump_onlyEjects (m : s.OnlyEjects t) (counted : c ∈ ejectionCounters) : s.OnlyEjects (bump c t) :=
  bumpBy_onlyEjects m counted

theorem setEjs_onlyEjects {e : Ejs} (m : s.OnlyEjects t) (vdu : e.vduRequests = t.ejs.vduRequests)
    (oas : e.oasRequests = t.ejs.oasRequests) : s.OnlyEjects (t.setEjs e) :=
  ⟨vdu.trans m.vdu, oas.trans m.oas, m.valves, m.counters⟩

theorem handOver_onlyEjects {before : State} (m : s.OnlyEjects t) : s.OnlyEjects (handOver before t) where
  vdu := by simp [m.vdu]
  oas := by simp [m.oas]
  valves := (handOver_lasting before t).trans m.valves
  counters d other := by
    rw [handOver_counter (fun same => other (by simp [same, ejectionCounters])), m.counters d other]

theorem raiseCounts_onlyEjects {first last : Nat} (m : s.OnlyEjects t) :
    s.OnlyEjects (raiseCounts first last t) where
  vdu := m.vdu
  oas := m.oas
  valves := (raiseCounts_lasting first last t).trans m.valves
  counters d other := by
    rw [raiseCounts_counter (fun same => other (by simp [same, ejectionCounters])), m.counters d other]

theorem zeroCounts_onlyEjects (m : s.OnlyEjects t) : s.OnlyEjects (zeroCounts t) :=
  ⟨m.vdu, m.oas, (zeroCounts_lasting t).trans m.valves, m.counters⟩

/-! ## Activation (R103, R110, R113, R115) -/

theorem activate_onlyEjects (m : s.OnlyEjects t) : s.OnlyEjects (activate i r t) := by
  have fired := bump_onlyEjects (c := .ejectionsFired)
    (raiseCounts_onlyEjects (first := r.valveFirst) (last := r.valveLast)
      (setEjs_onlyEjects (e := { t.ejs with ael := t.ejs.ael.set i (some r) }) m rfl rfl)) (by decide)
  unfold activate
  dsimp only
  split
  · exact bump_onlyEjects fired (by decide)
  · exact fired

theorem activationTest_onlyEjects {n : Nat} (m : s.OnlyEjects t) : s.OnlyEjects (activationTest n t) := by
  induction n generalizing t with
  | zero => exact m
  | succ n ih =>
    unfold activationTest
    split
    next => exact m
    next r rest head =>
      have left : s.OnlyEjects (t.setEjs { t.ejs with eq := rest }) := setEjs_onlyEjects m rfl rfl
      split
      · split
        · exact ih (bump_onlyEjects left (by decide))
        · split
          next => exact ih (activate_onlyEjects left)
          next =>
            unfold countWait
            split
            · exact m
            · exact bump_onlyEjects (setEjs_onlyEjects m rfl rfl) (by decide)
      · exact m

/-! ## A request (R105 ~ R111) -/

theorem mergeQueued_onlyEjects {k : Nat} (m : s.OnlyEjects t) : s.OnlyEjects (mergeQueued k q r t) := by
  have merged : s.OnlyEjects (bump .ejectionsMerged t) := bump_onlyEjects m (by decide)
  unfold mergeQueued
  dsimp only
  split
  · split
    · exact activationTest_onlyEjects (setEjs_onlyEjects merged rfl rfl)
    · exact setEjs_onlyEjects merged rfl rfl
  · exact setEjs_onlyEjects merged rfl rfl

theorem mergeActive_onlyEjects (m : s.OnlyEjects t) : s.OnlyEjects (mergeActive i q r t) := by
  have merged : s.OnlyEjects (bump .ejectionsMerged
      (t.setEjs { t.ejs with ael := t.ejs.ael.set i (some (foldInto t.bpu.travel q r)) })) :=
    bump_onlyEjects (setEjs_onlyEjects m rfl rfl) (by decide)
  unfold mergeActive
  dsimp only
  repeat' split
  all_goals simp only [merged, raiseCounts_onlyEjects]

theorem makeRecord_onlyEjects (m : s.OnlyEjects t) : s.OnlyEjects (makeRecord q t) := by
  have refused : s.OnlyEjects (bump .ejectionsRefusedFull t) := bump_onlyEjects m (by decide)
  unfold makeRecord
  split
  · unfold makeLate
    split
    · exact activate_onlyEjects m
    · split
      · exact setEjs_onlyEjects m rfl rfl
      · exact refused
  · unfold makeQueued
    split
    · exact setEjs_onlyEjects m rfl rfl
    · exact refused

theorem takeMerge_onlyEjects (m : s.OnlyEjects t) : s.OnlyEjects (takeMerge q t) := by
  unfold takeMerge
  split
  · split
    · exact mergeActive_onlyEjects m
    · exact m
  · split
    · split
      · exact mergeQueued_onlyEjects m
      · exact m
    · exact makeRecord_onlyEjects m

theorem takeRequest_onlyEjects (m : s.OnlyEjects t) : s.OnlyEjects (takeRequest q t) := by
  unfold takeRequest
  split
  · exact bump_onlyEjects m (by decide)
  · split
    · exact takeMerge_onlyEjects m
    · unfold takeRefuse
      split
      · exact bump_onlyEjects m (by decide)
      · exact makeRecord_onlyEjects m
    · exact makeRecord_onlyEjects m

/-! ## The flush (R119) -/

theorem foldl_requestEvent_onlyEjects (requests : List EjectionRequest) (m : s.OnlyEjects t) :
    s.OnlyEjects (requests.foldl (fun u q => requestEvent q u) t) := by
  induction requests generalizing t with
  | nil => exact m
  | cons q rest ih => exact ih (handOver_onlyEjects (takeRequest_onlyEjects m))

end steps

/-- No request stands. -/
def State.withoutRequests (s : State) : State := s.setEjs { s.ejs with vduRequests := [], oasRequests := [] }

theorem takeAll_onlyEjects (s : State) : s.withoutRequests.OnlyEjects (takeAll s) :=
  foldl_requestEvent_onlyEjects _ (.refl _)

theorem flush_onlyEjects (s : State) : s.withoutRequests.OnlyEjects (flush s) :=
  handOver_onlyEjects (bumpBy_onlyEjects
    (zeroCounts_onlyEjects (setEjs_onlyEjects (takeAll_onlyEjects s) rfl rfl)) (by decide))

/-- A flush leaves a valve's heat, and what keeps it off. -/
theorem flush_lasting (s : State) : (flush s).lasting = s.lasting := (flush_onlyEjects s).valves

theorem flush_counter (other : c ∉ ejectionCounters) (s : State) : (flush s).counter c = s.counter c :=
  (flush_onlyEjects s).counters c other

/-- A flush leaves no record, and no request (R119). -/
theorem flush_ejs (s : State) :
    (flush s).ejs = { eq := [], ael := List.replicate 16 none, vduRequests := [], oasRequests := [] } := by
  obtain ⟨vdu, oas, _, _⟩ := takeAll_onlyEjects s
  simp [flush, dropRecords, vdu, oas, State.withoutRequests]

/-- A flush leaves every reference count 0 (R119). -/
theorem flush_refCount (s : State) (i : Nat) : ((flush s).valve i).refCount = 0 := by
  have dropped : (dropRecords (takeAll s)).vlc.valves
      = (takeAll s).vlc.valves.map (fun v => { v with refCount := 0 }) := rfl
  rw [flush, handOver_keeps_refCount, State.valve, dropped]
  simp only [List.getD_eq_getElem?_getD, List.getElem?_map]
  cases (takeAll s).vlc.valves[i]? <;> rfl

theorem takeAll_of_no_request (vdu : s.ejs.vduRequests = []) (oas : s.ejs.oasRequests = []) : takeAll s = s := by
  have same : s.setEjs { s.ejs with vduRequests := [], oasRequests := [] } = s :=
    calc s.setEjs { s.ejs with vduRequests := [], oasRequests := [] }
      _ = s.setEjs { s.ejs with vduRequests := s.ejs.vduRequests, oasRequests := s.ejs.oasRequests } := by
        rw [vdu, oas]
      _ = s := rfl
  rw [takeAll, same, vdu, oas]
  rfl

/-- With no request standing a flush misses the records that the Ejection Queue and the Active Ejection List
hold (R119). -/
theorem flush_missed (length : s.rpu.counters.length = 54) (vdu : s.ejs.vduRequests = [])
    (oas : s.ejs.oasRequests = []) :
    (flush s).counter .ejectionsMissedFlush
      = s.counter .ejectionsMissedFlush + BitVec.ofNat 32 (s.ejs.eq.length + s.ejs.activeCount) := by
  rw [flush, takeAll_of_no_request vdu oas, handOver_counter (by decide), dropRecords,
    bumpBy_counter_self _ _ (by simp [zeroCounts, length, Counter.index])]
  rfl

end Sys2Proof.Machine
end

section
/-! FAULT entry (R175, R176), block by block, and the statement about it. -/

namespace Sys2Proof.Machine

variable {s t : State} {c : FaultCause} {k : Counter}

/-! ## The end of the executing command (R133, R165) -/

/-- An aborted command leaves the Valve Controller, or ends the running test, whose valve the ON test turns off. -/
theorem endAborted_vlc (s : State) :
    (endAborted s).vlc = s.vlc
      ∨ ∃ i, (endAborted s).vlc = (onTest i (s.setVlc { s.vlc with test := none })).vlc := by
  unfold endAborted
  split
  next => exact .inl rfl
  next =>
    split
    case h_4 =>
      unfold abortTest endTestOff
      repeat' split
      next => exact .inl rfl
      next k _ => exact .inr ⟨k.valve, by simp⟩
      next => exact .inl (by simp)
    all_goals exact .inl (by simp)

theorem lasting_congr (vlc : t.vlc = s.vlc) : t.lasting = s.lasting := by
  rw [State.lasting, vlc, State.lasting]

theorem endAborted_lasting (s : State) : (endAborted s).lasting = s.lasting := by
  rcases endAborted_vlc s with vlc | ⟨i, vlc⟩
  · exact lasting_congr vlc
  · exact (lasting_congr vlc).trans (onTest_lasting i _)

theorem endAborted_refCount (s : State) (i : Nat) : ((endAborted s).valve i).refCount = (s.valve i).refCount := by
  have counts : (endAborted s).vlc.valves.map Valve.refCount = s.vlc.valves.map Valve.refCount := by
    rcases endAborted_vlc s with vlc | ⟨i, vlc⟩
    · rw [vlc]
    · rw [vlc, onTest_counts]
      rfl
  rw [State.valve_refCount, counts, ← State.valve_refCount]

/-- The ON test counts deferrals and nothing else (R125). -/
theorem onTest_counter (other : k ≠ .valveDelays) (i : Nat) (s : State) :
    (onTest i s).counter k = s.counter k := by
  simp only [onTest, setImageDue, State.setValve]
  repeat' split
  all_goals simp [bump_counter_of_ne other.symm]

theorem endAborted_counter (other : k ∉ .valveDelays :: deliveryCounters) (s : State) :
    (endAborted s).counter k = s.counter k := by
  have ended := endCommand_counter (fun delivered => other (List.mem_cons_of_mem _ delivered))
  have tested := onTest_counter fun same => other (same ▸ List.mem_cons_self)
  simp only [endAborted, endCalibrate, abortTest, endTestOff]
  repeat' split
  all_goals simp [ended, tested]

/-- Of the Command Unit the end of a command changes the executing command alone (R165). -/
theorem endCommand_cmu (status : Status) (detail : Nat) (data : List Byte) (s : State) :
    (endCommand status detail data s).cmu = { s.cmu with executing := none } := by
  cases executes : s.cmu.executing with
  | none =>
    have same : endCommand status detail data s = s := by simp only [endCommand, executes]
    rw [same, ← executes]
  | some e => simp [endCommand, executes]

theorem endAborted_cmu (s : State) : (endAborted s).cmu = { s.cmu with executing := none } := by
  unfold endAborted
  split
  next idle => rw [← idle]
  next e executes =>
    split
    case h_4 =>
      unfold abortTest
      split
      next running =>
        obtain ⟨k, test⟩ := Option.isSome_iff_exists.1 running
        simp [endTestOff, test, endCommand_cmu]
      next => exact endCommand_cmu ..
    all_goals simp [endCalibrate, endCommand_cmu]

@[simp] theorem endAborted_tables (s : State) :
    (endAborted s).tbs.active = s.tbs.active ∧ (endAborted s).tbs.generation = s.tbs.generation
      ∧ (endAborted s).tbs.vmt = s.tbs.vmt ∧ (endAborted s).tbs.ccal = s.tbs.ccal := by
  simp only [endAborted]
  repeat' split
  all_goals simp

/-! ## What the blocks do (R80, R97, R119, R175) -/

/-- The engine in FAULT, its objects given up (R80, R97). -/
def abandoned (c : FaultCause) (s : State) : State :=
  abandonVerdicts (emptyAssembler (s.setCmu
    { s.cmu with engine := .fault, cause := some c, causes := s.cmu.causes.erase c }))

theorem emptyRing_of_not_due (none_due : s.oas.closeAllDue = false) :
    emptyRing s
      = (s.setLiu { s.liu with busy := [], freeOrder := Liu.reset.freeOrder, pendingLost := 0 }).setOas
          { s.oas with lineInAssembly := none } :=
  takeCloseAll_of_not_due none_due

/-- FAULT entry at the blocks: the objects given up, the flush, the ring emptied, the sync state FAILED. -/
theorem faultEffects_eq (c : FaultCause) (s : State) :
    faultEffects c s
      = ((flush (abandoned c s)).setLiu
          { (flush (abandoned c s)).liu with
            sync := .failed, busy := [], freeOrder := Liu.reset.freeOrder, pendingLost := 0 }).setOas
          { (flush (abandoned c s)).oas with lineInAssembly := none } := by
  have emptied := emptyRing_of_not_due (s := flush (abandoned c s)) (by simp [abandoned, emptyAssembler])
  show (emptyRing (flush (abandoned c s))).setLiu
    { (emptyRing (flush (abandoned c s))).liu with sync := .failed } = _
  generalize flush (abandoned c s) = t at emptied ⊢
  rw [emptied]
  rfl

/-- Among the 54 counters each rises by what is counted. -/
theorem bumpBy_counter_of_length (k : Counter) (n : Nat) (length : s.rpu.counters.length = 54) :
    (bumpBy k n s).counter k = s.counter k + BitVec.ofNat 32 n :=
  bumpBy_counter_self k n (by rw [length]; cases k <;> decide)

/-- Every object in flight is abandoned and counted (R80, R97). -/
theorem abandoned_counter (c : FaultCause) (length : s.rpu.counters.length = 54) :
    (abandoned c s).counter .objectsAbandoned
      = s.counter .objectsAbandoned + BitVec.ofNat 32 s.inFlight := by
  have emptied : (abandoned c s).counter .objectsAbandoned
      = s.counter .objectsAbandoned + BitVec.ofNat 32 (s.oas.openCount + s.oas.closingCount)
        + BitVec.ofNat 32 s.vdu.held := by
    simp [abandoned, abandonVerdicts, emptyAssembler, bumpBy_counter_of_length, length]
  rw [emptied, State.inFlight, BitVec.add_assoc, ← BitVec.ofNat_add]

/-- Before the flush FAULT entry counts abandoned objects and nothing else. -/
theorem abandoned_counter_of_ne (c : FaultCause) (other : k ≠ .objectsAbandoned) (s : State) :
    (abandoned c s).counter k = s.counter k := by
  simp [abandoned, abandonVerdicts, emptyAssembler, bumpBy_counter_of_ne other.symm]

/-! ## The entry -/

/-- FAULT entry leaves no object, no record and no request (R80, R97, R119). -/
theorem enterFault_objects (c : FaultCause) (s : State) :
    (enterFault c s).oas
        = { s.oas with
            oot := List.replicate 96 .free, closingOrder := [], plr := [], lostRun := 0
            lineInAssembly := none, closeAllDue := false }
      ∧ (enterFault c s).vdu = { vq := [], evaluating := none }
      ∧ (enterFault c s).ejs
          = { eq := [], ael := List.replicate 16 none, vduRequests := [], oasRequests := [] } := by
  simp [enterFault, faultEffects_eq, flush_ejs, abandoned, abandonVerdicts, emptyAssembler]

theorem enterFault_cmu (c : FaultCause) (s : State) :
    (enterFault c s).cmu
      = { s.cmu with engine := .fault, cause := some c, executing := none, causes := s.cmu.causes.erase c } := by
  simp [enterFault, endAborted_cmu, faultEffects_eq, abandoned]

/-- Every valve's count becomes 0; its heat stands, and so does what keeps it off (R119, R175). -/
theorem enterFault_valves (c : FaultCause) (s : State) :
    (enterFault c s).lasting = s.lasting ∧ ∀ i, ((enterFault c s).valve i).refCount = 0 := by
  have noticed : (enterFault c s).vlc = (endAborted (faultEffects c s)).vlc := by simp [enterFault]
  have effects : (faultEffects c s).vlc = (flush (abandoned c s)).vlc := by
    rw [faultEffects_eq, State.setOas_vlc, State.setLiu_vlc]
  refine ⟨?_, fun i => ?_⟩
  · calc (enterFault c s).lasting
      _ = (endAborted (faultEffects c s)).lasting := lasting_congr noticed
      _ = (faultEffects c s).lasting := endAborted_lasting _
      _ = (flush (abandoned c s)).lasting := lasting_congr effects
      _ = (abandoned c s).lasting := flush_lasting _
      _ = s.lasting := lasting_congr (by simp [abandoned])
  · calc ((enterFault c s).valve i).refCount
      _ = ((endAborted (faultEffects c s)).valve i).refCount := by rw [valve_congr (congrArg Vlc.valves noticed)]
      _ = ((faultEffects c s).valve i).refCount := endAborted_refCount _ i
      _ = ((flush (abandoned c s)).valve i).refCount := by rw [valve_congr (congrArg Vlc.valves effects)]
      _ = 0 := flush_refCount _ i

theorem enterFault_tables (c : FaultCause) (s : State) :
    (enterFault c s).tbs.bankA = s.tbs.bankA ∧ (enterFault c s).tbs.bankB = s.tbs.bankB
      ∧ (enterFault c s).tbs.active = s.tbs.active ∧ (enterFault c s).tbs.generation = s.tbs.generation
      ∧ (enterFault c s).tbs.vmt = s.tbs.vmt ∧ (enterFault c s).tbs.ccal = s.tbs.ccal := by
  simp [enterFault]

/-- The counters of the entry are those of the flush, but for deferrals and dropped reports. -/
theorem enterFault_counter (other : k ∉ .valveDelays :: deliveryCounters) (c : FaultCause) (s : State) :
    (enterFault c s).counter k = (flush (abandoned c s)).counter k := by
  have effects : (faultEffects c s).counter k = (flush (abandoned c s)).counter k := by
    rw [faultEffects_eq]
    simp only [State.set_counter]
  rw [enterFault, notice_counter (fun delivered => other (List.mem_cons_of_mem _ delivered)),
    endAborted_counter other, effects]

/-! ## The statement -/

theorem takeCause_of_standing (engine : s.cmu.engine = .sorting ∨ s.cmu.engine = .draining)
    (stands : c ∈ s.cmu.causes) : takeCause c s = enterFault c s := by
  rcases engine with engine | engine <;> simp [takeCause, engine, stands]

theorem takeCause_of_not_standing
    (idle : (s.cmu.engine ≠ .sorting ∧ s.cmu.engine ≠ .draining) ∨ c ∉ s.cmu.causes) : takeCause c s = s := by
  rcases idle with ⟨sorts, drains⟩ | gone
  · simp [takeCause, sorts, drains]
  · simp [takeCause, gone]

theorem takeLater_of_standing (fault : s.cmu.engine = .fault) (stands : c ∈ s.cmu.causes) :
    takeLater c s
      = bump .faultsWhileFaulted (s.setCmu { s.cmu with causes := s.cmu.causes.erase c }) := by
  simp [takeLater, fault, stands]

theorem takeLater_of_not_standing (idle : s.cmu.engine ≠ .fault ∨ c ∉ s.cmu.causes) : takeLater c s = s := by
  rcases idle with engine | gone
  · simp [takeLater, engine]
  · simp [takeLater, gone]

/-- Settles O34: the row takes the standing cause, whose entry is read block by block. -/
theorem faultEntryEmptiesTheEngine : Obligations.FaultEntryEmptiesTheEngine := by
  unfold Obligations.FaultEntryEmptiesTheEngine
  refine ⟨fun c s => ⟨fun engine stands => ?_,
      fun idle => congrArg Host.Outcome.next (takeCause_of_not_standing idle)⟩,
    fun c s => ⟨fun fault stands => congrArg Host.Outcome.next (takeLater_of_standing fault stands),
      fun idle => congrArg Host.Outcome.next (takeLater_of_not_standing idle)⟩,
    fun c s => ⟨fun fault => by simp [raiseCause, fault], fun idle => ?_⟩⟩
  · obtain ⟨oas, vdu, ejs⟩ := enterFault_objects c s
    obtain ⟨lasting, refCount⟩ := enterFault_valves c s
    obtain ⟨bankA, bankB, active, generation, vmt, ccal⟩ := enterFault_tables c s
    have liu := enterFault_liu c s
    have row : exec (.faultEntry c) s = .next (enterFault c s) :=
      congrArg Host.Outcome.next (takeCause_of_standing engine stands)
    refine ⟨_, row, enterFault_cmu c s, ?_⟩
    rw [oas, vdu, liu]
    refine ⟨rfl, rfl, rfl, rfl, rfl, rfl, rfl, rfl, ejs, fun i _ => ⟨refCount i, lasting_valve lasting i⟩,
      rfl, rfl, rfl, rfl, by simp, bankA, bankB, active, generation, vmt, ccal, fun length => ?_,
      fun length vduRequests oasRequests => ?_⟩
    · rw [enterFault_counter (by decide), flush_counter (by decide), abandoned_counter c length]
    · have kept : (abandoned c s).ejs = s.ejs := by simp [abandoned]
      have missed := flush_missed (s := abandoned c s)
        (by simp [abandoned, abandonVerdicts, emptyAssembler, length]) (by rw [kept, vduRequests])
        (by rw [kept, oasRequests])
      rw [enterFault_counter (by decide), missed, kept, abandoned_counter_of_ne c (by decide)]
  · rcases idle with engine | engine <;> simp [raiseCause, engine]

end Sys2Proof.Machine
end

section
/-! CLEAR_FAULT (R19, R36, R177), and the statement about it. -/

namespace Sys2Proof.Machine

variable {s : State}

/-- The fault cleared at the Command Unit and the Belt Position Unit, what stands counted (R19, R176, R177). -/
def faultCleared (s : State) : State :=
  (bumpBy .faultsWhileFaulted s.cmu.causes.length
    (s.setCmu { s.cmu with engine := .standby, cause := none, causes := [] })).setBpu
    { s.bpu with debt := 0, armed := false, mismatchRun := 0 }

theorem clearFault_eq (s : State) :
    clearFault s = enterHunt1 .clearFault s.liu.offset (handOver s (faultCleared s)) := rfl

theorem clearFault_cmu (s : State) :
    (clearFault s).cmu.engine = .standby ∧ (clearFault s).cmu.cause = none ∧ (clearFault s).cmu.causes = [] := by
  simp [clearFault_eq, faultCleared]

theorem clearFault_bpu (s : State) :
    (clearFault s).bpu = { s.bpu with debt := 0, armed := false, mismatchRun := 0 } := by
  simp [clearFault_eq, faultCleared]

/-- In STANDBY the entry to HUNT1 closes no object (R31). -/
theorem clearFault_objects (s : State) : (clearFault s).oas = s.oas ∧ (clearFault s).vdu = s.vdu := by
  obtain ⟨oas, vdu⟩ := enterHunt1_objects .clearFault s.liu.offset (s := handOver s (faultCleared s))
    (by simp [faultCleared])
  rw [clearFault_eq, oas, vdu]
  simp [faultCleared]

theorem clearFault_liu (s : State) :
    (clearFault s).liu
      = { s.liu with
          sync := .hunt1
          consecutiveLoss := 0
          completeRun := 0
          huntCount := 0
          realignPending := false
          busy := s.liu.busy.map markNosync } := by
  simp [clearFault_eq, enterHunt1_liu, faultCleared]

/-- The belt state handed over changes no valve's count and no valve's heat (R114, R122). -/
theorem clearFault_valve (s : State) (i : Nat) :
    ((clearFault s).valve i).refCount = (s.valve i).refCount
      ∧ ((clearFault s).valve i).thermal = (s.valve i).thermal := by
  have valve : (clearFault s).valve i = (handOver s (faultCleared s)).valve i := by
    simp [State.valve, clearFault_eq]
  obtain ⟨heat, _⟩ := lasting_valve (handOver_lasting s (faultCleared s)) i
  rw [valve, handOver_keeps_refCount, heat]
  exact ⟨rfl, rfl⟩

/-- Settles O35: the accepted command clears the fault in the state that has heard it, and its answer leaves what
that makes of each block. -/
theorem clearFaultReturnsToStandby : Obligations.ClearFaultReturnsToStandby := by
  unfold Obligations.ClearFaultReturnsToStandby
  intro h p s accepted
  obtain ⟨engine, cause, causes⟩ := clearFault_cmu (s.heardCommand .clearFault h p)
  obtain ⟨oas, vdu⟩ := clearFault_objects (s.heardCommand .clearFault h p)
  have valve := clearFault_valve (s.heardCommand .clearFault h p)
  have cleared : exec (.clearFault h p) s
      = .next (answer .clearFault h.tag .ok ((s.cmu.cause.map FaultCause.code).getD 0) []
          (clearFault (s.heardCommand .clearFault h p))) := by
    rw [exec_of_accepts rfl accepted, acceptCommand, doClearFault, heardCommand_cmu, finish_of_idle] <;>
      simp [answer, engine]
  have answered (i : Nat) : (answer .clearFault h.tag .ok ((s.cmu.cause.map FaultCause.code).getD 0) []
      (clearFault (s.heardCommand .clearFault h p))).valve i
        = (clearFault (s.heardCommand .clearFault h p)).valve i := by simp [State.valve, answer]
  refine ⟨_, _, cleared, rfl, ?_⟩
  simp only [answered, valve]
  simp [answer, engine, cause, causes, oas, vdu, clearFault_bpu, clearFault_liu, markNosync]

end Sys2Proof.Machine
end

section
/-! CONFIGURE (R18, R38, R140, R157, R168), block by block, and the statement about it. -/

namespace Sys2Proof.Machine

variable {s : State}

/-- At the Belt Position Unit CONFIGURE disarms the index check, clears what a change of line_pitch clears, and
lowers the debt to the new reverse_limit (R18). -/
theorem configure_bpu (new : Configuration) (s : State) :
    (configure new s).bpu
      = { s.bpu with
          armed := false
          mismatchRun := 0
          debt := min s.bpu.debt new.reverseLimit
          pitch := if s.cmu.config.linePitch = new.linePitch then s.bpu.pitch else 0
          triggerTime := if s.cmu.config.linePitch = new.linePitch then s.bpu.triggerTime else none
          period := if s.cmu.config.linePitch = new.linePitch then s.bpu.period else none } := by
  have lowered (t : State) :
      (configureDebt new t).bpu = { t.bpu with debt := min t.bpu.debt new.reverseLimit } := by
    unfold configureDebt
    split
    next above => simp [Nat.min_eq_right (Nat.le_of_lt above)]
    next within => rw [Nat.min_eq_left (Nat.not_lt.1 within)]
  have disarmed (t : State) : (configureBelt s.cmu.config new t).bpu
      = { t.bpu with
          armed := false
          mismatchRun := 0
          pitch := if s.cmu.config.linePitch = new.linePitch then t.bpu.pitch else 0
          triggerTime := if s.cmu.config.linePitch = new.linePitch then t.bpu.triggerTime else none
          period := if s.cmu.config.linePitch = new.linePitch then t.bpu.period else none } := by
    unfold configureBelt
    by_cases same : s.cmu.config.linePitch = new.linePitch <;> simp [same]
  simp [configure, lowered, disarmed]

/-- A changed window empties the ring (R38). -/
theorem configure_liu (new : Configuration) (s : State) :
    (configure new s).liu
      = if s.cmu.config.window = new.window then s.liu
        else { s.liu with busy := [], freeOrder := [0, 1, 2, 3, 4, 5, 6, 7], pendingLost := 0 } := by
  by_cases same : s.cmu.config.window = new.window <;>
    simp [configure, configureIntake, same, emptyRing_liu]

/-- With the window unchanged no line and no object is given up. -/
theorem configure_objects {new : Configuration} (same : s.cmu.config.window = new.window) :
    (configure new s).oas = s.oas ∧ (configure new s).vdu = s.vdu := by
  simp [configure, configureIntake, same]

/-- A changed scrub interval starts the count again (R157). -/
theorem configure_tbs (new : Configuration) (s : State) :
    (configure new s).tbs
      = { s.tbs with
          scrubCount := if s.cmu.config.scrubInterval = new.scrubInterval then s.tbs.scrubCount else 0 } := by
  by_cases same : s.cmu.config.scrubInterval = new.scrubInterval <;> simp [configure, configureScrub, same]

theorem configure_cmu (new : Configuration) (s : State) :
    (configure new s).cmu = { s.cmu with config := new } := by
  simp [configure]

/-- A debt above the new reverse_limit is counted (R18). -/
theorem configure_limitHits (new : Configuration) (length : s.rpu.counters.length = 54) :
    (configure new s).counter .reverseLimitHits
      = s.counter .reverseLimitHits + (if new.reverseLimit < s.bpu.debt then 1 else 0) := by
  have outer (old : Configuration) (t : State) :
      (configureScrub old new (configureIntake old new t)).counter .reverseLimitHits
        = t.counter .reverseLimitHits := counter_congr (by simp) _
  have belt (old : Configuration) (t : State) :
      (configureBelt old new t).rpu = t.rpu ∧ (configureBelt old new t).bpu.debt = t.bpu.debt := by
    unfold configureBelt
    dsimp only
    split <;> exact ⟨rfl, rfl⟩
  have debt (t : State) (length : t.rpu.counters.length = 54) :
      (configureDebt new t).counter .reverseLimitHits
        = t.counter .reverseLimitHits + (if new.reverseLimit < t.bpu.debt then 1 else 0) := by
    unfold configureDebt
    split
    · rw [notice_counter (by decide), bump_counter_of_length _ (by simpa using length)]
      rfl
    · simp
  obtain ⟨rpu, held⟩ := belt s.cmu.config (s.setCmu { s.cmu with config := new })
  rw [configure, outer, debt _ (by rw [rpu]; exact length), held, counter_congr (congrArg Rpu.counters rpu)]
  rfl

/-- Hearing a frame leaves the number of counters. -/
theorem heard_countersLength (f : Frame) (s : State) :
    (s.heard f).rpu.counters.length = s.rpu.counters.length := by
  have kick (t : State) : (doKick t).rpu.counters.length = t.rpu.counters.length := by
    unfold doKick doChoose
    repeat' split
    all_goals simp
  have join (g : Frame) (t : State) : (joinForward g t).rpu.counters.length = t.rpu.counters.length := by
    unfold joinForward
    split <;> simp [kick]
  have forwarded (t : State) : (forward f t).rpu.counters.length = t.rpu.counters.length := by
    unfold forward
    split <;> simp [join]
  simp [State.heard, arrive, forwarded, kick]

theorem heardCommand_countersLength (c : Command) (h : Header) (p : List Byte) (s : State) :
    (s.heardCommand c h p).rpu.counters.length = s.rpu.counters.length := heard_countersLength _ s

/-- Settles O25: the accepted command leaves the engine in STANDBY, where the event ends with its answer. -/
theorem configureReplacesTheRecord : Obligations.ConfigureReplacesTheRecord := by
  unfold Obligations.ConfigureReplacesTheRecord
  intro h p s accepted new
  have standby : s.cmu.engine = .standby := by simpa [Command.takenIn] using takenIn_of_accepts accepted
  have configured : exec (.configure h p) s
      = .next (answer .configure h.tag .ok 0 [] (configure new (s.heardCommand .configure h p))) := by
    rw [exec_of_accepts rfl accepted, acceptCommand, doConfigure, finish_of_idle] <;> simp [answer, standby]
  refine ⟨_, _, configured, rfl, ?_⟩
  have counted (length : s.rpu.counters.length = 54) :=
    configure_limitHits new ((heardCommand_countersLength .configure h p s).trans length)
  have kept (same : s.cmu.config.window = new.window) :=
    configure_objects (s := s.heardCommand .configure h p) (by simpa using same)
  simp only [heardCommand_keeps] at counted kept
  simpa [answer, configure_bpu, configure_liu, configure_tbs, configure_cmu] using And.intro kept counted

end Sys2Proof.Machine
end

section
/-! STOP and the drain (R78, R171, R172), and the statement about them. -/

namespace Sys2Proof.Machine

variable {s : State}

/-! ## The objects given up (R78, R79) -/

/-- Without its OPEN objects the table holds its CLOSING ones, and no other. -/
theorem withoutOpen_counts (l : List OotSlot) :
    (l.map OotSlot.withoutOpen).countP OotSlot.isOpen = 0
      ∧ (l.map OotSlot.withoutOpen).countP OotSlot.isClosing = l.countP OotSlot.isClosing := by
  rw [List.countP_map, List.countP_map]
  refine ⟨List.countP_eq_zero.2 fun x _ => ?_, List.countP_congr fun x _ => ?_⟩ <;>
    cases x <;> simp [OotSlot.withoutOpen, OotSlot.isOpen, OotSlot.isClosing]

/-- Without its OPEN objects the table is FREE where none was CLOSING. -/
theorem withoutOpen_all_free (l : List OotSlot) :
    (l.map OotSlot.withoutOpen).all OotSlot.isFree = !decide (0 < l.countP OotSlot.isClosing) := by
  induction l with
  | nil => rfl
  | cons x l ih => cases x <;> simp [ih, OotSlot.withoutOpen, OotSlot.isFree, OotSlot.isClosing]

/-! ## STOP's acceptance (R171) -/

/-- In DRAINING a delivery frees slots and changes nothing else (R29). -/
theorem deliver_of_draining (drains : s.cmu.engine = .draining) : deliver s = s.setLiu (deliver s).liu := by
  have one (t : State) (ht : t.cmu.engine = .draining) : deliverOne t = t.setLiu (deliverOne t).liu := by
    unfold deliverOne
    split
    · rw [deliverSlot_of_draining ht]
      rfl
    · rfl
  have all (n : Nat) (t : State) (ht : t.cmu.engine = .draining) : deliverN n t = t.setLiu (deliverN n t).liu := by
    induction n generalizing t with
    | zero => rfl
    | succ n ih =>
      rw [deliverN, ih (deliverOne t) (by simpa using ht), one t ht]
      rfl
  exact all _ s drains

/-- The state in which STOP tests the delivery: DRAINING with STOP executing, the line in assembly and the OPEN
objects given up. -/
def drainBegun (tag : Word16) (s : State) : State :=
  let t := abandonOpen (abandonLine (beginCommand .stop tag (s.setEngine .draining)))
  t.setOas { t.oas with closeAllDue := false }

theorem stopSorting_eq (tag : Word16) (s : State) :
    stopSorting tag s = (drainBegun tag s).setLiu (stopSorting tag s).liu :=
  deliver_of_draining (s := drainBegun tag s) (by simp [drainBegun, beginCommand, State.setEngine])

theorem stopSorting_cmu (tag : Word16) (s : State) :
    (stopSorting tag s).cmu
      = { s.cmu with engine := .draining, executing := some { command := .stop, tag := tag } } := by
  rw [stopSorting_eq]
  simp [drainBegun, beginCommand, State.setEngine]

theorem stopSorting_oas (tag : Word16) (s : State) :
    (stopSorting tag s).oas
      = { s.oas with
          oot := s.oas.oot.map OotSlot.withoutOpen, plr := [], lostRun := 0, lineInAssembly := none
          closeAllDue := false } := by
  rw [stopSorting_eq]
  simp [drainBegun, abandonOpen, abandonLine_oas]

/-- STOP keeps what is queued, under evaluation or scheduled, and the tables (R78, R171). -/
theorem stopSorting_leaves (tag : Word16) (s : State) :
    (stopSorting tag s).vdu = s.vdu ∧ (stopSorting tag s).tbs = s.tbs := by
  rw [stopSorting_eq]
  simp [drainBegun]

/-- Every OPEN object is abandoned and counted (R78). -/
theorem stopSorting_counter (tag : Word16) (length : s.rpu.counters.length = 54) :
    (stopSorting tag s).counter .objectsAbandoned
      = s.counter .objectsAbandoned + BitVec.ofNat 32 s.oas.openCount := by
  rw [stopSorting_eq]
  have given_up (t : State) (h : t.rpu = s.rpu) (oas : t.oas = { s.oas with lineInAssembly := none }) :
      (abandonOpen t).counter .objectsAbandoned
        = s.counter .objectsAbandoned + BitVec.ofNat 32 s.oas.openCount := by
    rw [abandonOpen, bumpBy_counter_of_length _ _ (by simpa [h] using length), oas]
    exact congrArg (· + _) (counter_congr (congrArg Rpu.counters h) _)
  exact given_up _ (by simp) (by simp [abandonLine_oas])

/-- What a drain still has to work off: objects, records of ejections, and requests for them (R172; log 12). -/
def leftToDrain (s : State) : Bool :=
  decide (0 < s.oas.closingCount) || !s.vdu.vq.isEmpty || s.vdu.evaluating.isSome
    || !s.ejs.eq.isEmpty || s.ejs.ael.any (fun x => x.isSome)
    || !s.ejs.vduRequests.isEmpty || !s.ejs.oasRequests.isEmpty

theorem stopSorting_drained (tag : Word16) (s : State) :
    (stopSorting tag s).drained = !leftToDrain s := by
  obtain ⟨vdu, _⟩ := stopSorting_leaves tag s
  rw [State.drained, State.quiet, stopSorting_oas, vdu, (stopSorting_keeps tag s).2.2.1, withoutOpen_all_free]
  have inactive : s.ejs.ael.all (fun x => x.isNone) = !s.ejs.ael.any (fun x => x.isSome) := by
    simp [List.not_any_eq_all_not]
  simp [leftToDrain, Oas.closingCount, Bool.and_assoc, inactive]

/-! ## The statement -/

/-- With no cause standing the end of the event leaves the objects, the ejections, the valves and the tables,
whether or not the drain has run out (R172). -/
theorem finish_leaves_of_no_cause (none_stands : s.cmu.causes = []) :
    (finish s).oas = s.oas ∧ (finish s).vdu = s.vdu ∧ (finish s).ejs = s.ejs ∧ (finish s).vlc = s.vlc
      ∧ (finish s).tbs = s.tbs ∧ (finish s).counter .objectsAbandoned = s.counter .objectsAbandoned := by
  rcases finish_of_no_cause none_stands with same | ran_out
  · simp [same]
  · have counted : (runOut s).counter .objectsAbandoned = s.counter .objectsAbandoned :=
      endCommand_counter (by decide) ..
    simp [ran_out, counted]

/-- A drain that has run out leaves the engine in STANDBY, with nothing executing and no cause standing (R172). -/
theorem runOut_cmu (s : State) :
    (runOut s).cmu = { s.cmu with engine := .standby, executing := none, causes := [] } :=
  endCommand_cmu ..

theorem finish_of_draining (drains : s.cmu.engine = .draining) (none_stands : s.cmu.causes = []) :
    finish s = if s.drained then runOut s else s := by
  simp only [finish, drains, none_stands]

/-- The run-out of a drain that executes STOP is STOP's answer (R172). -/
theorem drainRunsOut_of_stop {e : Executing} (drains : s.cmu.engine = .draining) (drained : s.drained = true)
    (executes : s.cmu.executing = some e) (isStop : e.command = .stop) :
    drainRunsOut s
      = answer .stop e.tag .ok 0 []
          (s.setCmu { s.cmu with engine := .standby, executing := none, causes := [] }) := by
  have ended := endCommand_of_executing (status := .ok) (detail := 0) (data := []) (e := e)
    (s := s.setCmu { s.cmu with engine := .standby, causes := [] }) executes
  rw [drainRunsOut, if_pos (by simp [drains, drained]), runOut, ended, isStop]
  rfl

theorem drainRunsOut_of_waiting (waits : s.cmu.engine ≠ .draining ∨ s.drained = false) : drainRunsOut s = s := by
  rcases waits with engine | left <;> simp [drainRunsOut, *]

/-- Settles O33: the accepted STOP begins the drain in the state that has heard it, and its event ends in DRAINING
or with the drain run out. -/
theorem stopDrainsToStandby : Obligations.StopDrainsToStandby := by
  unfold Obligations.StopDrainsToStandby
  refine ⟨fun h p s accepted none_stands => ?_, fun s => ⟨fun e drains executes isStop drained =>
    congrArg Host.Outcome.next (drainRunsOut_of_stop drains drained executes isStop),
    fun waits => congrArg Host.Outcome.next (drainRunsOut_of_waiting waits)⟩⟩
  intro left
  have row : exec (.stop h p) s = .next (finish (stopSorting h.tag (s.heardCommand .stop h p))) :=
    exec_of_accepts rfl accepted
  have waits : leftToDrain (s.heardCommand .stop h p) = left := by simp [leftToDrain, left]
  have begun := stopSorting_cmu h.tag (s.heardCommand .stop h p)
  have ends := finish_of_draining (s := stopSorting h.tag (s.heardCommand .stop h p)) (by simp [begun])
    (by simp [none_stands])
  rw [stopSorting_drained, waits] at ends
  obtain ⟨oas, vdu, ejs, vlc, tbs, counted⟩ :=
    finish_leaves_of_no_cause (s := stopSorting h.tag (s.heardCommand .stop h p)) (by simp [none_stands])
  obtain ⟨queued, tables⟩ := stopSorting_leaves h.tag (s.heardCommand .stop h p)
  obtain ⟨none_open, closing⟩ := withoutOpen_counts s.oas.oot
  refine ⟨_, row, ?_⟩
  rw [oas, vdu, ejs, vlc, tbs, counted, stopSorting_oas, queued, tables]
  refine ⟨by simpa [Oas.openCount] using none_open, by simpa [Oas.closingCount] using closing, by simp, rfl, rfl,
    rfl, by simp, by simp, by simp, by simp, by simp, fun length => ?_, fun some_left => ?_, fun none_left => ?_⟩
  · rw [stopSorting_counter h.tag ((heardCommand_countersLength .stop h p s).trans length)]
    simp
  · rw [ends, some_left]
    simp [begun]
  · rw [ends, none_left]
    simp [runOut_cmu, begun, none_stands]

end Sys2Proof.Machine
end

section
/-! ABORT (R79, R96, R119, R173, R174): the end of each executing command, the drain given up, and the
statement about them. -/

namespace Sys2Proof.Machine

variable {s : State} {e : Executing}

/-! ## The executing command's end (R173) -/

theorem endAborted_of_calibrate (executes : s.cmu.executing = some e) (kind : e.command = .calibrate) :
    endAborted s = endCommand .aborted 0 [] (s.setCapture none) := by
  simp only [endAborted, executes, kind, endCalibrate]

theorem endAborted_of_bankCopy {k : CopyProgress} (executes : s.cmu.executing = some e)
    (kind : e.command = .bankCopy) (copy : s.tbs.copy = some k) :
    endAborted s = endCommand .aborted k.next [] (s.setTbs { s.tbs with copy := none }) := by
  simp only [endAborted, executes, kind, copy, Option.map_some, Option.getD_some]

theorem endAborted_of_bankSwap (executes : s.cmu.executing = some e) (kind : e.command = .bankSwap) :
    endAborted s = endCommand .aborted 0 [] (s.setTbs { s.tbs with swap := none }) := by
  simp only [endAborted, executes, kind]

theorem endAborted_of_valveTest {k : ValveTest} (executes : s.cmu.executing = some e)
    (kind : e.command = .valveTest) (test : s.vlc.test = some k) :
    endAborted s
      = endCommand .aborted 0 [] (onTest k.valve (s.setVlc { s.vlc with test := none })) := by
  simp only [endAborted, executes, kind, abortTest, endTestOff, test, Option.isSome_some, if_true]

theorem endAborted_of_stop (executes : s.cmu.executing = some e) (kind : e.command = .stop) :
    endAborted s = endCommand .aborted 0 [] s := by
  simp only [endAborted, executes, kind]

/-! ## The drain given up (R79, R96, R119, R174) -/

/-- Without its CLOSING objects the table holds its OPEN ones, and no other. -/
theorem withoutClosing_counts (l : List OotSlot) :
    (l.map OotSlot.withoutClosing).countP OotSlot.isClosing = 0
      ∧ (l.map OotSlot.withoutClosing).countP OotSlot.isOpen = l.countP OotSlot.isOpen := by
  rw [List.countP_map, List.countP_map]
  refine ⟨List.countP_eq_zero.2 fun x _ => ?_, List.countP_congr fun x _ => ?_⟩ <;>
    cases x <;> simp [OotSlot.withoutClosing, OotSlot.isOpen, OotSlot.isClosing]

theorem flushDrain_cmu (s : State) :
    (flushDrain s).cmu = { s.cmu with engine := .standby, causes := [] } := by
  simp [flushDrain]

theorem flushDrain_oas (s : State) :
    (flushDrain s).oas
      = { s.oas with oot := s.oas.oot.map OotSlot.withoutClosing, closingOrder := [] } := by
  simp [flushDrain, abandonClosing]

theorem flushDrain_vdu (s : State) : (flushDrain s).vdu = { vq := [], evaluating := none } := by
  simp [flushDrain, abandonVerdicts]

theorem flushDrain_ejs (s : State) :
    (flushDrain s).ejs = { eq := [], ael := List.replicate 16 none, vduRequests := [], oasRequests := [] } := by
  simp only [flushDrain, State.setCmu_ejs, flush_ejs]

theorem setCmu_valve (s : State) (x : Cmu) (i : Nat) : (s.setCmu x).valve i = s.valve i := rfl

theorem flushDrain_refCount (s : State) (i : Nat) : ((flushDrain s).valve i).refCount = 0 := by
  have flushed := flush_refCount (abandonVerdicts (abandonClosing s)) i
  simp only [State.valve, flushDrain, State.setCmu_vlc] at flushed ⊢
  exact flushed

/-- What was closed and not judged is abandoned and counted (R79, R96). -/
theorem flushDrain_counter (length : s.rpu.counters.length = 54) :
    (flushDrain s).counter .objectsAbandoned
      = s.counter .objectsAbandoned + BitVec.ofNat 32 (s.oas.closingCount + s.vdu.held) := by
  have given_up : (abandonVerdicts (abandonClosing s)).counter .objectsAbandoned
      = s.counter .objectsAbandoned + BitVec.ofNat 32 s.oas.closingCount + BitVec.ofNat 32 s.vdu.held := by
    simp [abandonVerdicts, abandonClosing, bumpBy_counter_of_length, length]
  have flushed := flush_counter (c := .objectsAbandoned) (by decide) (abandonVerdicts (abandonClosing s))
  simp only [flushDrain, State.set_counter, flushed, given_up]
  rw [BitVec.add_assoc, ← BitVec.ofNat_add]

/-! ## The command -/

theorem doAbort_of_idle (tag : Word16) (idle : s.cmu.executing = none) :
    doAbort tag s = answer .abort tag .nothingToAbort 0 [] s := by
  simp only [doAbort, idle]

/-- ABORT of a command other than STOP: its end, then ABORT's own answer. -/
theorem doAbort_of_executing (tag : Word16) (executes : s.cmu.executing = some e) (kind : e.command ≠ .stop) :
    doAbort tag s = answer .abort tag .ok e.command.code [] (endAborted s) := by
  simp [doAbort, executes, abortExecuting, State.executes, kind]

/-- ABORT of a drain: the drain is given up before STOP ends. -/
theorem doAbort_of_stop (tag : Word16) (executes : s.cmu.executing = some e) (kind : e.command = .stop) :
    doAbort tag s
      = answer .abort tag .ok Command.stop.code []
          (answer .stop e.tag .aborted 0 []
            ((flushDrain s).setCmu { (flushDrain s).cmu with executing := none })) := by
  have still : (flushDrain s).cmu.executing = some e := by simpa using executes
  have ended := (endAborted_of_stop still kind).trans (endCommand_of_executing still)
  simp [doAbort, executes, abortExecuting, State.executes, kind, ended]

/-- Settles O23: the accepted ABORT acts in the state that has heard it; each executing command by what it works
on. -/
theorem abortEndsTheExecutingCommand : Obligations.AbortEndsTheExecutingCommand := by
  unfold Obligations.AbortEndsTheExecutingCommand
  intro h p s accepted u
  have row : exec (.abort h p) s = .next (finish (doAbort h.tag u)) := exec_of_accepts rfl accepted
  have cmu : u.cmu = s.cmu := heardCommand_cmu ..
  have tbs : u.tbs = s.tbs := heardCommand_tbs ..
  have vlc : u.vlc = s.vlc := by simp [u]
  refine ⟨fun idle => ?_, fun e executes => ?_⟩
  · rw [row, doAbort_of_idle _ (by rwa [cmu])]
  rw [← cmu] at executes
  have other (kind : e.command ≠ .stop) := row.trans (congrArg (fun t => Host.Outcome.next (finish t))
    (doAbort_of_executing h.tag executes kind))
  refine ⟨fun kind => ?_, fun k kind copy => ?_, fun kind => ?_, fun k kind test => ?_, fun kind => ?_⟩
  · rw [other (by simp [kind]), endAborted_of_calibrate executes kind,
      endCommand_of_executing (by simpa using executes)]
  · rw [other (by simp [kind]), endAborted_of_bankCopy executes kind (by rwa [tbs]),
      endCommand_of_executing (by simpa using executes), tbs]
  · rw [other (by simp [kind]), endAborted_of_bankSwap executes kind,
      endCommand_of_executing (by simpa using executes), tbs]
  · rw [other (by simp [kind]), endAborted_of_valveTest executes kind (by rwa [vlc]),
      endCommand_of_executing (by simpa using executes), vlc]
  · obtain ⟨none_closing, opened⟩ := withoutClosing_counts s.oas.oot
    have given_up := flushDrain_counter (s := u)
    rw [doAbort_of_stop h.tag executes kind, finish_of_idle (by simp [answer, flushDrain_cmu])
      (by simp [answer, flushDrain_cmu])] at row
    refine ⟨_, (flushDrain u).setCmu { (flushDrain u).cmu with executing := none }, row, rfl, ?_⟩
    have counted (length : s.rpu.counters.length = 54) :=
      flushDrain_counter ((heardCommand_countersLength .abort h p s).trans length)
    simp only [heardCommand_keeps] at counted
    simp only [State.set_counter, setCmu_valve, flushDrain_refCount]
    simp only [State.setCmu_oas, State.setCmu_vdu, State.setCmu_ejs, State.setCmu_bpu, State.setCmu_tbs,
      State.setCmu_cmu, flushDrain_cmu, flushDrain_oas, flushDrain_vdu, flushDrain_ejs, flushDrain_keeps, cmu]
    simpa [Oas.closingCount, Oas.openCount, none_closing, opened, u] using counted

end Sys2Proof.Machine
end

section
/-! The downstream lane (R179 ~ R182, R185): DO at a boundary, a frame heard and handed to DO, a frame that is not
good, and the statements about them. -/

namespace Sys2Proof.Machine

variable {s : State} {f g : Frame} {bytes : List Byte} {cut : Bool}

/-! ## Downstream out (R180, R185) -/

theorem doKick_of_busy (busy : s.lki.doFrame.isSome) : doKick s = s :=
  if_neg (by simpa [Option.isSome_iff_ne_none] using busy)

theorem doKick_of_free (free : s.lki.doFrame = none) : doKick s = doChoose s := if_pos (by simp [free])

/-- DO's choice leaves the link, its silence and the open frame. -/
theorem doKick_link (s : State) :
    (doKick s).lki.link = s.lki.link ∧ (doKick s).lki.silence = s.lki.silence
      ∧ (doKick s).lki.diOpen = s.lki.diOpen := by
  unfold doKick doChoose
  repeat' split
  all_goals simp

/-- A PAUSE goes first only if it is due and the link is UP (R185). -/
theorem no_pause_first (waits : s.lki.pauseDue = false ∨ s.lki.link = .down) :
    ¬ (s.lki.pauseDue && decide (s.lki.link = .up)) = true := by
  rcases waits with notDue | down
  · simp [notDue]
  · simp [down]

/-! ## A good frame heard (R179, R180, R185) -/

/-- A frame in transmission on DO stays there when another arrives on DI. -/
theorem arrive_of_busy (busy : s.lki.doFrame.isSome) :
    arrive s = s.setLki { s.lki with silence := 0, diOpen := false, link := .up } :=
  doKick_of_busy (s := s.setLki _) busy

/-- With nothing waiting, DO stays at its boundary when the link comes UP. -/
theorem arrive_of_nothing_waiting (free : s.lki.doFrame = none) (queue : s.lki.forwardQueue = [])
    (pause : s.lki.pauseDue = false) :
    arrive s = s.setLki { s.lki with silence := 0, diOpen := false, link := .up } := by
  rw [arrive, doKick_of_free (by simpa using free),
    doChoose_of_empty (no_pause_first (Or.inl (by simpa using pause))) (by simpa using queue)]

theorem heard_of_forwarded (forwards : forwardOf f = some g) : s.heard f = joinForward g (arrive s) := by
  rw [State.heard, forward, forwards]

theorem heard_of_not_forwarded (stays : forwardOf f = none) : s.heard f = arrive s := by
  rw [State.heard, forward, stays]

theorem joinForward_link (g : Frame) (s : State) :
    (joinForward g s).lki.link = s.lki.link ∧ (joinForward g s).lki.silence = s.lki.silence
      ∧ (joinForward g s).lki.diOpen = s.lki.diOpen := by
  by_cases room : s.lki.forwardQueue.length < 2
  · rw [joinForward_of_room room]
    exact doKick_link (s.setLki _)
  · simp [joinForward_of_full room]

/-- A good frame restarts the silence timer, ends on DI and finds the link UP (R179, R185). -/
theorem heard_link (f : Frame) (s : State) :
    (s.heard f).lki.link = .up ∧ (s.heard f).lki.silence = 0 ∧ (s.heard f).lki.diOpen = false := by
  have arrived : (arrive s).lki.link = .up ∧ (arrive s).lki.silence = 0 ∧ (arrive s).lki.diOpen = false :=
    doKick_link (s.setLki _)
  cases forwards : forwardOf f with
  | none => rwa [heard_of_not_forwarded forwards]
  | some g =>
    obtain ⟨link, silence, diOpen⟩ := joinForward_link g (arrive s)
    rwa [heard_of_forwarded forwards, link, silence, diOpen]

/-- With DO busy and a place free the frame waits in the forward queue. -/
theorem heard_of_room (forwards : forwardOf f = some g) (busy : s.lki.doFrame.isSome)
    (room : s.lki.forwardQueue.length < 2) :
    s.heard f
      = s.setLki
          { s.lki with
            silence := 0, diOpen := false, link := .up, forwardQueue := s.lki.forwardQueue ++ [g] } := by
  rw [heard_of_forwarded forwards, arrive_of_busy busy, joinForward_of_room (by simpa using room),
    doKick_of_busy (by simpa using busy)]
  rfl

/-- With DO busy and no place free the frame is dropped and counted. -/
theorem heard_of_full (forwards : forwardOf f = some g) (busy : s.lki.doFrame.isSome)
    (full : 2 ≤ s.lki.forwardQueue.length) :
    s.heard f
      = bump .forwardDrops (s.setLki { s.lki with silence := 0, diOpen := false, link := .up }) := by
  rw [heard_of_forwarded forwards, arrive_of_busy busy, joinForward_of_full (Nat.not_lt.2 (by simpa using full))]

/-- With DO at a boundary and nothing before it the frame is sent at once. -/
theorem heard_of_nothing_waiting (forwards : forwardOf f = some g) (free : s.lki.doFrame = none)
    (queue : s.lki.forwardQueue = []) (pause : s.lki.pauseDue = false) :
    s.heard f
      = s.setLki
          { s.lki with
            silence := 0, diOpen := false, link := .up, forwardQueue := [], doFrame := some g } := by
  rw [heard_of_forwarded forwards, arrive_of_nothing_waiting free queue pause,
    joinForward_of_room (by simp [queue]), doKick_of_free (by simpa using free),
    doChoose_of_frame (no_pause_first (Or.inl (by simpa using pause)))
      (congrArg (· ++ [g]) (show _ = [] from queue))]
  rfl

/-- A frame of a type with no local action is heard and no more (R181). -/
theorem localAction_of_other (other : f.ftype ∉ [0x01, 0x02, 0x03, 0x04, 0x05]) (s : State) :
    localAction f s = s := by
  obtain ⟨line, cmd, enum, lrst, pause⟩ :
      f.ftype ≠ 0x01 ∧ f.ftype ≠ 0x02 ∧ f.ftype ≠ 0x03 ∧ f.ftype ≠ 0x04 ∧ f.ftype ≠ 0x05 := by
    simpa using other
  rw [localAction, if_neg line, if_neg cmd, if_neg enum, if_neg lrst, if_neg pause]

/-! ## The boundary of DO (R180, R185) -/

theorem doBoundary_of_pause (due : s.lki.pauseDue = true) (up : s.lki.link = .up) :
    doBoundary s
      = bump .pausesSent (s.setLki { s.lki with doFrame := some pauseFrame, pauseDue := false }) :=
  doChoose_of_pause (s := s.setLki { s.lki with doFrame := none }) (by simp [due, up])

theorem doBoundary_of_frame {rest : List Frame} (waits : s.lki.pauseDue = false ∨ s.lki.link = .down)
    (queue : s.lki.forwardQueue = f :: rest) :
    doBoundary s = s.setLki { s.lki with doFrame := some f, forwardQueue := rest } :=
  doChoose_of_frame (s := s.setLki { s.lki with doFrame := none }) (no_pause_first waits) queue

theorem doBoundary_of_empty (waits : s.lki.pauseDue = false ∨ s.lki.link = .down)
    (queue : s.lki.forwardQueue = []) : doBoundary s = s.setLki { s.lki with doFrame := none } :=
  doChoose_of_empty (s := s.setLki { s.lki with doFrame := none }) (no_pause_first waits) queue

/-- Settles O14: what hearing makes of the link by DO and the forward queue; the boundary by what waits. -/
theorem framesAreForwarded : Obligations.FramesAreForwarded := by
  unfold Obligations.FramesAreForwarded
  refine ⟨fun f s fits other => ?_, fun f s => ?_, fun f => rfl, fun s => ⟨fun due up => ?_, ?_, ?_⟩⟩
  · rw [← localAction_of_other other (s.heard f), ← receiveDi_of_fits f s fits]
    rfl
  · obtain ⟨link, silence, diOpen⟩ := heard_link f s
    refine ⟨by simp [State.sameButLink], heard_rq f s, link, silence, diOpen, fun g forwards => ⟨?_, ?_, ?_⟩⟩
    · intro busy room
      simp [heard_of_room forwards busy room]
    · intro busy full
      rw [heard_of_full forwards busy full]
      exact ⟨rfl, rfl, rfl⟩
    · intro free queue pause
      simp [heard_of_nothing_waiting forwards free queue pause]
  · exact congrArg Host.Outcome.next (doBoundary_of_pause due up)
  · exact fun f rest waits queue => congrArg Host.Outcome.next (doBoundary_of_frame waits queue)
  · exact fun waits queue => congrArg Host.Outcome.next (doBoundary_of_empty waits queue)

/-! ## Frames that are not good (R179, R185) -/

/-- Bytes cut off, or that make no good frame, are dropped on either lane. -/
theorem receiveNotGood_of_dropped (bad : cut = true ∨ receiveBytes bytes = none) (s : State) :
    receiveNotGood .di bytes cut s = dropDi s
      ∧ receiveNotGood .ri bytes cut s = bump .crcErrors s := by
  rcases bad with rfl | none_made
  · exact ⟨rfl, rfl⟩
  · cases cut <;> simp only [receiveNotGood, none_made, and_self]

/-- Bytes not cut off that make a good frame are received as it (log 22). -/
theorem receiveNotGood_of_good (good : receiveBytes bytes = some f) (s : State) :
    receiveNotGood .di bytes false s = receiveDi f s
      ∧ receiveNotGood .ri bytes false s = receiveRi f s := by
  simp only [receiveNotGood, good, and_self]

/-- Settles O15: by whether the bytes make a good frame. -/
theorem framesThatAreNotGoodAreDropped : Obligations.FramesThatAreNotGoodAreDropped := by
  unfold Obligations.FramesThatAreNotGoodAreDropped
  refine fun bytes cut s => ⟨fun bad => ?_, fun f good => ?_⟩
  · obtain ⟨di, ri⟩ := receiveNotGood_of_dropped bad s
    exact ⟨congrArg Host.Outcome.next di, congrArg Host.Outcome.next ri⟩
  · obtain ⟨di, ri⟩ := receiveNotGood_of_good good s
    exact ⟨congrArg Host.Outcome.next di, congrArg Host.Outcome.next ri⟩

end Sys2Proof.Machine
end

section
/-! Numbering by ENUM (R183, R186), row by row of the table of R183, and the statement about it. -/

namespace Sys2Proof.Machine

variable {s : State} {hop old : Nat}

/-! ## The rows of R183 -/

theorem enumerate_of_unnumbered (unnumbered : s.cmu.unit = none) (inside : hop ≤ 7) :
    enumerate hop s = number hop s := by
  simp only [enumerate, unnumbered, if_pos inside]

theorem enumerate_of_unnumbered_overflow (unnumbered : s.cmu.unit = none) (beyond : 8 ≤ hop) :
    enumerate hop s = s := by
  simp only [enumerate, unnumbered, if_neg (Nat.not_le.2 beyond)]

theorem enumerate_of_same (numbered : s.cmu.unit = some hop) (inside : hop ≤ 7) : enumerate hop s = s := by
  simp only [enumerate, numbered, if_pos inside, if_true]

theorem enumerate_of_changed (numbered : s.cmu.unit = some old) (inside : hop ≤ 7) (changed : hop ≠ old) :
    enumerate hop s = renumber old hop s := by
  simp only [enumerate, numbered, if_pos inside, if_neg changed]

theorem enumerate_of_overflow (numbered : s.cmu.unit = some old) (beyond : 8 ≤ hop) :
    enumerate hop s = notice (.enumOverflow hop) s := by
  simp only [enumerate, numbered, if_neg (Nat.not_le.2 beyond)]

/-! ## Their effects -/

/-- An unnumbered engine takes its number in STANDBY and hunts with line offset 0; the other blocks stay as they
are (R36, R163, R183). -/
theorem number_effects (hop : Nat) (s : State) :
    (number hop s).cmu.unit = some hop ∧ (number hop s).cmu.engine = .standby
      ∧ (number hop s).liu.sync = .hunt1 ∧ (number hop s).liu.offset = 0
      ∧ (number hop s).oas = s.oas ∧ (number hop s).vdu = s.vdu := by
  obtain ⟨oas, vdu⟩ := enterHunt1_objects .enumNumbering 0
    (s := s.setCmu { s.cmu with unit := some hop, engine := .standby }) (by simp)
  exact ⟨by simp [number], by simp [number], by simp [number, enterHunt1_liu],
    by simp [number, enterHunt1_liu], oas, vdu⟩

/-- In SORTING or DRAINING a changed number is a cause that waits to be taken (R183, R186). -/
theorem renumber_cmu_of_running (engine : s.cmu.engine = .sorting ∨ s.cmu.engine = .draining) :
    (renumber old hop s).cmu
      = { s.cmu with unit := some hop, causes := s.cmu.causes ++ [.chainChanged] } := by
  rw [renumber, raiseCause_cmu (by simpa using engine)]
  simp

/-- Outside SORTING and DRAINING a raised cause requests nothing (R175, R176). -/
theorem raiseCause_cmu_of_idle {c : FaultCause} (not_sorting : s.cmu.engine ≠ .sorting)
    (not_draining : s.cmu.engine ≠ .draining) : (raiseCause c s).cmu = s.cmu := by
  unfold raiseCause
  split
  case h_1 sorting => exact absurd sorting not_sorting
  case h_2 draining => exact absurd draining not_draining
  all_goals simp

theorem renumber_cmu_of_idle (not_sorting : s.cmu.engine ≠ .sorting) (not_draining : s.cmu.engine ≠ .draining) :
    (renumber old hop s).cmu = { s.cmu with unit := some hop } := by
  rw [renumber, raiseCause_cmu_of_idle (by simpa using not_sorting) (by simpa using not_draining)]
  simp

/-! ## The statement -/

theorem exec_enum (hd : Header) (hop : Byte) (s : State) :
    exec (.enum hd [hop]) s
      = .next (finish (enumerate hop.toNat
          (s.heard { ftype := 0x03, hdr := hd, payload := [hop] }))) := by
  show Host.Outcome.next (receiveDi _ s) = _
  rw [receiveDi_of_fits _ s (by simp [maxPayload])]
  rfl

/-- An ENUM of another length is heard, and has no local action (R199). -/
theorem exec_enum_of_length {payload : List Byte} (hd : Header) (length : payload.length ≠ 1)
    (fits : payload.length ≤ maxPayload) (s : State) :
    exec (.enum hd payload) s
      = .next (finish (s.heard { ftype := 0x03, hdr := hd, payload := payload })) := by
  show Host.Outcome.next (receiveDi _ s) = _
  rw [receiveDi_of_fits _ s fits]
  simp [localAction, length]

/-- Settles O16: the ENUM acts in the state that has heard it, whose Command Unit is as it was. -/
theorem enumNumbersTheEngine : Obligations.EnumNumbersTheEngine := by
  unfold Obligations.EnumNumbersTheEngine
  intro hd hop s f u
  have row : exec (.enum hd [hop]) s = .next (finish (enumerate hop.toNat u)) := exec_enum hd hop s
  have cmu : u.cmu = s.cmu := by simp [u]
  refine ⟨fun unnumbered inside => ?_, fun same inside => ?_, fun old numbered inside changed => ?_,
    fun unnumbered beyond => ?_, fun n numbered beyond => ?_, fun payload length fits => ?_⟩
  · rw [enumerate_of_unnumbered (by rwa [cmu]) inside] at row
    obtain ⟨unit, engine, sync, offset, oas, vdu⟩ := number_effects hop.toNat u
    rw [finish_of_idle (by simp [engine]) (by simp [engine])] at row
    refine ⟨_, row, unit, engine, sync, offset, ?_⟩
    rw [oas, vdu]
    simp [u]
  · rw [row, enumerate_of_same (by rwa [cmu]) inside]
  · rw [enumerate_of_changed (by rwa [cmu]) inside changed] at row
    refine ⟨by rw [row, renumber, cmu],
      fun rest => ⟨_, row, by simp [renumber], fun running => ?_, fun idle => ?_⟩⟩
    · have heard_rest : (u.setCmu { u.cmu with unit := some hop.toNat }).atRest :=
        atRest_of_engine (heard_atRest f rest) rfl rfl fun _ => ⟨rfl, rfl, rfl⟩
      exact finish_of_raised heard_rest (by rwa [State.setCmu_cmu, cmu])
        (renumber_cmu_of_running (by rwa [cmu])) (by simp) (by simp) (by simp)
    · obtain ⟨not_sorting, not_draining⟩ : s.cmu.engine ≠ .sorting ∧ s.cmu.engine ≠ .draining := by
        rcases idle with standby | fault
        · simp [standby]
        · simp [fault]
      rw [finish_of_idle (by simpa [cmu] using not_sorting) (by simpa [cmu] using not_draining),
        renumber_cmu_of_idle (by rwa [cmu]) (by rwa [cmu]), cmu]
  · rw [row, enumerate_of_unnumbered_overflow (by rwa [cmu]) beyond]
  · rw [row, enumerate_of_overflow (by rwa [cmu]) beyond]
  · exact exec_enum_of_length hd length fits s

end Sys2Proof.Machine
end

section
/-! The return lane (R187 ~ R190): the RO arbiter's choice, the Pass Buffer and the repetition of PAUSE, the pause
timer, and the statements about them. -/

namespace Sys2Proof.Machine

variable {s : State} {f : Frame}

/-! ## The RO arbiter (R189, R190) -/

/-- RO starts no frame while the pause timer runs (R189). -/
theorem roKick_of_paused (paused : s.lki.pauseTimer.isSome) : roKick s = s :=
  if_neg (by simp [Option.isNone_eq_false_iff.2 paused])

theorem roKick_of_free (boundary : s.lki.roFrame = none) (runs : s.lki.pauseTimer = none) :
    roKick s = roChoose s :=
  if_pos (by simp [boundary, runs])

/-- With neither source holding a frame RO sends none. -/
theorem roChoose_of_empty (pass : s.lki.passBuffer = []) (reports : s.rpu.rq = []) : roChoose s = s := by
  simp only [roChoose, pass, List.isEmpty_nil, if_true, roSendReport, reports]

/-- The Pass Buffer's head is sent if it alone waits or the preference names it (R190). -/
theorem roChoose_of_pass {rest : List Frame} (pass : s.lki.passBuffer = f :: rest)
    (chosen : s.rpu.rq = [] ∨ s.lki.preference = .pass) :
    roChoose s = s.setLki { s.lki with roFrame := some f, passBuffer := rest, preference := .report } := by
  have sends : roSendPass s
      = s.setLki { s.lki with roFrame := some f, passBuffer := rest, preference := .report } := by
    rw [roSendPass, pass]
    rfl
  rw [← sends]
  rcases chosen with alone | preferred
  · simp [roChoose, pass, alone]
  · simp [roChoose, pass, preferred]

/-- The Report Queue's head is sent if it alone waits or the preference names it (R190). -/
theorem roChoose_of_report {r : Report} {rest : List Report} (reports : s.rpu.rq = r :: rest)
    (chosen : s.lki.passBuffer = [] ∨ s.lki.preference = .report) :
    roChoose s
      = (s.setLki { s.lki with roFrame := some r.frame, preference := .pass }).setRpu
          { s.rpu with rq := rest } := by
  have sends : roSendReport s
      = (s.setLki { s.lki with roFrame := some r.frame, preference := .pass }).setRpu
          { s.rpu with rq := rest } := by
    rw [roSendReport, reports]
    rfl
  rw [← sends]
  rcases chosen with alone | preferred
  · simp [roChoose, alone]
  · simp [roChoose, reports, preferred]

/-- At the end of its frame RO stands at a boundary, and the arbiter chooses if no pause runs (R190). -/
theorem roEnds_of_unpaused (runs : s.lki.pauseTimer = none) :
    roEnds s = roChoose (s.setLki { s.lki with roFrame := none }) :=
  roKick_of_free (s := s.setLki { s.lki with roFrame := none }) rfl runs

theorem roEnds_of_paused (paused : s.lki.pauseTimer.isSome) :
    roEnds s = s.setLki { s.lki with roFrame := none } :=
  roKick_of_paused (s := s.setLki { s.lki with roFrame := none }) paused

/-! ## The pause timer (R189) -/

/-- A PAUSE of payload length 0 is heard, not forwarded, and starts the pause timer (R180, R189). -/
theorem exec_pause_empty (hd : Header) (s : State) :
    exec (.pause hd []) s
      = .next (finish (honourPause (s.heard { ftype := 0x05, hdr := hd, payload := [] }))) := by
  show Host.Outcome.next (receiveDi _ s) = _
  rw [receiveDi_of_fits _ s (Nat.zero_le _)]
  rfl

/-- A PAUSE of another length is heard, and has no local action (R199). -/
theorem exec_pause_of_length {payload : List Byte} (hd : Header) (length : payload.length ≠ 0)
    (fits : payload.length ≤ maxPayload) (s : State) :
    exec (.pause hd payload) s
      = .next (finish (s.heard { ftype := 0x05, hdr := hd, payload := payload })) := by
  show Host.Outcome.next (receiveDi _ s) = _
  rw [receiveDi_of_fits _ s fits]
  simp [localAction, length]

theorem pauseExpires_of_running (runs : s.lki.pauseTimer.isSome) :
    pauseExpires s = roKick (s.setLki { s.lki with pauseTimer := none }) := by
  obtain ⟨left, timer⟩ := Option.isSome_iff_exists.1 runs
  simp only [pauseExpires, timer]

theorem pauseExpires_of_absent (absent : s.lki.pauseTimer = none) : pauseExpires s = s := by
  simp only [pauseExpires, absent]

/-- Settles O17: a PAUSE by its payload length, the arbiter and the expiry by whether the timer runs. -/
theorem pauseHoldsReturnOut : Obligations.PauseHoldsReturnOut := by
  unfold Obligations.PauseHoldsReturnOut
  refine ⟨fun hd s => ⟨exec_pause_empty hd s, ?_⟩,
    fun hd payload s length fits => exec_pause_of_length hd length fits s,
    fun s paused => roKick_of_paused paused,
    fun s => ⟨fun runs => congrArg Host.Outcome.next (pauseExpires_of_running runs),
      fun absent => congrArg Host.Outcome.next (pauseExpires_of_absent absent)⟩⟩
  rw [heard_of_not_forwarded rfl]
  exact ⟨rfl, rfl⟩

/-! ## The Pass Buffer and its repetition of PAUSE (R187, R188) -/

theorem exec_passBufferEntry (fits : f.payload.length ≤ maxPayload) (s : State) :
    exec (.passBufferEntry f) s = .next (enterPass f s) :=
  congrArg Host.Outcome.next (if_pos fits)

theorem enterPass_of_full (full : 4 ≤ s.lki.passBuffer.length) : enterPass f s = bump .returnOverflow s :=
  if_neg (Nat.not_lt.2 full)

/-- A level that does not rise from 2 to 3 sets no PAUSE due. -/
theorem enterPass_of_room (room : s.lki.passBuffer.length < 4) (level : s.lki.passBuffer.length ≠ 2) :
    enterPass f s = roKick (s.setLki { s.lki with passBuffer := s.lki.passBuffer ++ [f] }) := by
  simp only [enterPass, if_pos room, if_neg level]

/-- The level rises from 2 to 3 (R188). -/
theorem enterPass_of_two (level : s.lki.passBuffer.length = 2) :
    enterPass f s
      = roKick (setPauseDue (s.setLki { s.lki with passBuffer := s.lki.passBuffer ++ [f] })) := by
  simp only [enterPass, level, if_true, if_pos (show 2 < 4 by decide)]

theorem repeatExpires_of_high (runs : s.lki.repeatTimer.isSome) (high : 3 ≤ s.lki.passBuffer.length) :
    repeatExpires s = setPauseDue s := by
  obtain ⟨left, timer⟩ := Option.isSome_iff_exists.1 runs
  simp only [repeatExpires, timer, if_pos high]

theorem repeatExpires_of_low (runs : s.lki.repeatTimer.isSome) (low : s.lki.passBuffer.length < 3) :
    repeatExpires s = s.setLki { s.lki with repeatTimer := none } := by
  obtain ⟨left, timer⟩ := Option.isSome_iff_exists.1 runs
  simp only [repeatExpires, timer, if_neg (Nat.not_le.2 low)]

theorem repeatExpires_of_absent (absent : s.lki.repeatTimer = none) : repeatExpires s = s := by
  simp only [repeatExpires, absent]

/-- Settles O18: the Pass Buffer by its level, the expiry by the timer and the level, the end of a transmission by
what waits and the preference. -/
theorem returnLaneAlternates : Obligations.ReturnLaneAlternates := by
  unfold Obligations.ReturnLaneAlternates
  refine ⟨fun f s fits => ?_, fun s => ?_, fun s runs => ?_,
    fun s paused => congrArg Host.Outcome.next (roEnds_of_paused paused)⟩
  · rw [exec_passBufferEntry fits]
    exact ⟨fun full => congrArg Host.Outcome.next (enterPass_of_full full),
      fun room level => congrArg Host.Outcome.next (enterPass_of_room room level),
      fun level => congrArg Host.Outcome.next (enterPass_of_two level)⟩
  · exact ⟨fun running high => congrArg Host.Outcome.next (repeatExpires_of_high running high),
      fun running low => congrArg Host.Outcome.next (repeatExpires_of_low running low),
      fun absent => congrArg Host.Outcome.next (repeatExpires_of_absent absent)⟩
  · have ends : exec .roTransmissionEnd s = .next (roChoose (s.setLki { s.lki with roFrame := none })) :=
      congrArg Host.Outcome.next (roEnds_of_unpaused runs)
    rw [ends]
    refine ⟨fun pass reports => ?_, fun f rest pass chosen => ?_, fun r rest reports chosen => ?_⟩
    · rw [roChoose_of_empty (by simpa using pass) (by simpa using reports)]
    · rw [roChoose_of_pass (f := f) (rest := rest) (by simpa using pass) (by simpa using chosen)]
      rfl
    · rw [roChoose_of_report (r := r) (rest := rest) (by simpa using reports) (by simpa using chosen)]
      rfl

end Sys2Proof.Machine
end

section
/-! Silence and symbols on DI (R179, R185, R186): the frame cut off, the link that goes DOWN, and the statement
about them. -/

namespace Sys2Proof.Machine

variable {s : State}

/-! ## The frame cut off (R179; log 11) -/

theorem cutOff_of_open (opened : s.lki.diOpen = true) :
    cutOff s = bump .crcErrors (s.setLki { s.lki with diOpen := false }) := if_pos opened

theorem cutOff_of_closed (closed : s.lki.diOpen = false) : cutOff s = s := if_neg (by simp [closed])

/-- Cutting a frame off leaves the rest of the link. -/
theorem cutOff_link (s : State) : (cutOff s).lki = { s.lki with diOpen := false } := by
  cases opened : s.lki.diOpen
  · rw [cutOff_of_closed opened, ← opened]
  · simp [cutOff_of_open opened]

/-- A frame cut off is counted once, and none where none was open. -/
theorem cutOff_rpu (s : State) :
    (cutOff s).rpu = if s.lki.diOpen = true then (bump .crcErrors s).rpu else s.rpu := by
  cases opened : s.lki.diOpen
  · rw [cutOff_of_closed opened, if_neg Bool.false_ne_true]
  · rw [cutOff_of_open opened, if_pos rfl]
    rfl

/-! ## The expiry (R185, R186) -/

theorem silenceExpires_of_up (up : s.lki.link = .up) :
    silenceExpires s = linkGoesDown (cutOff (s.setLki { s.lki with silence := 10000 })) :=
  if_pos (by simpa [cutOff_link] using up)

theorem silenceExpires_of_down (down : s.lki.link = .down) :
    silenceExpires s = cutOff (s.setLki { s.lki with silence := 10000 }) :=
  if_neg (by simp [cutOff_link, down])

/-- In SORTING or DRAINING the link's going DOWN is a cause that waits to be taken (R186). -/
theorem linkGoesDown_cmu_of_running (engine : s.cmu.engine = .sorting ∨ s.cmu.engine = .draining) :
    (linkGoesDown s).cmu = { s.cmu with causes := s.cmu.causes ++ [.linkDown] } := by
  rw [linkGoesDown, raiseCause_cmu (by simpa using engine)]
  simp

/-- In the other engine states it requests nothing (R175, R176). -/
theorem linkGoesDown_cmu_of_idle (not_sorting : s.cmu.engine ≠ .sorting)
    (not_draining : s.cmu.engine ≠ .draining) : (linkGoesDown s).cmu = s.cmu := by
  rw [linkGoesDown, raiseCause_cmu_of_idle (by simpa using not_sorting) (by simpa using not_draining)]
  simp

/-! ## Symbols (R179, R185) -/

/-- Of a symbol the link keeps the restart of its silence timer, and of a start symbol the frame it opens. -/
theorem receiveSymbols_lki (sym : Symbols) (s : State) :
    (receiveSymbols sym s).lki
      = { s.lki with
          silence := 0
          diOpen := match sym with
            | .frameBegins => true
            | _ => s.lki.diOpen } := by
  cases sym with
  | idle => rfl
  | frameGoesOn => rfl
  | frameBegins => simp [receiveSymbols, cutOff_link]

/-- Only a start symbol that cuts off a frame is counted (R179). -/
theorem receiveSymbols_rpu (sym : Symbols) (s : State) :
    (receiveSymbols sym s).rpu
      = if sym = .frameBegins ∧ s.lki.diOpen = true then (bump .crcErrors s).rpu else s.rpu := by
  cases sym with
  | idle => rfl
  | frameGoesOn => rfl
  | frameBegins =>
    simp only [true_and]
    exact cutOff_rpu (s.setLki _)

theorem exec_silenceTimerExpiry (s : State) :
    exec .silenceTimerExpiry s = .next (finish (silenceExpires s)) := rfl

/-- Settles O19: the expiry by the link and the open frame, its cause by the engine state, a symbol by what it
leaves of the link and the counters. -/
theorem silenceTakesTheLinkDown : Obligations.SilenceTakesTheLinkDown := by
  unfold Obligations.SilenceTakesTheLinkDown
  refine ⟨fun s => ⟨fun up closed => ?_, fun up opened => ?_, fun down closed => ?_, fun down opened => ?_,
    fun up rest => ?_⟩, fun sym s => ?_⟩
  · rw [exec_silenceTimerExpiry, silenceExpires_of_up up, cutOff_of_closed (by simpa using closed)]
    rfl
  · rw [exec_silenceTimerExpiry, silenceExpires_of_up up, cutOff_of_open (by simpa using opened)]
    rfl
  · rw [exec_silenceTimerExpiry, silenceExpires_of_down down, cutOff_of_closed (by simpa using closed)]
  · rw [exec_silenceTimerExpiry, silenceExpires_of_down down, cutOff_of_open (by simpa using opened)]
    rfl
  · refine ⟨_, exec_silenceTimerExpiry s, fun running => ?_, fun not_sorting not_draining => ?_⟩
    · refine finish_of_raised rest running ?_ (by simp) (by simp) (by simp)
      rw [silenceExpires_of_up up, linkGoesDown_cmu_of_running (by simpa using running)]
      simp
    · rw [finish_of_idle (by simpa using not_sorting) (by simpa using not_draining), silenceExpires_of_up up,
        linkGoesDown_cmu_of_idle (by simpa using not_sorting) (by simpa using not_draining)]
      simp
  · refine ⟨_, rfl, by simp [State.sameButLink], ?_, receiveSymbols_lki sym s, ?_⟩
    · rw [receiveSymbols_rpu, apply_ite Rpu.rq]
      exact ite_self _
    · rw [receiveSymbols_rpu, apply_ite Rpu.counters]

end Sys2Proof.Machine
end

section
/-! The bytes of a frame (R179; 12, section 12.1): the fields found in them, their check, and the statement about
their reception. -/

namespace Sys2Proof.Machine

/-! ## Fields of bytes (12, opening) -/

@[simp] theorem le_length (n v : Nat) : (le n v).length = n := by
  induction n generalizing v with
  | zero => rfl
  | succ n ih => exact congrArg (· + 1) (ih (v / 256))

/-- Two bytes, least significant first, give back a number below 65,536. -/
theorem two_bytes_toNat {n : Nat} (h : n < 65536) :
    (BitVec.ofNat 8 n).toNat + 256 * (BitVec.ofNat 8 (n / 256)).toNat = n := by
  simp only [BitVec.toNat_ofNat]
  omega

/-! ## A frame's bytes (R179) -/

/-- The nine bytes of the header, then the payload and the CRC. -/
theorem frame_bytes_eq (f : Frame) :
    f.bytes
      = f.ftype :: f.hdr.destKind :: f.hdr.destValue :: f.hdr.source
        :: BitVec.ofNat 8 f.hdr.tag.toNat :: BitVec.ofNat 8 (f.hdr.tag.toNat / 256) :: f.hdr.flags
        :: BitVec.ofNat 8 f.payload.length :: BitVec.ofNat 8 (f.payload.length / 256)
        :: (f.payload ++ le 4 (crc32 f.body).toNat) := by
  simp [Frame.bytes, Frame.body, le]

theorem frame_body_length (f : Frame) : f.body.length = 9 + f.payload.length := by
  simp only [Frame.body, List.length_append, List.length_cons, List.length_nil, le_length]

theorem frame_bytes_length (f : Frame) : f.bytes.length = 13 + f.payload.length := by
  rw [Frame.bytes, List.length_append, frame_body_length, le_length]
  omega

/-- The last four bytes are the CRC of those before them. -/
theorem frame_bytes_split (f : Frame) :
    f.bytes.take (f.bytes.length - 4) = f.body
      ∧ f.bytes.drop (f.bytes.length - 4) = le 4 (crc32 f.body).toNat := by
  have body : f.bytes.length - 4 = f.body.length := by
    rw [frame_bytes_length, frame_body_length]
    omega
  rw [body]
  exact ⟨List.take_left, List.drop_left⟩

/-- The payload length field. -/
theorem frame_bytes_lengthField {f : Frame} (fits : f.payload.length ≤ maxPayload) :
    u16 f.bytes 7 = f.payload.length := by
  rw [frame_bytes_eq]
  exact two_bytes_toNat (by simp only [maxPayload] at fits; omega)

theorem frame_bytes_good {f : Frame} (fits : f.payload.length ≤ maxPayload) : goodBytes f.bytes = true := by
  obtain ⟨body, crc⟩ := frame_bytes_split f
  rw [goodBytes, body, crc, frame_bytes_lengthField fits, frame_bytes_length]
  simp [fits]

theorem frameOfBytes_bytes {f : Frame} (fits : f.payload.length ≤ maxPayload) : frameOfBytes f.bytes = f := by
  have tag : BitVec.ofNat 16 (u16 f.bytes 4) = f.hdr.tag := by
    rw [frame_bytes_eq]
    exact (congrArg (BitVec.ofNat 16) (two_bytes_toNat f.hdr.tag.isLt)).trans (BitVec.ofNat_toNat ..)
  have payload : (f.bytes.drop 9).take f.payload.length = f.payload := by
    rw [frame_bytes_eq]
    exact List.take_left
  rw [frameOfBytes, tag, frame_bytes_lengthField fits, payload, frame_bytes_eq]
  rfl

/-- Settles O54: the bytes pass the tests of a good frame, and their fields are the frame's. -/
theorem frameBytesRoundTrip : Obligations.FrameBytesRoundTrip :=
  fun _ fits => (if_pos (frame_bytes_good fits)).trans (congrArg some (frameOfBytes_bytes fits))

end Sys2Proof.Machine
end

section
/-! The steps (log 3): the command at the front of the queue, and the passing of 0.1 us on the empty queue. -/

namespace Sys2Proof.Machine

theorem step_of_pending {s : State} {c : Instr} {rest : List Instr} (pending : s.pending = c :: rest) :
    step s = exec c (s.setPending rest) := by
  simp only [step, pending]

theorem step_of_empty {s : State} (empty : s.pending = []) : step s = .next (tick s) := by
  simp only [step, empty]

/-- Settles O1. -/
theorem stepRunsTheFrontCommand : Obligations.StepRunsTheFrontCommand :=
  fun _ _ _ => step_of_pending

/-- Settles O2: the empty queue's step is the tick, field by field. -/
theorem idleStepPassesOneTimeUnit : Obligations.IdleStepPassesOneTimeUnit :=
  fun _ => step_of_empty

end Sys2Proof.Machine
end

section
/-! The Report Queue (R192 ~ R195): its places, what each kind of frame finds at admission, and the statement about
it. -/

namespace Sys2Proof.Machine

variable {s : State} {x : Response} {n : Notice} {r : ObjectReport} {u : Nat}

/-! ## The places in use (R192) -/

/-- Every frame of the queue is of one kind. -/
theorem length_reports (rq : List Report) :
    rq.length = rq.countP Report.isResponse + rq.countP Report.isNotice + rq.countP Report.isObjectReport := by
  induction rq with
  | nil => rfl
  | cons x rq ih =>
    simp only [List.length_cons, List.countP_cons, ih]
    cases x <;> simp [Report.isResponse, Report.isNotice, Report.isObjectReport] <;> omega

/-- The places in use are the two of responses, the four of notices and the general ones (R192). -/
theorem length_rq (q : Rpu) : q.rq.length = min q.responses 2 + min q.notices 4 + q.generalUsed := by
  have kinds : q.rq.length = q.responses + q.notices + q.objectReports := length_reports q.rq
  unfold Rpu.generalUsed
  omega

@[simp] theorem generalFree_iff (q : Rpu) : q.generalFree = true ↔ q.generalUsed < 26 := decide_eq_true_iff

/-! ## The last frame of a kind (R193) -/

/-- The last element of a kind is the one after which there is none. -/
theorem eraseLast_of_last {α : Type} {p : α → Bool} {before after : List α} {d : α} (last : p d = true)
    (none_after : ∀ y ∈ after, p y = false) : eraseLast p (before ++ d :: after) = before ++ after := by
  have passed : ∀ y ∈ after.reverse, ¬ p y = true := by simpa using none_after
  simp [eraseLast, List.eraseP_append_right _ passed, last]

/-- A list that holds an element of a kind holds a last one. -/
theorem exists_last_of_countP_pos {α : Type} {p : α → Bool} {l : List α} (some_one : 0 < l.countP p) :
    ∃ before d after, l = before ++ d :: after ∧ p d = true ∧ ∀ y ∈ after, p y = false := by
  induction l with
  | nil => simp at some_one
  | cons a l ih =>
    by_cases later : 0 < l.countP p
    · obtain ⟨before, d, after, rfl, last, none_after⟩ := ih later
      exact ⟨a :: before, d, after, rfl, last, none_after⟩
    · have none_later : ∀ y ∈ l, p y = false := by simpa using later
      have here : p a = true := by
        by_contra other
        simp [other, later] at some_one
      exact ⟨[], a, l, rfl, here, none_later⟩

/-! ## Admission (R193, R195) -/

/-- A response finds one of its two places or a general one. -/
theorem admitResponse_of_place (place : s.rpu.responses < 2 ∨ s.rpu.generalUsed < 26) :
    admitResponse x s = joinRq (.response x) s :=
  if_pos (by simpa using place)

/-- A response without a place takes that of the last object report (R193). -/
theorem admitResponse_of_report {before after : List Report} {d : Report} (second : 2 ≤ s.rpu.responses)
    (full : 26 ≤ s.rpu.generalUsed) (queue : s.rpu.rq = before ++ d :: after) (last : d.isObjectReport = true)
    (none_after : ∀ y ∈ after, y.isObjectReport = false) :
    admitResponse x s
      = joinRq (.response x) (bump .reportsDropped (s.setRpu { s.rpu with rq := before ++ after })) := by
  have reports : 0 < s.rpu.objectReports := by simp [Rpu.objectReports, queue, last]
  have no_place : ¬ (decide (s.rpu.responses < 2) || s.rpu.generalFree) = true := by simp; omega
  rw [admitResponse, if_neg no_place, if_pos reports, queue, eraseLast_of_last last none_after]

/-- With no object report it takes the place of the last notice, where one holds a general place (R193). -/
theorem admitResponse_of_notice {before after : List Report} {d : Report} (second : 2 ≤ s.rpu.responses)
    (full : 26 ≤ s.rpu.generalUsed) (no_report : s.rpu.objectReports = 0) (fifth : 4 < s.rpu.notices)
    (queue : s.rpu.rq = before ++ d :: after) (last : d.isNotice = true)
    (none_after : ∀ y ∈ after, y.isNotice = false) :
    admitResponse x s
      = joinRq (.response x) (bump .noticesDropped (s.setRpu { s.rpu with rq := before ++ after })) := by
  have no_place : ¬ (decide (s.rpu.responses < 2) || s.rpu.generalFree) = true := by simp; omega
  rw [admitResponse, if_neg no_place, if_neg (by omega), if_pos fifth, queue,
    eraseLast_of_last last none_after]

/-- An engine without a unit number posts no notice (R195). -/
theorem notice_of_unnumbered (unnumbered : s.cmu.unit = none) : notice n s = s :=
  if_neg (by simp [State.numbered, unnumbered])

/-- A notice finds one of its four places or a general one. -/
theorem notice_of_place (numbered : s.cmu.unit = some u)
    (place : s.rpu.notices < 4 ∨ s.rpu.generalUsed < 26) : notice n s = joinRq (.notice u n) s := by
  rw [notice, if_pos (by simp [State.numbered, numbered]), if_pos (by simpa using place), State.unitNumber,
    numbered, Option.getD_some]

theorem notice_of_full (numbered : s.cmu.unit = some u) (fourth : 4 ≤ s.rpu.notices)
    (full : 26 ≤ s.rpu.generalUsed) : notice n s = bump .noticesDropped s := by
  rw [notice, if_pos (by simp [State.numbered, numbered]), if_neg (by simp; omega)]

/-- An object report finds a general place. -/
theorem postReport_of_place (numbered : s.cmu.unit = some u) (place : s.rpu.generalUsed < 26) :
    postReport r s = joinRq (.objectReport u r) s := by
  rw [postReport, if_pos (by simpa using place), State.unitNumber, numbered, Option.getD_some]

theorem postReport_of_full (full : 26 ≤ s.rpu.generalUsed) : postReport r s = bump .reportsDropped s :=
  if_neg (by simpa using full)

/-- While RO sends a frame, the one that joins the queue stays at its end (R190, R192). -/
theorem joinRq_of_sending (x : Report) (sending : s.lki.roFrame.isSome = true) :
    joinRq x s = s.setRpu { s.rpu with rq := s.rpu.rq ++ [x] } :=
  if_neg (by simp [Option.isNone_eq_false_iff.2 sending])

/-- Settles O20: each frame by the place it finds; a command's end and its answer are responses. -/
theorem reportQueueAdmission : Obligations.ReportQueueAdmission := by
  unfold Obligations.ReportQueueAdmission
  refine ⟨⟨fun q => ⟨rfl, length_rq q⟩, fun x s => ⟨admitResponse_of_place, ?_, ?_⟩,
    fun n s => ⟨notice_of_unnumbered, fun _ => notice_of_place, fun _ => notice_of_full⟩,
    fun r u s numbered => ⟨postReport_of_place numbered, postReport_of_full⟩, fun x s => joinRq_of_sending x⟩,
    fun _ _ _ _ _ => endCommand_of_executing, fun _ _ _ _ _ _ => rfl⟩
  · exact fun second full _ _ _ => admitResponse_of_report second full
  · exact fun second full no_report fifth _ _ _ => admitResponse_of_notice second full no_report fifth

end Sys2Proof.Machine
end

section
/-! The configuration record and its 47 bytes (09, section 9.6; 12, section 12.2), and the statement about them. -/

namespace Sys2Proof.Machine

variable {c : Configuration} {b : List Byte}

/-! ## Numbers in bytes (12, opening) -/

theorem one_byte_toNat {n : Nat} (h : n < 256) : (BitVec.ofNat 8 n).toNat = n :=
  Nat.mod_eq_of_lt h

/-- Three bytes, least significant first, give back a number below 2^24. -/
theorem three_bytes_toNat {n : Nat} (h : n < 16777216) :
    (BitVec.ofNat 8 n).toNat + 256 * (BitVec.ofNat 8 (n / 256)).toNat
      + 65536 * (BitVec.ofNat 8 (n / 256 / 256)).toNat = n := by
  simp only [BitVec.toNat_ofNat]
  omega

/-! ## Codes (12.2) -/

theorem Policy.code_le (p : Policy) : p.code ≤ 2 := by cases p <;> decide

theorem Policy.ofCode_code (p : Policy) : Policy.ofCode p.code = p := by cases p <;> rfl

theorem OotFullAction.code_le (a : OotFullAction) : a.code ≤ 1 := by cases a <;> decide

theorem OotFullAction.ofCode_code (a : OotFullAction) : OotFullAction.ofCode a.code = a := by cases a <;> rfl

theorem OverlapPolicy.code_le (p : OverlapPolicy) : p.code ≤ 2 := by cases p <;> decide

theorem OverlapPolicy.ofCode_code (p : OverlapPolicy) : OverlapPolicy.ofCode p.code = p := by cases p <;> rfl

theorem ReportMode.code_le (m : ReportMode) : m.code ≤ 2 := by cases m <;> decide

theorem ReportMode.ofCode_code (m : ReportMode) : ReportMode.ofCode m.code = m := by cases m <;> rfl

/-! ## The record in its bytes -/

/-- The bytes hold each parameter of the record at its place (12.2). -/
structure Configuration.CarriedBy (c : Configuration) (b : List Byte) : Prop where
  group : u8 b 0x00 = c.group
  ownFirst : u16 b 0x01 = c.ownFirst
  ownLast : u16 b 0x03 = c.ownLast
  guard : u8 b 0x05 = c.guard
  linePitch : u8 b 0x06 = c.linePitch
  ltrigEnable : u8 b 0x07 = c.ltrigEnable.toNat
  edgeFilter : u8 b 0x08 = c.edgeFilter
  stallTimeout : u8 b 0x09 = c.stallTimeout
  reverseLimit : u16 b 0x0A = c.reverseLimit
  revCounts : u24 b 0x0C = c.revCounts
  revTolerance : u8 b 0x0F = c.revTolerance
  latencyLines : u8 b 0x10 = c.latencyLines
  maxObjectLines : u8 b 0x11 = c.maxObjectLines
  ootFullAction : u8 b 0x12 = c.ootFullAction.code
  policyLineLoss : u8 b 0x13 = c.policyLineLoss.code
  policyMixed : u8 b 0x14 = c.policyMixed.code
  policyTruncated : u8 b 0x15 = c.policyTruncated.code
  policyOversize : u8 b 0x16 = c.policyOversize.code
  policyPartial : u8 b 0x17 = c.policyPartial.code
  policyGap : u8 b 0x18 = c.policyGap.code
  flightOffset : u16 b 0x19 = c.flightOffset
  preMargin : u16 b 0x1B = c.preMargin
  postMargin : u16 b 0x1D = c.postMargin
  valveLatency : u8 b 0x1F = c.valveLatency
  overlapPolicy : u8 b 0x20 = c.overlapPolicy.code
  holdoff : u8 b 0x21 = c.holdoff
  heatStep : u8 b 0x22 = c.heatStep
  tripLevel : u16 b 0x23 = c.tripLevel
  rearmLevel : u16 b 0x25 = c.rearmLevel
  scrubInterval : u8 b 0x27 = c.scrubInterval
  swapDeadline : u8 b 0x28 = c.swapDeadline
  reportMode : u8 b 0x29 = c.reportMode.code
  calTargetR : u8 b 0x2A = c.calTargetR
  calTargetG : u8 b 0x2B = c.calTargetG
  calTargetB : u8 b 0x2C = c.calTargetB
  calTargetN : u8 b 0x2D = c.calTargetN
  calTolerance : u8 b 0x2E = c.calTolerance

/-- The 47 bytes one by one. -/
theorem configuration_bytes_eq (c : Configuration) :
    c.bytes
      = [.ofNat 8 c.group, .ofNat 8 c.ownFirst, .ofNat 8 (c.ownFirst / 256), .ofNat 8 c.ownLast,
          .ofNat 8 (c.ownLast / 256), .ofNat 8 c.guard, .ofNat 8 c.linePitch, if c.ltrigEnable then 1 else 0,
          .ofNat 8 c.edgeFilter, .ofNat 8 c.stallTimeout, .ofNat 8 c.reverseLimit,
          .ofNat 8 (c.reverseLimit / 256), .ofNat 8 c.revCounts, .ofNat 8 (c.revCounts / 256),
          .ofNat 8 (c.revCounts / 256 / 256), .ofNat 8 c.revTolerance, .ofNat 8 c.latencyLines,
          .ofNat 8 c.maxObjectLines, .ofNat 8 c.ootFullAction.code, .ofNat 8 c.policyLineLoss.code,
          .ofNat 8 c.policyMixed.code, .ofNat 8 c.policyTruncated.code, .ofNat 8 c.policyOversize.code,
          .ofNat 8 c.policyPartial.code, .ofNat 8 c.policyGap.code, .ofNat 8 c.flightOffset,
          .ofNat 8 (c.flightOffset / 256), .ofNat 8 c.preMargin, .ofNat 8 (c.preMargin / 256),
          .ofNat 8 c.postMargin, .ofNat 8 (c.postMargin / 256), .ofNat 8 c.valveLatency,
          .ofNat 8 c.overlapPolicy.code, .ofNat 8 c.holdoff, .ofNat 8 c.heatStep, .ofNat 8 c.tripLevel,
          .ofNat 8 (c.tripLevel / 256), .ofNat 8 c.rearmLevel, .ofNat 8 (c.rearmLevel / 256),
          .ofNat 8 c.scrubInterval, .ofNat 8 c.swapDeadline, .ofNat 8 c.reportMode.code,
          .ofNat 8 c.calTargetR, .ofNat 8 c.calTargetG, .ofNat 8 c.calTargetB, .ofNat 8 c.calTargetN,
          .ofNat 8 c.calTolerance] := by
  delta Configuration.bytes
  simp only [List.append_assoc]
  simp only [le, bit, List.cons_append, List.nil_append]

theorem configuration_bytes_length (c : Configuration) : c.bytes.length = 47 := by
  rw [configuration_bytes_eq]
  rfl

theorem policy_byte (p : Policy) : (BitVec.ofNat 8 p.code).toNat = p.code :=
  one_byte_toNat (Nat.lt_of_le_of_lt p.code_le (by decide))

/-- A record whose parameters lie in their ranges stands in its bytes. -/
theorem carriedBy_bytes (range : c.inRange = true) : c.CarriedBy c.bytes := by
  simp only [Configuration.inRange, Bool.and_eq_true, decide_eq_true_eq] at range
  rw [configuration_bytes_eq]
  constructor
  case ltrigEnable => cases c.ltrigEnable <;> rfl
  case ownFirst => exact two_bytes_toNat (by omega)
  case ownLast => exact two_bytes_toNat (by omega)
  case reverseLimit => exact two_bytes_toNat (by omega)
  case flightOffset => exact two_bytes_toNat (by omega)
  case preMargin => exact two_bytes_toNat (by omega)
  case postMargin => exact two_bytes_toNat (by omega)
  case tripLevel => exact two_bytes_toNat (by omega)
  case rearmLevel => exact two_bytes_toNat (by omega)
  case revCounts => exact three_bytes_toNat (by omega)
  case policyLineLoss => exact policy_byte _
  case policyMixed => exact policy_byte _
  case policyTruncated => exact policy_byte _
  case policyOversize => exact policy_byte _
  case policyPartial => exact policy_byte _
  case policyGap => exact policy_byte _
  case ootFullAction => exact one_byte_toNat (Nat.lt_of_le_of_lt c.ootFullAction.code_le (by decide))
  case overlapPolicy => exact one_byte_toNat (Nat.lt_of_le_of_lt c.overlapPolicy.code_le (by decide))
  case reportMode => exact one_byte_toNat (Nat.lt_of_le_of_lt c.reportMode.code_le (by decide))
  all_goals exact one_byte_toNat (by omega)

theorem ofBytes_of_carriedBy (h : c.CarriedBy b) : Configuration.ofBytes b = c := by
  obtain ⟨⟩ := h
  simp only [Configuration.ofBytes, *, Policy.ofCode_code, OotFullAction.ofCode_code,
    OverlapPolicy.ofCode_code, ReportMode.ofCode_code]
  simp

/-- A record whose parameters lie in their ranges passes the tests of a CONFIGURE (R168). -/
theorem configurationTests_of_carriedBy (h : c.CarriedBy b) (range : c.inRange = true) :
    firstFailing (configurationTests b) = none := by
  obtain ⟨⟩ := h
  simp only [Configuration.inRange, Bool.and_eq_true, decide_eq_true_eq] at range
  simp only [configurationTests, *, firstFailing]
  simp_all [Policy.code_le, OotFullAction.code_le, OverlapPolicy.code_le, ReportMode.code_le, Bool.toNat_le]

/-- Settles O53: each parameter is read from the place at which the bytes carry it. -/
theorem configurationBytesRoundTrip : Obligations.ConfigurationBytesRoundTrip :=
  fun c range => ⟨configuration_bytes_length c, ofBytes_of_carriedBy (carriedBy_bytes range),
    configurationTests_of_carriedBy (carriedBy_bytes range) range⟩

end Sys2Proof.Machine
end

section
/-! What a step keeps of the objects' account, their records, the closing order list and the PLR (R61, R63, R71,
R196), and of the Report Queue's places (R192, R194): the laws said of the parts they read, and one relation between
the state before a step and each state on the way, which every operation carries on. For an operation `f` the lemma
`f_accounts` says so. -/

namespace Sys2Proof.Machine

/-! ## The laws, part by part -/

/-- Counts of the 16 classes, that of class 0 being 0 (R61). -/
def noBackground (counts : List Nat) : Prop := counts.length = 16 ∧ counts.getD 0 0 = 0

/-- The record of an object that holds a pixel and none of class 0 (R61, R65). -/
def ObjectRecord.whole (o : ObjectRecord) : Prop := 1 ≤ o.area ∧ noBackground o.histogram

/-- A slot whose object, if it has one, is whole. -/
def OotSlot.sound : OotSlot → Prop
  | .free => True
  | .opened o => o.whole
  | .closing o => o.whole

/-- The records' law, of the table and of the Verdict Unit. -/
theorem recordLaw_iff (s : State) :
    s.recordLaw ↔ (∀ x ∈ s.oas.oot, x.sound) ∧ (∀ o ∈ s.vdu.vq, o.whole)
      ∧ ∀ o, s.vdu.evaluating = some o → o.whole := by
  have table : (∀ x ∈ s.oas.oot, x.sound)
      ↔ (∀ o ∈ s.oas.openObjects, o.whole) ∧ ∀ o ∈ s.oas.oot.filterMap OotSlot.closed?, o.whole := by
    simp only [Oas.openObjects, List.mem_filterMap]
    constructor
    · intro sound
      constructor
      · rintro o ⟨x, mem, read⟩
        cases x <;> cases read
        exact sound _ mem
      · rintro o ⟨x, mem, read⟩
        cases x <;> cases read
        exact sound _ mem
    · rintro ⟨opened, closed⟩ x mem
      cases x with
      | free => trivial
      | opened o => exact opened o ⟨_, mem, rfl⟩
      | closing o => exact closed o ⟨_, mem, rfl⟩
  rw [table, and_assoc]
  show (∀ o : ObjectRecord, o ∈ _ → o.whole) ↔ _
  simp only [List.mem_append, or_imp, forall_and, Option.mem_toList, and_assoc]

/-- The runs lie in column order, and there are at most 128 (R63). -/
def inColumns (runs : List PlrRun) : Prop :=
  runs.length ≤ 128 ∧ runs.Pairwise (fun a b => a.last < b.first) ∧ ∀ p ∈ runs, p.first ≤ p.last

/-- Each run is labelled with an OPEN slot of the table or none (R63). -/
def labelled (table : List OotSlot) (runs : List PlrRun) : Prop :=
  ∀ p ∈ runs, ∀ i, p.label = some i → (table.getD i .free).isOpen = true

theorem plrLaw_iff (s : State) : s.plrLaw ↔ inColumns s.oas.plr ∧ labelled s.oas.oot s.oas.plr := by
  simp only [State.plrLaw, inColumns, labelled, and_assoc]
  rfl

theorem plrLaw_of_nil {s : State} (empty : s.oas.plr = []) : s.plrLaw := by
  simp [plrLaw_iff, inColumns, labelled, empty]

/-- The response that the executing command is still to give (R165). -/
def Cmu.owed (c : Cmu) : Nat := if c.executing.isSome then 1 else 0

/-- With `room` more responses still to be queued the Report Queue stays within its places (R192, R194). -/
def State.queueLeaves (room : Nat) (s : State) : Prop :=
  s.rpu.generalUsed ≤ 26 ∧ s.rpu.responses + s.cmu.owed + room ≤ 27

/-- The counters of the objects' account (R196). -/
def accountCounters : List Counter :=
  [.objectsOpened, .objectsRejected, .objectsAccepted, .objectsDiscarded, .objectsAbandoned, .objectsMerged]

/-! ## The relation -/

/-- `t`, on the way of a step from `s`, meets each law of the objects but the PLR's that `s` meets; and if `s` meets
the Report Queue's law, the queue of `t` leaves `room` responses. -/
structure State.KeepsObjects (room : Nat) (s t : State) : Prop where
  account : s.objectLaw → t.objectLaw
  records : s.recordLaw → t.recordLaw
  closing : s.closingLaw → t.closingLaw
  queue : s.queueLaw → t.queueLeaves room

/-- The PLR's law also is kept. -/
structure State.KeepsAccounts (room : Nat) (s t : State) : Prop extends s.KeepsObjects room t where
  plr : s.plrLaw → t.plrLaw

theorem State.KeepsAccounts.refl (s : State) : s.KeepsAccounts 0 s := ⟨⟨id, id, id, id⟩, id⟩

/-- What the laws but the PLR's read of a state. -/
def State.objects (s : State) : List OotSlot × List Nat × Vdu × Rpu × Option Executing :=
  (s.oas.oot, s.oas.closingOrder, s.vdu, s.rpu, s.cmu.executing)

/-- What the laws read of a state. -/
def State.accounts (s : State) : List PlrRun × List OotSlot × List Nat × Vdu × Rpu × Option Executing :=
  (s.oas.plr, s.objects)

variable {s t u : State} {k : Nat}

theorem State.KeepsObjects.same (h : s.KeepsObjects k t) (e : u.objects = t.objects) :
    s.KeepsObjects k u := by
  simp only [State.objects, Prod.mk.injEq] at e
  obtain ⟨oot, order, vdu, rpu, executing⟩ := e
  obtain ⟨account, records, closing, queue⟩ := h
  constructor
  case account =>
    simpa only [State.objectLaw, State.counter, State.inFlight, Oas.openCount, Oas.closingCount, oot, vdu, rpu]
      using account
  case records => simpa only [recordLaw_iff, oot, vdu] using records
  case closing => simpa only [State.closingLaw, oot, order] using closing
  case queue => simpa only [State.queueLeaves, Cmu.owed, rpu, executing] using queue

/-- An operation that leaves what the laws read. -/
theorem State.KeepsAccounts.same (h : s.KeepsAccounts k t) (e : u.accounts = t.accounts) :
    s.KeepsAccounts k u where
  toKeepsObjects := h.toKeepsObjects.same (congrArg Prod.snd e)
  plr law := by
    simp only [State.accounts, State.objects, Prod.mk.injEq] at e
    obtain ⟨plr, oot, -⟩ := e
    simpa only [plrLaw_iff, oot, plr] using h.plr law

theorem setLiu_accounts {x : Liu} (h : s.KeepsAccounts k t) : s.KeepsAccounts k (t.setLiu x) := h.same rfl

/-- The executing command stands. -/
theorem setCmu_accounts {x : Cmu} (h : s.KeepsAccounts k t) (executing : x.executing = t.cmu.executing) :
    s.KeepsAccounts k (t.setCmu x) :=
  h.same (by simp [State.accounts, State.objects, executing])

/-- A register of the assembler that no law reads. -/
theorem setOas_accounts {x : Oas} (h : s.KeepsAccounts k t) (table : x.oot = t.oas.oot)
    (order : x.closingOrder = t.oas.closingOrder) (plr : x.plr = t.oas.plr) : s.KeepsAccounts k (t.setOas x) :=
  h.same (by simp [State.accounts, State.objects, table, order, plr])

/-- Both branches of a test. -/
theorem ite_accounts {c : Prop} [Decidable c] (ht : s.KeepsAccounts k t) (hu : s.KeepsAccounts k u) :
    s.KeepsAccounts k (if c then t else u) := by
  split
  · exact ht
  · exact hu

/-- A fold over steps that each keep the laws keeps them. -/
theorem foldl_accounts {α : Type} {f : State → α → State}
    (hf : ∀ u a, s.KeepsAccounts k u → s.KeepsAccounts k (f u a)) {l : List α} (h : s.KeepsAccounts k t) :
    s.KeepsAccounts k (l.foldl f t) := by
  induction l generalizing t with
  | nil => exact h
  | cons a l ih => exact ih (hf t a h)

/-! ## Counters (R196) -/

/-- A counter outside the objects' account. -/
theorem bumpBy_objects {c : Counter} {n : Nat} (h : s.KeepsObjects k t)
    (other : c ∉ accountCounters := by decide) : s.KeepsObjects k (bumpBy c n t) where
  account law := by
    obtain ⟨length, account⟩ := h.account law
    have same : ∀ d ∈ accountCounters, (bumpBy c n t).counter d = t.counter d := fun d mem =>
      bumpBy_counter_of_ne (fun e : c = d => other (e ▸ mem)) n t
    obtain ⟨opened, rejected, accepted, discarded, abandoned, merged⟩ : _ ∧ _ ∧ _ ∧ _ ∧ _ ∧ _ := by
      simpa [accountCounters] using same
    refine ⟨by simpa using length, ?_⟩
    rw [opened, rejected, accepted, discarded, abandoned, merged]
    exact account
  records := h.records
  closing := h.closing
  queue := h.queue

theorem bumpBy_accounts {c : Counter} {n : Nat} (h : s.KeepsAccounts k t)
    (other : c ∉ accountCounters := by decide) : s.KeepsAccounts k (bumpBy c n t) where
  toKeepsObjects := bumpBy_objects h.toKeepsObjects other
  plr := h.plr

theorem bump_accounts {c : Counter} (h : s.KeepsAccounts k t)
    (other : c ∉ accountCounters := by decide) : s.KeepsAccounts k (bump c t) :=
  bumpBy_accounts h other

/-! ## The Report Queue (R190 ~ R195) -/

/-- Frames that leave the queue. -/
theorem setRq_accounts {q : List Report} (h : s.KeepsAccounts k t) (fewer : q.Sublist t.rpu.rq) :
    s.KeepsAccounts k (t.setRpu { t.rpu with rq := q }) where
  account := h.account
  records := h.records
  closing := h.closing
  plr := h.plr
  queue law := by
    obtain ⟨general, responses⟩ := h.queue law
    have left (kind : Report → Bool) : q.countP kind ≤ t.rpu.rq.countP kind := fewer.countP_le
    have fewerResponses := left Report.isResponse
    have fewerNotices := left Report.isNotice
    have fewerReports := left Report.isObjectReport
    simp only [State.queueLeaves, Rpu.generalUsed, Rpu.responses, Rpu.notices, Rpu.objectReports,
      State.setRpu_rpu, State.setRpu_cmu] at general responses ⊢
    omega

theorem roSendReport_accounts (h : s.KeepsAccounts k t) : s.KeepsAccounts k (roSendReport t) := by
  unfold roSendReport
  split
  next => exact h
  next queue =>
    have sent := setRq_accounts (q := _) h (queue ▸ List.sublist_cons_self _ _)
    exact sent.same rfl

theorem roSendPass_accounts (h : s.KeepsAccounts k t) : s.KeepsAccounts k (roSendPass t) :=
  h.same (by simp [State.accounts, State.objects])

theorem roKick_accounts (h : s.KeepsAccounts k t) : s.KeepsAccounts k (roKick t) := by
  refine ite_accounts (ite_accounts (roSendReport_accounts h) (ite_accounts (roSendPass_accounts h) ?_)) h
  split
  · exact roSendPass_accounts h
  · exact roSendReport_accounts h

/-- A frame joins the queue where its places allow it. -/
theorem joinRq_accounts {j : Nat} {x : Report} (h : s.KeepsAccounts k t)
    (fits : s.queueLaw → (t.setRpu { t.rpu with rq := t.rpu.rq ++ [x] }).queueLeaves j) :
    s.KeepsAccounts j (joinRq x t) :=
  roKick_accounts ⟨⟨h.account, h.records, h.closing, fits⟩, h.plr⟩

/-- A response that finds a place. -/
theorem queueLeaves_response {x : Response} (place : t.rpu.responses < 2 ∨ t.rpu.generalUsed < 26)
    (h : t.queueLeaves (k + 1)) :
    (t.setRpu { t.rpu with rq := t.rpu.rq ++ [.response x] }).queueLeaves k := by
  simp [State.queueLeaves, Rpu.generalUsed, Rpu.responses, Rpu.notices, Rpu.objectReports, Report.isResponse,
    Report.isNotice, Report.isObjectReport] at place h ⊢
  omega

/-- A notice that finds a place. -/
theorem queueLeaves_notice {u : Nat} {n : Notice} (place : t.rpu.notices < 4 ∨ t.rpu.generalUsed < 26)
    (h : t.queueLeaves k) : (t.setRpu { t.rpu with rq := t.rpu.rq ++ [.notice u n] }).queueLeaves k := by
  simp [State.queueLeaves, Rpu.generalUsed, Rpu.responses, Rpu.notices, Rpu.objectReports, Report.isResponse,
    Report.isNotice, Report.isObjectReport] at place h ⊢
  omega

/-- An object report that finds a place. -/
theorem queueLeaves_report {u : Nat} {r : ObjectReport} (place : t.rpu.generalUsed < 26)
    (h : t.queueLeaves k) : (t.setRpu { t.rpu with rq := t.rpu.rq ++ [.objectReport u r] }).queueLeaves k := by
  simp [State.queueLeaves, Rpu.generalUsed, Rpu.responses, Rpu.notices, Rpu.objectReports, Report.isResponse,
    Report.isNotice, Report.isObjectReport] at place h ⊢
  omega

/-- The frame that a response takes the place of held a general one (R193). -/
theorem generalUsed_of_dropped {q : Rpu} {before after : List Report} {d : Report}
    (queue : q.rq = before ++ d :: after) (full : q.generalUsed ≤ 26)
    (general : d.isObjectReport = true ∨ d.isNotice = true ∧ 4 < q.notices) :
    ({ q with rq := before ++ after } : Rpu).generalUsed < 26 := by
  simp only [Rpu.generalUsed, Rpu.responses, Rpu.notices, Rpu.objectReports, queue, List.countP_append,
    List.countP_cons] at full general ⊢
  cases d <;> simp [Report.isResponse, Report.isNotice, Report.isObjectReport] at full general ⊢ <;> omega

/-- A response that takes the place of a frame which held a general one. -/
theorem admitted_accounts {x : Response} {c : Counter} {before after : List Report} {d : Report}
    (h : s.KeepsAccounts (k + 1) t) (queue : t.rpu.rq = before ++ d :: after)
    (general : d.isObjectReport = true ∨ d.isNotice = true ∧ 4 < t.rpu.notices) (other : c ∉ accountCounters) :
    s.KeepsAccounts k
      (joinRq (.response x) (bump c (t.setRpu { t.rpu with rq := before ++ after }))) := by
  have fewer : (before ++ after).Sublist t.rpu.rq :=
    queue ▸ (List.sublist_cons_self d after).append_left before
  have dropped := bump_accounts (setRq_accounts h fewer) other
  exact joinRq_accounts dropped fun law =>
    queueLeaves_response (.inr (generalUsed_of_dropped queue (h.queue law).1 general)) (dropped.queue law)

/-- A response is admitted in every case (R193): were there neither a place nor a frame to drop, the responses alone
would hold the 26 general places, and would be 28. -/
theorem admitResponse_accounts {x : Response} (h : s.KeepsAccounts (k + 1) t) :
    s.KeepsAccounts k (admitResponse x t) := by
  by_cases place : t.rpu.responses < 2 ∨ t.rpu.generalUsed < 26
  · rw [admitResponse_of_place place]
    exact joinRq_accounts h fun law => queueLeaves_response place (h.queue law)
  obtain ⟨second, full⟩ : 2 ≤ t.rpu.responses ∧ 26 ≤ t.rpu.generalUsed := by omega
  by_cases reports : 0 < t.rpu.objectReports
  · obtain ⟨before, d, after, queue, last, none_after⟩ := exists_last_of_countP_pos reports
    rw [admitResponse_of_report second full queue last none_after]
    exact admitted_accounts h queue (.inl last) (by decide)
  by_cases fifth : 4 < t.rpu.notices
  · obtain ⟨before, d, after, queue, last, none_after⟩ :=
      exists_last_of_countP_pos (p := Report.isNotice) (l := t.rpu.rq) (Nat.lt_trans (by decide) fifth)
    rw [admitResponse_of_notice second full (by omega) fifth queue last none_after]
    exact admitted_accounts h queue (.inr ⟨last, fifth⟩) (by decide)
  have admitted : admitResponse x t = joinRq (.response x) t := by
    rw [admitResponse, if_neg (by simp; omega), if_neg reports, if_neg fifth]
  rw [admitted]
  refine joinRq_accounts h fun law => ?_
  obtain ⟨_, responses⟩ := h.queue law
  unfold Rpu.generalUsed at full
  omega

theorem notice_accounts {n : Notice} (h : s.KeepsAccounts k t) : s.KeepsAccounts k (notice n t) := by
  unfold notice
  refine ite_accounts ?_ h
  split
  next place => exact joinRq_accounts h fun law => queueLeaves_notice (by simpa using place) (h.queue law)
  next => exact bump_accounts h

theorem postReport_accounts {r : ObjectReport} (h : s.KeepsAccounts k t) :
    s.KeepsAccounts k (postReport r t) := by
  unfold postReport
  split
  next place => exact joinRq_accounts h fun law => queueLeaves_report (by simpa using place) (h.queue law)
  next => exact bump_accounts h

/-! ## Responses and causes (R164, R165, R175) -/

/-- A response takes the place left for it (R194). -/
theorem respond_accounts {code : Byte} {tag : Word16} {status : Status} {detail : Nat} {data : List Byte}
    (h : s.KeepsAccounts (k + 1) t) : s.KeepsAccounts k (respond code tag status detail data t) :=
  admitResponse_accounts h

/-- The executing command's end leaves the place of its response, which takes it (R165). -/
theorem endCommand_accounts {status : Status} {detail : Nat} {data : List Byte} (h : s.KeepsAccounts k t) :
    s.KeepsAccounts k (endCommand status detail data t) := by
  unfold endCommand
  split
  next => exact h
  next e executes =>
    refine respond_accounts ⟨⟨h.account, h.records, h.closing, fun law => ?_⟩, h.plr⟩
    have leaves := h.queue law
    simp [State.queueLeaves, Cmu.owed, executes] at leaves ⊢
    omega

/-- A command that begins to execute is to give its response later (R165). -/
theorem beginCommand_accounts {c : Command} {tag : Word16} (h : s.KeepsAccounts (k + 1) t) :
    s.KeepsAccounts k (beginCommand c tag t) := by
  refine ⟨⟨h.account, h.records, h.closing, fun law => ?_⟩, h.plr⟩
  have leaves := h.queue law
  simp [State.queueLeaves, Cmu.owed, beginCommand] at leaves ⊢
  omega

theorem raiseCause_accounts {c : FaultCause} (h : s.KeepsAccounts k t) :
    s.KeepsAccounts k (raiseCause c t) := by
  unfold raiseCause
  split
  · exact h.same rfl
  · exact h.same rfl
  · exact bump_accounts h
  · exact h
  · exact h

theorem doKick_accounts (h : s.KeepsAccounts k t) : s.KeepsAccounts k (doKick t) := by
  refine ite_accounts (ite_accounts (bump_accounts (h.same rfl)) ?_) h
  split
  · exact h
  · exact h.same rfl

end Sys2Proof.Machine
end

section
/-! The objects' laws and the Report Queue's through the operations of the valves and the Valve Port
(Machine/Valves) and of the Ejection Scheduler (Machine/Ejection), which reach the Report Unit only. -/

namespace Sys2Proof.Machine

variable {s t : State} {k : Nat}

/-! ## Valves (R122 ~ R133) -/

theorem onTest_accounts {i : Nat} (h : s.KeepsAccounts k t) : s.KeepsAccounts k (onTest i t) := by
  unfold onTest
  dsimp only
  split
  · exact ite_accounts (h.same rfl) h
  · exact ite_accounts h (h.same rfl)
  · exact ite_accounts (bump_accounts (h.same rfl)) h
  · exact h
  · exact h

theorem handOver_accounts {before : State} (h : s.KeepsAccounts k t) :
    s.KeepsAccounts k (handOver before t) :=
  foldl_accounts (fun _ _ hu => ite_accounts (onTest_accounts hu) hu) h

theorem raiseCounts_accounts {first last : Nat} (h : s.KeepsAccounts k t) :
    s.KeepsAccounts k (raiseCounts first last t) :=
  bumpBy_accounts (h.same rfl)

theorem endTestOf_accounts {i : Nat} {status : Status} {detail : Nat} (h : s.KeepsAccounts k t) :
    s.KeepsAccounts k (endTestOf i status detail t) :=
  ite_accounts (endCommand_accounts (h.same rfl)) h

theorem endTestOff_accounts {status : Status} {data : Nat → State → List Byte} (h : s.KeepsAccounts k t) :
    s.KeepsAccounts k (endTestOff status data t) := by
  unfold endTestOff
  split
  · exact h
  · exact endCommand_accounts (onTest_accounts (h.same rfl))

theorem abortTest_accounts (h : s.KeepsAccounts k t) : s.KeepsAccounts k (abortTest t) :=
  ite_accounts (endTestOff_accounts h) (endCommand_accounts h)

theorem holdoffExpires_accounts {i : Nat} (h : s.KeepsAccounts k t) :
    s.KeepsAccounts k (holdoffExpires i t) := by
  unfold holdoffExpires
  split
  · exact h
  · exact onTest_accounts (h.same rfl)

theorem trip_accounts {i : Nat} (h : s.KeepsAccounts k t) : s.KeepsAccounts k (trip i t) :=
  ite_accounts (endTestOf_accounts (notice_accounts (bump_accounts (h.same rfl)))) h

theorem thermalTick_accounts (h : s.KeepsAccounts k t) : s.KeepsAccounts k (thermalTick t) :=
  foldl_accounts (fun _ _ hu => trip_accounts hu) (h.same rfl)

theorem disableValve_accounts {i : Nat} (h : s.KeepsAccounts k t) : s.KeepsAccounts k (disableValve i t) :=
  ite_accounts (h.same rfl) (h.same rfl)

theorem enableValve_accounts {i : Nat} (h : s.KeepsAccounts k t) : s.KeepsAccounts k (enableValve i t) :=
  onTest_accounts (h.same rfl)

/-! ## Valve Port (R134 ~ R138) -/

theorem coilFault_accounts {i : Nat} (h : s.KeepsAccounts k t) : s.KeepsAccounts k (coilFault i t) :=
  ite_accounts
    (endTestOf_accounts (notice_accounts (bump_accounts (ite_accounts (h.same rfl) (h.same rfl))))) h

theorem restoreLink_accounts {q : Byte} (h : s.KeepsAccounts k t) : s.KeepsAccounts k (restoreLink q t) :=
  ite_accounts (notice_accounts (h.same rfl)) h

theorem applyStatus_accounts {frame : List Byte} (h : s.KeepsAccounts k t) :
    s.KeepsAccounts k (applyStatus frame t) :=
  foldl_accounts (fun _ _ hu => coilFault_accounts hu) (h.same rfl)

theorem statusArrives_accounts {frame : List Byte} (h : s.KeepsAccounts k t) :
    s.KeepsAccounts k (statusArrives frame t) :=
  ite_accounts (restoreLink_accounts (applyStatus_accounts (h.same rfl))) (bump_accounts h)

theorem loseValveLink_accounts {q : Byte} (h : s.KeepsAccounts k t) :
    s.KeepsAccounts k (loseValveLink q t) :=
  endTestOff_accounts (raiseCause_accounts (notice_accounts (bump_accounts (h.same rfl))))

theorem windowCloses_accounts (h : s.KeepsAccounts k t) : s.KeepsAccounts k (windowCloses t) :=
  ite_accounts (loseValveLink_accounts (h.same rfl)) (h.same rfl)

/-! ## Activation and advance (R110 ~ R115) -/

theorem activate_accounts {i : Nat} {r : EjectionRecord} (h : s.KeepsAccounts k t) :
    s.KeepsAccounts k (activate i r t) :=
  have fired : s.KeepsAccounts k (bump .ejectionsFired (raiseCounts r.valveFirst r.valveLast
      (t.setEjs { t.ejs with ael := t.ejs.ael.set i (some r) }))) :=
    bump_accounts (raiseCounts_accounts (h.same rfl))
  ite_accounts (bump_accounts fired) fired

theorem activationTest_accounts {n : Nat} (h : s.KeepsAccounts k t) :
    s.KeepsAccounts k (activationTest n t) := by
  induction n generalizing t with
  | zero => exact h
  | succ n ih =>
    unfold activationTest
    split
    next => exact h
    next r rest _ =>
      have left : s.KeepsAccounts k (t.setEjs { t.ejs with eq := rest }) := h.same rfl
      refine ite_accounts (ite_accounts (ih (bump_accounts left)) ?_) h
      split
      · exact ih (activate_accounts left)
      · exact ite_accounts h (bump_accounts (h.same rfl))

theorem ejectionAdvance_accounts (h : s.KeepsAccounts k t) : s.KeepsAccounts k (ejectionAdvance t) := by
  refine activationTest_accounts (foldl_accounts (fun u i hu => ?_) h)
  unfold closeSlot
  split
  · exact hu
  · exact ite_accounts (hu.same rfl) hu

/-! ## Taking a request (R105 ~ R111) -/

theorem mergeQueued_accounts {i : Nat} {q : EjectionRequest} {r : EjectionRecord} (h : s.KeepsAccounts k t) :
    s.KeepsAccounts k (mergeQueued i q r t) :=
  have merged : s.KeepsAccounts k (bump .ejectionsMerged t) := bump_accounts h
  ite_accounts (ite_accounts (activationTest_accounts (merged.same rfl)) (merged.same rfl)) (merged.same rfl)

theorem mergeActive_accounts {i : Nat} {q : EjectionRequest} {r : EjectionRecord} (h : s.KeepsAccounts k t) :
    s.KeepsAccounts k (mergeActive i q r t) :=
  have folded (m : EjectionRecord) : s.KeepsAccounts k
      (bump .ejectionsMerged (t.setEjs { t.ejs with ael := t.ejs.ael.set i (some m) })) :=
    bump_accounts (h.same rfl)
  have lower := ite_accounts (raiseCounts_accounts (folded _)) (folded _)
  ite_accounts (raiseCounts_accounts lower) lower

theorem makeRecord_accounts {q : EjectionRequest} (h : s.KeepsAccounts k t) :
    s.KeepsAccounts k (makeRecord q t) := by
  refine ite_accounts ?_ (ite_accounts (h.same rfl) (bump_accounts h))
  unfold makeLate
  split
  · exact activate_accounts h
  · exact ite_accounts (h.same rfl) (bump_accounts h)

theorem takeMerge_accounts {q : EjectionRequest} (h : s.KeepsAccounts k t) :
    s.KeepsAccounts k (takeMerge q t) := by
  unfold takeMerge
  split
  · split
    · exact mergeActive_accounts h
    · exact h
  · split
    · split
      · exact mergeQueued_accounts h
      · exact h
    · exact makeRecord_accounts h

theorem requestEvent_accounts {q : EjectionRequest} (h : s.KeepsAccounts k t) :
    s.KeepsAccounts k (requestEvent q t) := by
  refine handOver_accounts (ite_accounts (bump_accounts h) ?_)
  split
  · exact takeMerge_accounts h
  · exact ite_accounts (bump_accounts h) (makeRecord_accounts h)
  · exact makeRecord_accounts h

theorem takeFrom_accounts {src : Requester} (h : s.KeepsAccounts k t) :
    s.KeepsAccounts k (takeFrom src t) := by
  unfold takeFrom
  split
  · split
    · exact h
    · exact requestEvent_accounts (h.same rfl)
  · split
    · exact h
    · exact requestEvent_accounts (h.same rfl)

theorem handRequest_accounts {src : Requester} {q : EjectionRequest} (h : s.KeepsAccounts k t) :
    s.KeepsAccounts k (handRequest src q t) := by
  cases src with
  | verdictUnit => exact h.same rfl
  | objectAssembler => exact h.same rfl

/-! ## Flush (R119) -/

theorem flush_accounts (h : s.KeepsAccounts k t) : s.KeepsAccounts k (flush t) :=
  have taken : s.KeepsAccounts k (takeAll t) :=
    foldl_accounts (fun _ _ hu => requestEvent_accounts hu) (h.same rfl)
  handOver_accounts (bumpBy_accounts (taken.same rfl))

end Sys2Proof.Machine
end

section
/-! The objects in flight (R55, R71, R72, R196): a table whose slots stay of their kind, a slot that changes, and
what each does to the account of the objects. The laws through the moves and takes of the Verdict Unit, its
evaluations, and the abandonments (Machine/Verdict, Tables, Assembly). -/

namespace Sys2Proof.Machine

variable {s t u : State} {k n i : Nat} {c : Counter} {o : ObjectRecord} {x : OotSlot} {l m : List OotSlot}

/-! ## The slots of the table -/

/-- The objects of a table, OPEN and CLOSING (R55). -/
def inTable (l : List OotSlot) : Nat := l.countP OotSlot.isOpen + l.countP OotSlot.isClosing

theorem inFlight_eq (s : State) : s.inFlight = inTable s.oas.oot + s.vdu.held := rfl

/-- The object of a slot, counted. -/
def OotSlot.holds (x : OotSlot) : Nat := if x.isFree then 0 else 1

theorem inTable_cons (x : OotSlot) (l : List OotSlot) : inTable (x :: l) = inTable l + x.holds := by
  cases x <;> simp [inTable, List.countP_cons, OotSlot.isOpen, OotSlot.isClosing, OotSlot.holds, OotSlot.isFree] <;>
    omega

/-- A slot of the table that changes takes its object from the count and adds the new one. -/
theorem inTable_set (inside : i < l.length) (x : OotSlot) :
    inTable (l.set i x) + (l.getD i .free).holds = inTable l + x.holds := by
  induction l generalizing i with
  | nil => cases inside
  | cons y l ih =>
    cases i with
    | zero =>
      rw [List.set_cons_zero, List.getD_cons_zero, inTable_cons, inTable_cons]
      omega
    | succ i =>
      have later := ih (Nat.lt_of_succ_lt_succ inside)
      rw [List.set_cons_succ, List.getD_cons_succ, inTable_cons, inTable_cons]
      omega

/-- A slot that is not FREE stands in the table. -/
theorem inside_of_holds (held : l.getD i .free ≠ .free) : i < l.length := by
  by_contra outside
  exact held (by simp [List.getD_eq_getElem?_getD, List.getElem?_eq_none (Nat.le_of_not_lt outside)])

theorem getD_set (l : List OotSlot) (i j : Nat) (x : OotSlot) :
    (l.set i x).getD j .free = if i = j ∧ i < l.length then x else l.getD j .free := by
  simp only [List.getD_eq_getElem?_getD, List.getElem?_set]
  split
  next here =>
    subst here
    split
    next inside => simp [inside]
    next outside => simp [outside]
  next elsewhere => simp [elsewhere]

/-- A change of every slot that leaves a FREE slot so. -/
theorem getD_map {f : OotSlot → OotSlot} (free : f .free = .free) (i : Nat) :
    (l.map f).getD i .free = f (l.getD i .free) := by
  simp only [List.getD_eq_getElem?_getD, List.getElem?_map]
  cases l[i]? with
  | none => exact free.symm
  | some y => rfl

theorem sound_map {f : OotSlot → OotSlot} (same : ∀ x : OotSlot, x.sound → (f x).sound)
    (sound : ∀ y ∈ l, y.sound) : ∀ y ∈ l.map f, y.sound := by
  intro y mem
  obtain ⟨x, here, rfl⟩ := List.mem_map.1 mem
  exact same x (sound x here)

theorem sound_set (sound : ∀ y ∈ l, y.sound) (new : x.sound) : ∀ y ∈ l.set i x, y.sound := fun y mem =>
  (List.mem_or_eq_of_mem_set mem).elim (sound y) (fun same => same ▸ new)

theorem sound_getD (sound : ∀ y ∈ l, y.sound) (i : Nat) : (l.getD i .free).sound := by
  rw [List.getD_eq_getElem?_getD]
  cases read : l[i]? with
  | none => trivial
  | some y => exact sound y (List.mem_of_getElem? read)

/-! ## Tables alike -/

/-- A slot of the same kind, sound if the other is. -/
def OotSlot.Alike (x y : OotSlot) : Prop :=
  y.isOpen = x.isOpen ∧ y.isClosing = x.isClosing ∧ (x.sound → y.sound)

/-- Tables whose slots are alike. -/
structure AlikeTables (l m : List OotSlot) : Prop where
  length : m.length = l.length
  slots : ∀ i, (l.getD i .free).Alike (m.getD i .free)

theorem AlikeTables.inTable_eq (h : AlikeTables l m) : inTable m = inTable l := by
  have kinds {kind : OotSlot → Bool} (same : ∀ i, kind (m.getD i .free) = kind (l.getD i .free)) :
      m.countP kind = l.countP kind := by
    have mapped : m.map kind = l.map kind := by
      refine List.ext_getElem (by simp [h.length]) fun i inside inside' => ?_
      simp only [List.length_map] at inside inside'
      simpa [List.getD_eq_getElem?_getD, inside, inside'] using same i
    have counted (q : List OotSlot) : q.countP kind = (q.map kind).countP id := by simp [List.countP_map]
    rw [counted, mapped, ← counted]
  rw [inTable, kinds fun i => (h.slots i).1, kinds fun i => (h.slots i).2.1, ← inTable]

theorem AlikeTables.sound (h : AlikeTables l m) (sound : ∀ y ∈ l, y.sound) : ∀ y ∈ m, y.sound := by
  intro y mem
  obtain ⟨i, inside, rfl⟩ := List.mem_iff_getElem.1 mem
  simpa [List.getD_eq_getElem?_getD, inside] using (h.slots i).2.2 (sound_getD sound i)

theorem alike_map {f : OotSlot → OotSlot} (same : ∀ x : OotSlot, x.Alike (f x)) (free : f .free = .free) :
    AlikeTables l (l.map f) where
  length := List.length_map _
  slots i := getD_map (l := l) free i ▸ same _

theorem OotSlot.Alike.refl (x : OotSlot) : x.Alike x := ⟨rfl, rfl, id⟩

theorem alike_set (same : (l.getD i .free).Alike x) : AlikeTables l (l.set i x) where
  length := List.length_set
  slots j := by
    rw [getD_set]
    split
    next here => exact here.1 ▸ same
    next => exact .refl _

/-! ## The account (R196) -/

/-- The counters in which an object's way ends. -/
def settlingCounters : List Counter :=
  [.objectsRejected, .objectsAccepted, .objectsDiscarded, .objectsAbandoned, .objectsMerged]

/-- Objects that end their way leave the flight and are counted. -/
theorem objectLaw_settled (law : t.objectLaw) (settles : c ∈ settlingCounters) (rpu : u.rpu = t.rpu)
    (flight : u.inFlight + n = t.inFlight) : (bumpBy c n u).objectLaw := by
  obtain ⟨length, account⟩ := law
  have stands (d : Counter) : u.counter d = t.counter d := by rw [State.counter, rpu, ← State.counter]
  have length' : u.rpu.counters.length = 54 := rpu ▸ length
  refine ⟨by simpa using length', ?_⟩
  have inFlight : (bumpBy c n u).inFlight = u.inFlight := rfl
  rw [inFlight]
  simp only [← stands, ← flight, BitVec.ofNat_add] at account
  simp only [settlingCounters, List.mem_cons, List.not_mem_nil, or_false] at settles
  rcases settles with rfl | rfl | rfl | rfl | rfl
  all_goals
    rw [bumpBy_counter_of_ne (by decide), account]
    simp only [bumpBy_counter_of_length _ n length', ne_eq, reduceCtorEq, not_false_eq_true,
      bumpBy_counter_of_ne]
    ac_rfl

/-- An object that is opened joins the flight and is counted. -/
theorem objectLaw_opened (law : t.objectLaw) (rpu : u.rpu = t.rpu) (flight : u.inFlight = t.inFlight + 1) :
    (bump .objectsOpened u).objectLaw := by
  obtain ⟨length, account⟩ := law
  have stands (d : Counter) : u.counter d = t.counter d := by rw [State.counter, rpu, ← State.counter]
  have length' : u.rpu.counters.length = 54 := rpu ▸ length
  refine ⟨by simpa using length', ?_⟩
  have inFlight : (bump .objectsOpened u).inFlight = u.inFlight := rfl
  rw [inFlight, flight, bump_counter_of_length _ length', stands, account, BitVec.ofNat_add]
  simp only [ne_eq, reduceCtorEq, not_false_eq_true, bump_counter_of_ne, stands, BitVec.ofNat_eq_ofNat]
  ac_rfl

theorem objectLaw_moved (law : t.objectLaw) (rpu : u.rpu = t.rpu) (flight : u.inFlight = t.inFlight) :
    u.objectLaw := by
  simpa only [State.objectLaw, State.counter, rpu, flight] using law

/-! ## What an operation on the objects asks -/

/-- Objects that move within the flight. -/
theorem moved_objects (h : s.KeepsObjects k t) (rpu : u.rpu = t.rpu) (cmu : u.cmu = t.cmu)
    (flight : u.inFlight = t.inFlight) (records : t.recordLaw → u.recordLaw)
    (closing : t.closingLaw → u.closingLaw) : s.KeepsObjects k u where
  account law := objectLaw_moved (h.account law) rpu flight
  records law := records (h.records law)
  closing law := closing (h.closing law)
  queue law := by simpa only [State.queueLeaves, rpu, cmu] using h.queue law

/-- Objects that end their way, counted in `c`. -/
theorem settled_objects (h : s.KeepsObjects k t) (settles : c ∈ settlingCounters) (rpu : u.rpu = t.rpu)
    (cmu : u.cmu = t.cmu) (flight : u.inFlight + n = t.inFlight) (records : t.recordLaw → u.recordLaw)
    (closing : t.closingLaw → u.closingLaw) : s.KeepsObjects k (bumpBy c n u) where
  account law := objectLaw_settled (h.account law) settles rpu flight
  records law := records (h.records law)
  closing law := closing (h.closing law)
  queue law := by
    show State.queueLeaves k u
    simpa only [State.queueLeaves, rpu, cmu] using h.queue law

theorem settled_accounts (h : s.KeepsAccounts k t) (settles : c ∈ settlingCounters) (rpu : u.rpu = t.rpu)
    (cmu : u.cmu = t.cmu) (flight : u.inFlight + n = t.inFlight) (records : t.recordLaw → u.recordLaw)
    (closing : t.closingLaw → u.closingLaw) (plr : t.plrLaw → u.plrLaw) : s.KeepsAccounts k (bumpBy c n u) where
  toKeepsObjects := settled_objects h.toKeepsObjects settles rpu cmu flight records closing
  plr law := plr (h.plr law)

/-- The closing order list stands, and each slot stays CLOSING or not. -/
theorem closingLaw_congr (order : u.oas.closingOrder = t.oas.closingOrder)
    (same : ∀ j, (u.oas.oot.getD j .free).isClosing = (t.oas.oot.getD j .free).isClosing) :
    t.closingLaw → u.closingLaw := by
  rintro ⟨nodup, closes⟩
  exact ⟨order ▸ nodup, fun j => by rw [order, same, closes j]⟩

/-- A table that stays alike. -/
theorem retable_objects {y : Oas} (h : s.KeepsObjects k t) (alike : AlikeTables t.oas.oot y.oot)
    (order : y.closingOrder = t.oas.closingOrder) : s.KeepsObjects k (t.setOas y) := by
  refine moved_objects h rfl rfl ?_ (fun law => ?_) (closingLaw_congr order fun j => (alike.slots j).2.1)
  · simp only [inFlight_eq, State.setOas_oas, State.setOas_vdu, alike.inTable_eq]
  · obtain ⟨table, queued⟩ := (recordLaw_iff t).1 law
    exact (recordLaw_iff (t.setOas y)).2 ⟨alike.sound table, queued⟩

theorem labelled_of_alike {runs : List PlrRun} (alike : AlikeTables l m) (h : labelled l runs) :
    labelled m runs := fun p mem j label => (alike.slots j).1.trans (h p mem j label)

theorem retable_accounts {y : Oas} (h : s.KeepsAccounts k t) (alike : AlikeTables t.oas.oot y.oot)
    (order : y.closingOrder = t.oas.closingOrder) (plr : y.plr = t.oas.plr) :
    s.KeepsAccounts k (t.setOas y) where
  toKeepsObjects := retable_objects h.toKeepsObjects alike order
  plr law := by
    obtain ⟨columns, labels⟩ := (plrLaw_iff t).1 (h.plr law)
    refine (plrLaw_iff _).2 ?_
    rw [State.setOas_oas, plr]
    exact ⟨columns, labelled_of_alike alike labels⟩

/-! ## Moves and takes (R72, R84) -/

theorem vduTake_objects (h : s.KeepsObjects k t) : s.KeepsObjects k (vduTake t) := by
  refine moved_objects h (by simp) (by simp) ?_ (fun law => ?_) (vduTake_closingLaw t).2
  all_goals unfold vduTake; split
  next idle queue => simp [inFlight_eq, Vdu.held, idle, queue, Nat.add_comm]
  next => rfl
  next idle queue =>
    obtain ⟨table, queued, _⟩ := (recordLaw_iff t).1 law
    rw [queue] at queued
    refine (recordLaw_iff (t.setVdu _)).2 ⟨table, fun o mem => queued o (List.mem_cons_of_mem _ mem), ?_⟩
    rintro o ⟨⟩
    exact queued _ List.mem_cons_self
  next => exact law

theorem vduTake_accounts (h : s.KeepsAccounts k t) : s.KeepsAccounts k (vduTake t) where
  toKeepsObjects := vduTake_objects h.toKeepsObjects
  plr law := by
    have same : (vduTake t).oas = t.oas := by simp
    simpa only [State.plrLaw, same] using h.plr law

/-- A move frees a CLOSING slot, to which no run of the previous line is labelled. -/
theorem closingMove_cases_of_any (t : State) :
    closingMove t = t
      ∨ ∃ i rest o, t.oas.oot.getD i .free = .closing o
          ∧ closingMove t
            = (t.setOas { t.oas with closingOrder := rest, oot := t.oas.oot.set i .free }).setVdu
                { t.vdu with vq := t.vdu.vq ++ [o] } := by
  unfold closingMove
  split
  next => exact .inl rfl
  next i rest _ =>
    split
    next =>
      split
      next o slot => exact .inr ⟨i, rest, o, slot, rfl⟩
      next => exact .inl rfl
      next => exact .inl rfl
    next => exact .inl rfl

theorem closingMove_objects (h : s.KeepsObjects k t) : s.KeepsObjects k (closingMove t) := by
  refine moved_objects h (by simp) (by simp) ?_ (fun law => ?_) (closingMove_closingLaw t)
  · rcases closingMove_cases_of_any t with same | ⟨i, rest, o, slot, moved⟩
    · rw [same]
    · have left := inTable_set (inside_of_holds (l := t.oas.oot) (i := i) (by rw [slot]; nofun)) .free
      rw [slot] at left
      rw [moved, inFlight_eq, inFlight_eq]
      cases evaluating : t.vdu.evaluating <;> simp [OotSlot.holds, OotSlot.isFree, Vdu.held, evaluating] at left ⊢ <;>
        omega
  · rcases closingMove_cases_of_any t with same | ⟨i, rest, o, slot, moved⟩
    · rwa [same]
    · obtain ⟨table, queued, evaluated⟩ := (recordLaw_iff t).1 law
      have closed : (OotSlot.closing o).sound := slot ▸ sound_getD table i
      rw [moved]
      refine (recordLaw_iff _).2 ⟨sound_set table trivial, fun p mem => ?_, evaluated⟩
      rcases List.mem_append.1 mem with mem | mem
      · exact queued p mem
      · exact List.mem_singleton.1 mem ▸ closed

theorem labelled_set_of_not_open {runs : List PlrRun} (closed : (l.getD i .free).isOpen = false)
    (h : labelled l runs) (x : OotSlot) : labelled (l.set i x) runs := by
  intro p mem j label
  have opened := h p mem j label
  rw [getD_set, if_neg]
  · exact opened
  · rintro ⟨rfl, -⟩
    rw [closed] at opened
    cases opened

theorem closingMove_accounts (h : s.KeepsAccounts k t) : s.KeepsAccounts k (closingMove t) where
  toKeepsObjects := closingMove_objects h.toKeepsObjects
  plr law := by
    rcases closingMove_cases_of_any t with same | ⟨i, rest, o, slot, moved⟩
    · rw [same]
      exact h.plr law
    · obtain ⟨columns, labels⟩ := (plrLaw_iff t).1 (h.plr law)
      rw [moved]
      exact (plrLaw_iff _).2 ⟨columns, labelled_set_of_not_open (by rw [slot]; rfl) labels _⟩

theorem pump_objects (h : s.KeepsObjects k t) : s.KeepsObjects k (pump t) :=
  pumpN_keeps_of_round (P := s.KeepsObjects k)
    (fun _ hu => vduTake_objects (closingMove_objects (vduTake_objects hu))) _ h

theorem pump_accounts (h : s.KeepsAccounts k t) : s.KeepsAccounts k (pump t) :=
  pumpN_keeps_of_round (P := s.KeepsAccounts k)
    (fun _ hu => vduTake_accounts (closingMove_accounts (vduTake_accounts hu))) _ h

/-! ## Evaluations (R85 ~ R97) -/

theorem settleReject_accounts {w : Position × Position} {v : Option (Nat × Nat)} (h : s.KeepsAccounts k t) :
    s.KeepsAccounts k (settleReject o w v t) := by
  cases v with
  | none => exact bump_accounts h
  | some v => exact ite_accounts (bump_accounts h) (handRequest_accounts h)

theorem verdict_settles (v : Verdict) : v.counter ∈ settlingCounters := by cases v <;> decide

/-- The object evaluated leaves the Verdict Unit and is counted by its outcome (R85). -/
theorem complete_accounts (h : s.KeepsAccounts k t) (evaluates : t.vdu.evaluating = some o) :
    s.KeepsAccounts k (complete o t) := by
  have counted (v : Verdict) :
      s.KeepsAccounts k (bump v.counter (t.setVdu { t.vdu with evaluating := none })) := by
    refine settled_accounts h (verdict_settles v) rfl rfl ?_ (fun law => ?_) id id
    · simp [inFlight_eq, Vdu.held, evaluates, Nat.add_assoc]
    · obtain ⟨table, queued, _⟩ := (recordLaw_iff t).1 law
      exact (recordLaw_iff (t.setVdu _)).2 ⟨table, queued, nofun⟩
  have settled (v : Verdict) (w : Position × Position) (valves : Option (Nat × Nat)) :=
    ite_accounts (c := v = .reject) (settleReject_accounts (o := o) (w := w) (v := valves) (counted v)) (counted v)
  exact ite_accounts (postReport_accounts (settled _ _ _)) (settled _ _ _)

theorem evaluationCompletes_accounts (h : s.KeepsAccounts k t) :
    s.KeepsAccounts k (evaluationCompletes t) := by
  unfold evaluationCompletes
  split
  next => exact h
  next evaluates => exact pump_accounts (complete_accounts h evaluates)

theorem abandonVerdicts_accounts (h : s.KeepsAccounts k t) : s.KeepsAccounts k (abandonVerdicts t) := by
  refine settled_accounts h (c := .objectsAbandoned) (n := t.vdu.held) (by decide) rfl rfl ?_ (fun law => ?_) id id
  · simp [inFlight_eq, Vdu.held]
  · exact (recordLaw_iff (t.setVdu _)).2 ⟨((recordLaw_iff t).1 law).1, nofun, nofun⟩

/-- A forced swap marks every object in flight MIXED (R81, R95, R160). -/
theorem markMixed_accounts (h : s.KeepsAccounts k t) : s.KeepsAccounts k (markMixed t) := by
  have marked : s.KeepsAccounts k (t.setOas { t.oas with oot := t.oas.oot.map OotSlot.mixed }) :=
    retable_accounts h (alike_map (fun x => by cases x <;> exact ⟨rfl, rfl, id⟩) rfl) rfl rfl
  refine ⟨moved_objects marked.toKeepsObjects rfl rfl ?_ (fun law => ?_) id, marked.plr⟩
  · cases evaluating : t.vdu.evaluating <;> simp [markMixed, inFlight_eq, Vdu.held, evaluating]
  · obtain ⟨table, queued, evaluated⟩ := (recordLaw_iff _).1 law
    refine (recordLaw_iff (markMixed t)).2 ⟨table, fun o mem => ?_, fun o evaluates => ?_⟩
    · obtain ⟨p, here, rfl⟩ := List.mem_map.1 mem
      exact queued p here
    · obtain ⟨p, here, rfl⟩ := Option.map_eq_some_iff.1 evaluates
      exact evaluated p here

/-! ## Abandonment (R78 ~ R80) -/

theorem inTable_withoutOpen (l : List OotSlot) :
    inTable (l.map OotSlot.withoutOpen) + l.countP OotSlot.isOpen = inTable l := by
  induction l with
  | nil => rfl
  | cons x l ih =>
    rw [List.map_cons, inTable_cons, inTable_cons, List.countP_cons]
    cases x <;> simp [OotSlot.withoutOpen, OotSlot.isOpen, OotSlot.holds, OotSlot.isFree] <;> omega

theorem abandonOpen_accounts (h : s.KeepsAccounts k t) : s.KeepsAccounts k (abandonOpen t) := by
  refine settled_accounts h (c := .objectsAbandoned) (n := t.oas.openCount) (by decide) rfl rfl ?_ (fun law => ?_)
    (closingLaw_congr rfl fun j => ?_) (fun _ => plrLaw_of_nil rfl)
  · have left := inTable_withoutOpen t.oas.oot
    simp only [inFlight_eq, State.setOas_oas, State.setOas_vdu, Oas.openCount]
    omega
  · obtain ⟨table, queued⟩ := (recordLaw_iff t).1 law
    exact (recordLaw_iff (t.setOas _)).2
      ⟨sound_map (fun x sound => by cases x <;> trivial) table, queued⟩
  · rw [State.setOas_oas, getD_map rfl]
    cases t.oas.oot.getD j .free <;> rfl

theorem inTable_withoutClosing (l : List OotSlot) :
    inTable (l.map OotSlot.withoutClosing) + l.countP OotSlot.isClosing = inTable l := by
  induction l with
  | nil => rfl
  | cons x l ih =>
    rw [List.map_cons, inTable_cons, inTable_cons, List.countP_cons]
    cases x <;> simp [OotSlot.withoutClosing, OotSlot.isClosing, OotSlot.holds, OotSlot.isFree] <;> omega

theorem abandonClosing_accounts (h : s.KeepsAccounts k t) : s.KeepsAccounts k (abandonClosing t) := by
  refine settled_accounts h (c := .objectsAbandoned) (n := t.oas.closingCount) (by decide) rfl rfl ?_ (fun law => ?_)
    (fun _ => ⟨List.nodup_nil, fun j => ?_⟩) (fun law => ?_)
  · have left := inTable_withoutClosing t.oas.oot
    simp only [inFlight_eq, State.setOas_oas, State.setOas_vdu, Oas.closingCount]
    omega
  · obtain ⟨table, queued⟩ := (recordLaw_iff t).1 law
    exact (recordLaw_iff (t.setOas _)).2
      ⟨sound_map (fun x sound => by cases x <;> trivial) table, queued⟩
  · rw [State.setOas_oas, getD_map rfl]
    cases t.oas.oot.getD j .free <;> simp [OotSlot.withoutClosing, OotSlot.isClosing]
  · obtain ⟨columns, labels⟩ := (plrLaw_iff t).1 law
    refine (plrLaw_iff (t.setOas _)).2 ⟨columns, fun p mem i label => ?_⟩
    have opened := labels p mem i label
    rw [State.setOas_oas, getD_map rfl]
    cases slot : t.oas.oot.getD i .free <;> rw [slot] at opened <;> exact opened

/-- FAULT entry leaves no object in the table (R80). -/
theorem emptyAssembler_accounts (h : s.KeepsAccounts k t) : s.KeepsAccounts k (emptyAssembler t) := by
  refine settled_accounts h (c := .objectsAbandoned) (n := t.oas.openCount + t.oas.closingCount) (by decide) rfl rfl
    ?_ (fun law => ?_) (fun _ => ⟨List.nodup_nil, fun j => ?_⟩) (fun _ => plrLaw_of_nil rfl)
  · have none_left : inTable (List.replicate 96 .free) = 0 := by decide
    simp only [inFlight_eq, State.setOas_oas, State.setOas_vdu, Oas.openCount, Oas.closingCount, none_left]
    rw [inTable]
    omega
  · obtain ⟨table, queued⟩ := (recordLaw_iff t).1 law
    refine (recordLaw_iff (t.setOas _)).2 ⟨fun x mem => ?_, queued⟩
    rw [List.eq_of_mem_replicate mem]
    trivial
  · have free : (List.replicate 96 OotSlot.free).getD j .free = .free := by
      rw [List.getD_eq_getElem?_getD, List.getElem?_replicate]
      split <;> rfl
    rw [State.setOas_oas, free]
    simp [OotSlot.isClosing]

end Sys2Proof.Machine
end

section
/-! The laws through the operations of the Table Store, the Pixel Classifier and the calibration (Machine/Tables,
Classify, Calibrate). -/

namespace Sys2Proof.Machine

variable {s t : State} {k : Nat}

/-! ## BANK_COPY, scrubber, BANK_SWAP (R155 ~ R160) -/

theorem copyStep_accounts (h : s.KeepsAccounts k t) : s.KeepsAccounts k (copyStep t) := by
  unfold copyStep
  split
  · exact h
  · exact ite_accounts (h.same rfl) (endCommand_accounts (h.same rfl))

theorem scrubBlock_accounts (h : s.KeepsAccounts k t) : s.KeepsAccounts k (scrubBlock t) :=
  ite_accounts (notice_accounts (bump_accounts (h.same rfl))) h

theorem scrubCheck_accounts (h : s.KeepsAccounts k t) : s.KeepsAccounts k (scrubCheck t) :=
  have zeroed : s.KeepsAccounts k (t.setTbs { t.tbs with scrubCount := 0 }) := h.same rfl
  (scrubBlock_accounts zeroed).same rfl

theorem scrubIfDue_accounts (h : s.KeepsAccounts k t) : s.KeepsAccounts k (scrubIfDue t) :=
  ite_accounts (scrubCheck_accounts h) h

theorem scrubLine_accounts (h : s.KeepsAccounts k t) : s.KeepsAccounts k (scrubLine t) :=
  ite_accounts h (scrubIfDue_accounts (h.same rfl))

theorem exchangeBanks_accounts (h : s.KeepsAccounts k t) : s.KeepsAccounts k (exchangeBanks t) :=
  bump_accounts (h.same rfl)

theorem swapForced_accounts (h : s.KeepsAccounts k t) : s.KeepsAccounts k (swapForced t) :=
  endCommand_accounts (exchangeBanks_accounts (bump_accounts (markMixed_accounts h)))

theorem swapAtQuietPoint_accounts (h : s.KeepsAccounts k t) : s.KeepsAccounts k (swapAtQuietPoint t) :=
  ite_accounts (endCommand_accounts (exchangeBanks_accounts (h.same rfl))) h

theorem swapAtDeadline_accounts (h : s.KeepsAccounts k t) : s.KeepsAccounts k (swapAtDeadline t) := by
  unfold swapAtDeadline
  split
  · exact h
  · exact ite_accounts (swapForced_accounts (h.same rfl)) h

theorem swapCount_accounts (h : s.KeepsAccounts k t) : s.KeepsAccounts k (swapCount t) := by
  unfold swapCount
  split
  · exact h
  · exact ite_accounts (h.same rfl) h

theorem lineBoundary_accounts (h : s.KeepsAccounts k t) : s.KeepsAccounts k (lineBoundary t) :=
  have signalled : s.KeepsAccounts k (t.setTbs { t.tbs with boundary := true }) := h.same rfl
  (swapCount_accounts (swapAtDeadline_accounts (swapAtQuietPoint_accounts signalled))).same rfl

/-! ## Classifier and calibration (R40 ~ R53) -/

theorem countClassified_accounts {row : List Classified} (h : s.KeepsAccounts k t) :
    s.KeepsAccounts k (countClassified row t) :=
  bumpBy_accounts (bumpBy_accounts h)

theorem endCalibrate_accounts {status : Status} {detail : Nat} (h : s.KeepsAccounts k t) :
    s.KeepsAccounts k (endCalibrate status detail t) :=
  endCommand_accounts (h.same rfl)

theorem calibrateIfDone_accounts (h : s.KeepsAccounts k t) : s.KeepsAccounts k (calibrateIfDone t) := by
  unfold calibrateIfDone
  split
  · exact h
  · refine ite_accounts ?_ h
    unfold completeCalibrate
    dsimp only
    split
    · exact endCalibrate_accounts h
    · split
      · exact endCalibrate_accounts h
      · exact endCalibrate_accounts (h.same rfl)

theorem skipLine_accounts (h : s.KeepsAccounts k t) : s.KeepsAccounts k (skipLine t) := by
  unfold skipLine
  split
  · exact h
  · exact ite_accounts (endCalibrate_accounts h) (h.same rfl)

theorem skipLines_accounts {n : Nat} (h : s.KeepsAccounts k t) : s.KeepsAccounts k (skipLines n t) := by
  induction n generalizing t with
  | zero => exact h
  | succ n ih => exact ih (skipLine_accounts h)

theorem captureSlot_accounts {slot : RingSlot} (h : s.KeepsAccounts k t) :
    s.KeepsAccounts k (captureSlot slot t) := by
  have skipped : s.KeepsAccounts k (skipLines (min slot.lostBefore 16) t) := skipLines_accounts h
  unfold captureSlot captureOwn
  split
  · exact skipped
  · exact ite_accounts skipped
      (ite_accounts (calibrateIfDone_accounts (skipped.same rfl)) (skipLine_accounts skipped))

end Sys2Proof.Machine
end

section
/-! The laws of the objects through the link of a line (R61, R64 ~ R68, R73 ~ R75). The runs linked so far stay
labelled with OPEN slots; the previous line's runs, which the end of the line replaces, are not looked at. -/

namespace Sys2Proof.Machine

variable {s t u : State} {k n : Nat} {i v x : Nat} {l : LineInAssembly} {r : Run} {o a : ObjectRecord}
  {runs : List Run} {done : List PlrRun} {full : Bool} {line : LineNo} {table : List OotSlot}

/-! ## Runs and their counts (R61, R66, R67) -/

/-- A run that holds a column and no pixel of class 0. -/
def Run.whole (r : Run) : Prop := r.first ≤ r.last ∧ noBackground r.classes

theorem noBackground_addClass {c : ClassCode} {counts : List Nat} (other : c ≠ 0) (h : noBackground counts) :
    noBackground (addClass c counts) := by
  obtain ⟨length, zero⟩ := h
  have apart : c.val ≠ 0 := fun same => other (Fin.ext same)
  refine ⟨by simpa [addClass] using length, ?_⟩
  rw [List.getD_eq_getElem?_getD] at zero ⊢
  simpa [addClass, List.getElem?_modify, apart] using zero

theorem noBackground_addHistogram {a b : List Nat} (ha : noBackground a) (hb : noBackground b) :
    noBackground (addHistogram a b) := by
  obtain ⟨length_a, zero_a⟩ := ha
  obtain ⟨length_b, zero_b⟩ := hb
  refine ⟨by simp [addHistogram, length_a, length_b], ?_⟩
  cases a with
  | nil => cases length_a
  | cons x a =>
    cases b with
    | nil => cases length_b
    | cons y b =>
      simp only [List.getD_cons_zero] at zero_a zero_b
      simp [addHistogram, zero_a, zero_b, satAdd]

/-- The scan keeps the run under way whole, and behind the next column. -/
theorem whole_scanRuns {cur : Option Run} {column : Nat} {row : List ClassCode}
    (h : ∀ r ∈ cur, r.whole ∧ r.last < column) : ∀ r ∈ scanRuns column cur row, r.whole := by
  have ended {cur : Option Run} {column : Nat} (h : ∀ r ∈ cur, r.whole ∧ r.last < column) :
      ∀ r ∈ cur.toList, r.whole := fun r mem => (h r (Option.mem_toList.1 mem)).1
  induction row generalizing cur column with
  | nil => exact ended h
  | cons c row ih =>
    unfold scanRuns
    split
    next =>
      intro r mem
      rcases List.mem_append.1 mem with mem | mem
      · exact ended h r mem
      · exact ih (by simp) r mem
    next other =>
      split
      next =>
        refine ih fun r mem => ?_
        obtain rfl := Option.mem_some_iff.1 mem
        exact ⟨⟨le_rfl, noBackground_addClass other ⟨rfl, rfl⟩⟩, Nat.lt_succ_self column⟩
      next r =>
        refine ih fun q mem => ?_
        obtain rfl := Option.mem_some_iff.1 mem
        obtain ⟨⟨ordered, counts⟩, before⟩ := h r rfl
        exact ⟨⟨show r.first ≤ column by omega, noBackground_addClass other counts⟩, Nat.lt_succ_self column⟩

theorem whole_newObject {number : LineNo} {cont : Bool} (whole : r.whole) :
    (newObject l r number cont).whole := by
  obtain ⟨ordered, counts⟩ := whole
  exact ⟨show 1 ≤ min 65535 (r.last + 1 - r.first) by omega, counts⟩

theorem whole_extend (object : o.whole) (run : r.whole) : (o.extend l r).whole := by
  obtain ⟨area, counts⟩ := object
  exact ⟨show 1 ≤ min 65535 (o.area + r.pixels) by omega, noBackground_addHistogram counts run.2⟩

theorem whole_absorb (object : o.whole) (absorbed : a.whole) : (o.absorb line a).whole := by
  obtain ⟨area, counts⟩ := object
  exact ⟨show 1 ≤ min 65535 (o.area + a.area) by omega, noBackground_addHistogram counts absorbed.2⟩

/-! ## Labels (R63, R68) -/

theorem isOpen_iff_openObject : (t.oas.oot.getD i .free).isOpen = true ↔ (t.openObject i).isSome = true := by
  unfold State.openObject OotSlot.object? OotSlot.isOpen
  cases t.oas.oot.getD i .free <;> simp

/-- A label that is none or an OPEN slot joins the labels. -/
theorem labelled_append {label : Option Nat} (h : labelled table done)
    (opened : ∀ i, label = some i → (table.getD i .free).isOpen = true) :
    labelled table (done ++ [r.labelled label]) := by
  intro p mem i here
  rcases List.mem_append.1 mem with mem | mem
  · exact h p mem i here
  · obtain rfl := List.mem_singleton.1 mem
    exact opened i here

/-- A slot that opens, or stays so, leaves the labels. -/
theorem labelled_set_opened (h : labelled table done) (i : Nat) (o : ObjectRecord) :
    labelled (table.set i (.opened o)) done := by
  intro p mem j here
  rw [getD_set]
  split
  · rfl
  · exact h p mem j here

/-- The labels of a slot that goes name an OPEN slot instead (R68). -/
theorem labelled_relabel {other : List OotSlot} (h : labelled table done)
    (survivor : (other.getD v .free).isOpen = true)
    (others : ∀ j ≠ x, (table.getD j .free).isOpen = true → (other.getD j .free).isOpen = true) :
    labelled other (relabel x v done) := by
  intro p mem j here
  obtain ⟨q, old, rfl⟩ := List.mem_map.1 mem
  split at here
  next =>
    cases here
    exact survivor
  next apart =>
    rw [if_neg apart] at *
    exact others j (fun same => apart (same ▸ here)) (h q old j here)

/-! ## The columns of the previous line's runs (R63) -/

/-- The columns of a PLR run. -/
def PlrRun.span (p : PlrRun) : Nat × Nat := (p.first, p.last)

/-- The columns of a run. -/
def Run.span (r : Run) : Nat × Nat := (r.first, r.last)

theorem inColumns_iff_spans (done : List PlrRun) :
    inColumns done ↔ (done.map PlrRun.span).length ≤ 128
      ∧ (done.map PlrRun.span).Pairwise (fun a b => a.2 < b.1) ∧ ∀ p ∈ done.map PlrRun.span, p.1 ≤ p.2 := by
  simp [inColumns, List.pairwise_map, PlrRun.span]

theorem spans_relabel (x v : Nat) (done : List PlrRun) :
    (relabel x v done).map PlrRun.span = done.map PlrRun.span := by
  rw [relabel, List.map_map]
  refine List.map_congr_left fun p _ => ?_
  rw [Function.comp_apply]
  split <;> rfl

theorem spans_relabelAll (absorbed : List Nat) (v : Nat) (done : List PlrRun) :
    (absorbed.foldl (fun d x => relabel x v d) done).map PlrRun.span = done.map PlrRun.span := by
  induction absorbed generalizing done with
  | nil => rfl
  | cons x absorbed ih => rw [List.foldl_cons, ih, spans_relabel]

theorem spans_append (done : List PlrRun) (r : Run) (label : Option Nat) :
    (done ++ [r.labelled label]).map PlrRun.span = done.map PlrRun.span ++ [r.span] := by
  rw [List.map_append]
  rfl

/-- The link of a line labels its runs and leaves their columns. -/
theorem spans_linkRuns (l : LineInAssembly) (runs : List Run) (done : List PlrRun) (full : Bool) (t : State) :
    (linkRuns l runs done full t).1.map PlrRun.span = done.map PlrRun.span ++ runs.map Run.span := by
  induction runs generalizing done full t with
  | nil => simp [linkRuns]
  | cons r rest ih =>
    have next (done : List PlrRun) (label : Option Nat) (full : Bool) (t : State) :
        (linkRuns l rest (done ++ [r.labelled label]) full t).1.map PlrRun.span
          = done.map PlrRun.span ++ (r :: rest).map Run.span := by
      rw [ih, spans_append, List.append_assoc, List.map_cons, List.singleton_append]
    unfold linkRuns
    split
    · split <;> exact next _ _ _ _
    · exact next _ _ _ _
    · exact (next _ _ _ _).trans (by rw [spans_relabelAll])

/-- The first 128 runs of a line lie in column order (R61, R62). -/
theorem inColumns_linkRuns (first : Nat) (row : List ClassCode) :
    inColumns (linkRuns l ((scanRuns first none row).take maxRuns) [] full t).1 := by
  obtain ⟨separated, _, within, _⟩ : AreRuns first row (scanRuns first none row) :=
    areRuns_scanRuns first (block := []) (by simp) row
  rw [inColumns_iff_spans, spans_linkRuns, List.map_nil, List.nil_append]
  refine ⟨by simp [maxRuns], ?_, fun p mem => ?_⟩
  · rw [List.pairwise_map]
    exact (separated.sublist (List.take_sublist _ _)).imp fun apart => Nat.lt_of_succ_lt apart
  · obtain ⟨r, taken, rfl⟩ := List.mem_map.1 mem
    exact (within r (List.mem_of_mem_take taken)).ordered

/-! ## The relation while a line is linked -/

/-- The laws of the objects, and `done` labelled with OPEN slots. -/
structure State.Links (k : Nat) (s t : State) (done : List PlrRun) : Prop extends s.KeepsObjects k t where
  labels : labelled t.oas.oot done

/-- An OPEN slot whose object changes. -/
theorem setOpen_objects (h : s.KeepsObjects k t) (opened : t.openObject i = some o) (whole : o.whole → a.whole) :
    s.KeepsObjects k (t.setSlot i (.opened a)) := by
  have slot := openObject_eq_some_iff.1 opened
  exact retable_objects h (alike_set (slot ▸ ⟨rfl, rfl, whole⟩)) rfl

theorem setOpen_links (h : s.Links k t done) (opened : t.openObject i = some o) (whole : o.whole → a.whole) :
    s.Links k (t.setSlot i (.opened a)) done :=
  ⟨setOpen_objects h.toKeepsObjects opened whole, labelled_set_opened h.labels i a⟩

theorem extendSlot_links (h : s.Links k t done) (whole : r.whole) : s.Links k (extendSlot l r i t) done := by
  unfold extendSlot
  split
  next opened => exact setOpen_links h opened (whole_extend · whole)
  next => exact h

theorem setMerged_links (h : s.Links k t done) : s.Links k (setMerged i t) done := by
  unfold setMerged
  split
  next opened => exact setOpen_links h opened id
  next => exact h

/-- A slot that is OPEN stays so where the run's object goes on in it. -/
theorem openObject_setSlot_opened (opened : (t.openObject i).isSome = true) (j : Nat) :
    ((t.setSlot j (.opened o)).openObject i).isSome = true := by
  rw [← isOpen_iff_openObject] at opened ⊢
  show ((t.oas.oot.set j (.opened o)).getD i .free).isOpen = true
  rw [getD_set]
  split
  · rfl
  · exact opened

theorem extendSlot_open (opened : (t.openObject i).isSome = true) (j : Nat) :
    ((extendSlot l r j t).openObject i).isSome = true := by
  unfold extendSlot
  split
  · exact openObject_setSlot_opened opened j
  · exact opened

theorem setMerged_open (opened : (t.openObject i).isSome = true) (j : Nat) :
    ((setMerged j t).openObject i).isSome = true := by
  unfold setMerged
  split
  · exact openObject_setSlot_opened opened j
  · exact opened

/-! ## A new object (R65) -/

theorem findIdx_isFree (free : table.findIdx? OotSlot.isFree = some i) :
    i < table.length ∧ table.getD i .free = .free := by
  obtain ⟨inside, isFree, -⟩ := List.findIdx?_eq_some_iff_getElem.1 free
  refine ⟨inside, ?_⟩
  rw [List.getD_eq_getElem?_getD, List.getElem?_eq_getElem inside, Option.getD_some]
  cases slot : table[i] with
  | free => rfl
  | opened o => rw [slot] at isFree; cases isFree
  | closing o => rw [slot] at isFree; cases isFree

theorem createObject_links (h : s.Links k t done) (free : t.oas.oot.findIdx? OotSlot.isFree = some i)
    (whole : r.whole) : s.Links k (createObject l r i t) (done ++ [r.labelled (some i)]) := by
  obtain ⟨inside, slot⟩ := findIdx_isFree free
  refine ⟨⟨fun law => objectLaw_opened (h.account law) rfl ?_, fun law => ?_, fun law => ?_, h.queue⟩,
    labelled_append (labelled_set_opened h.labels i _) fun j here => ?_⟩
  · have joined := inTable_set inside (.opened (newObject l r t.oas.numberCounter (touchesNone t r)))
    rw [slot] at joined
    have counts : inTable (t.oas.oot.set i (.opened (newObject l r t.oas.numberCounter (touchesNone t r))))
        = inTable t.oas.oot + 1 := joined
    show inTable (t.oas.oot.set i _) + t.vdu.held = inTable t.oas.oot + t.vdu.held + 1
    rw [counts]
    omega
  · obtain ⟨table, queued⟩ := (recordLaw_iff t).1 (h.records law)
    exact (recordLaw_iff (createObject l r i t)).2 ⟨sound_set table (whole_newObject whole), queued⟩
  · refine closingLaw_congr (t := t) (u := createObject l r i t) rfl (fun j => ?_) (h.closing law)
    show ((t.oas.oot.set i _).getD j .free).isClosing = _
    rw [getD_set]
    split
    next here => rw [← here.1, slot]; rfl
    next => rfl
  · cases here
    show ((t.oas.oot.set i _).getD i .free).isOpen = true
    rw [getD_set, if_pos ⟨rfl, inside⟩]
    rfl

/-! ## A run that finds no slot (R73 ~ R75) -/

theorem bumpBy_links {c : Counter} (h : s.Links k t done) (other : c ∉ accountCounters := by decide) :
    s.Links k (bumpBy c n t) done :=
  ⟨bumpBy_objects h.toKeepsObjects other, h.labels⟩

theorem findsNoSlot_links (h : s.Links k t done) : s.Links k (findsNoSlot l r full t) done := by
  have counted : s.Links k (countUnassigned r full t) done := by
    unfold countUnassigned
    split
    · exact bumpBy_links h
    · exact bumpBy_links (bumpBy_links h)
  have requested : s.Links k (blindRequest l r (countUnassigned r full t)) done := by
    unfold blindRequest
    split
    · exact bumpBy_links counted
    · exact bumpBy_links ⟨counted.toKeepsObjects.same rfl, counted.labels⟩
  show s.Links k (if _ then blindRequest l r (countUnassigned r full t) else countUnassigned r full t) done
  split
  · exact requested
  · exact counted

/-! ## A merge (R67, R68) -/

/-- The table when the object of slot `x` is folded into that of slot `v`, which becomes `o`. -/
def mergedTable (table : List OotSlot) (v x : Nat) (o : ObjectRecord) : List OotSlot :=
  (table.set v (.opened o)).set x .free

theorem getD_mergedTable_survivor (held : table.getD v .free = .opened a) (apart : x ≠ v) (b : ObjectRecord) :
    (mergedTable table v x b).getD v .free = .opened b := by
  rw [mergedTable, getD_set, if_neg fun same => apart same.1, getD_set,
    if_pos ⟨rfl, inside_of_holds (held ▸ nofun)⟩]

theorem inTable_mergedTable (held : table.getD v .free = .opened a) (gone : table.getD x .free = .opened o)
    (apart : x ≠ v) (b : ObjectRecord) : inTable (mergedTable table v x b) + 1 = inTable table := by
  have inside : x < (table.set v (.opened b)).length := by
    rw [List.length_set]
    exact inside_of_holds (gone ▸ nofun)
  have survivor := inTable_set (inside_of_holds (i := v) (l := table) (held ▸ nofun)) (.opened b)
  have freed := inTable_set inside .free
  rw [getD_set, if_neg fun same => apart same.1.symm, gone] at freed
  rw [held] at survivor
  simp only [OotSlot.holds, OotSlot.isFree, Bool.false_eq_true, if_false, if_true] at survivor freed
  rw [mergedTable]
  omega

theorem isClosing_mergedTable (held : table.getD v .free = .opened a) (gone : table.getD x .free = .opened o)
    (b : ObjectRecord) (j : Nat) :
    ((mergedTable table v x b).getD j .free).isClosing = (table.getD j .free).isClosing := by
  rw [mergedTable, getD_set]
  split
  next here => rw [← here.1, gone]; rfl
  next =>
    rw [getD_set]
    split
    next here => rw [← here.1, held]; rfl
    next => rfl

theorem isOpen_mergedTable_of_ne {j : Nat} (other : j ≠ x) (opened : (table.getD j .free).isOpen = true)
    (b : ObjectRecord) : ((mergedTable table v x b).getD j .free).isOpen = true := by
  rw [mergedTable, getD_set, if_neg fun same => other same.1.symm, getD_set]
  split
  · rfl
  · exact opened

/-- The absorbed object ends its way, and the runs of its slot are labelled with the survivor's. -/
theorem absorbSlot_links (h : s.Links k t done) (survivor : (t.openObject v).isSome = true) (apart : x ≠ v) :
    s.Links k (absorbSlot line v x t) (relabel x v done)
      ∧ ((absorbSlot line v x t).openObject v).isSome = true := by
  obtain ⟨o, here⟩ := Option.isSome_iff_exists.1 survivor
  cases there : t.openObject x with
  | none =>
    have same : absorbSlot line v x t = t := by simp only [absorbSlot, here, there]
    rw [same]
    have relabelled := labelled_relabel h.labels (isOpen_iff_openObject.2 survivor) fun (_ : Nat) (_ : _ ≠ x) => id
    exact ⟨⟨h.toKeepsObjects, relabelled⟩, survivor⟩
  | some a =>
    have held := openObject_eq_some_iff.1 here
    have gone := openObject_eq_some_iff.1 there
    have stays : ((mergedTable t.oas.oot v x (o.absorb line a)).getD v .free).isOpen = true := by
      rw [getD_mergedTable_survivor held apart]
      rfl
    rw [absorbSlot_of_open here there, ← isOpen_iff_openObject]
    refine ⟨⟨settled_objects (n := 1) h.toKeepsObjects (by decide) rfl rfl ?_ (fun law => ?_)
      (closingLaw_congr rfl (isClosing_mergedTable held gone _)), labelled_relabel h.labels stays
      fun j other opened => isOpen_mergedTable_of_ne other opened _⟩, stays⟩
    · have left := inTable_mergedTable held gone apart (o.absorb line a)
      show inTable (mergedTable _ _ _ _) + t.vdu.held + 1 = inTable t.oas.oot + t.vdu.held
      omega
    · obtain ⟨table, queued⟩ := (recordLaw_iff t).1 law
      have whole : (o.absorb line a).whole :=
        whole_absorb (held ▸ sound_getD table v : (OotSlot.opened o).sound)
          (gone ▸ sound_getD table x : (OotSlot.opened a).sound)
      exact (recordLaw_iff (t.setOas _)).2 ⟨sound_set (sound_set table whole) trivial, queued⟩

theorem absorbAll_links {absorbed : List Nat} (h : s.Links k t done) (survivor : (t.openObject v).isSome = true)
    (apart : ∀ x ∈ absorbed, x ≠ v) :
    s.Links k (absorbed.foldl (fun u x => absorbSlot line v x u) t) (absorbed.foldl (fun d x => relabel x v d) done)
      ∧ ((absorbed.foldl (fun u x => absorbSlot line v x u) t).openObject v).isSome = true := by
  induction absorbed generalizing t done with
  | nil => exact ⟨h, survivor⟩
  | cons x absorbed ih =>
    obtain ⟨links, stays⟩ := absorbSlot_links (line := line) h survivor (apart x List.mem_cons_self)
    exact ih links stays fun y mem => apart y (List.mem_cons_of_mem _ mem)

/-! ## The link of a line (R64) -/

/-- A run whose object stands in slot `i`. -/
theorem State.Links.append (h : s.Links k t done) (opened : (t.openObject i).isSome = true) (r : Run) :
    s.Links k t (done ++ [r.labelled (some i)]) :=
  ⟨h.toKeepsObjects, labelled_append h.labels fun _ same => Option.some.inj same ▸ isOpen_iff_openObject.2 opened⟩

theorem linkRuns_links (whole : ∀ r ∈ runs, r.whole) (h : s.Links k t done) :
    s.Links k (linkRuns l runs done full t).2 (linkRuns l runs done full t).1 := by
  induction runs generalizing done full t with
  | nil => exact h
  | cons r rest ih =>
    obtain ⟨run, later⟩ := List.forall_mem_cons.1 whole
    have opened (i : Nat) (mem : i ∈ linkSet t r) := ((mem_linkSet t r i).1 mem).1
    unfold linkRuns
    split
    next =>
      split
      next free => exact ih later (createObject_links h free run)
      next =>
        have unassigned := findsNoSlot_links (l := l) (r := r) (full := full) h
        exact ih later ⟨unassigned.toKeepsObjects, labelled_append unassigned.labels nofun⟩
    next i one =>
      have here := opened i (by simp [one])
      exact ih later ((extendSlot_links h run).append (extendSlot_open here i) r)
    next i j more several =>
      obtain ⟨mem, -⟩ := survivorOf_spec (n := l.line) i (j :: more) fun x mem => opened x (several ▸ mem)
      have survivor := opened _ (several ▸ mem)
      obtain ⟨absorbed, stays⟩ := absorbAll_links (line := l.line)
        (absorbed := (i :: j :: more).filter fun x => decide (x ≠ survivorOf l.line t i (j :: more))) h survivor
        fun x kept => by simpa using (List.mem_filter.1 kept).2
      exact ih later ((extendSlot_links (setMerged_links absorbed) run).append
        (extendSlot_open (setMerged_open stays _) _) r)

end Sys2Proof.Machine
end

section
/-! The laws through the closes, lost lines and the end of a line (R59 ~ R63, R69 ~ R76), and through the Line
Intake Unit (Machine/Assembly, Intake). A close alone may leave a run labelled with a slot no longer OPEN: the PLR's
law comes back with the new PLR, or with the empty one. -/

namespace Sys2Proof.Machine

variable {s t : State} {k n i : Nat} {l : LineInAssembly} {runs : List PlrRun} {overflow : Bool}

/-! ## Closes (R60, R71, R76) -/

theorem closeObject_objects {mark : ObjectFlags → ObjectFlags} (h : s.KeepsObjects k t) :
    s.KeepsObjects k (closeObject mark i t) := by
  cases opened : t.openObject i with
  | none =>
    rw [closeObject, opened]
    exact h
  | some o =>
    have slot := openObject_eq_some_iff.1 opened
    rw [closeObject_of_open mark opened]
    refine pump_objects (moved_objects h rfl rfl ?_ (fun law => ?_) fun law => closingLaw_close law slot)
    · have moved := inTable_set (inside_of_holds (l := t.oas.oot) (i := i) (slot ▸ nofun))
        (.closing { o with flags := mark o.flags })
      rw [slot] at moved
      have counts : inTable (t.oas.oot.set i (.closing { o with flags := mark o.flags })) = inTable t.oas.oot :=
        Nat.add_right_cancel moved
      simp only [inFlight_eq, State.setOas_oas, State.setOas_vdu, counts]
    · obtain ⟨table, queued⟩ := (recordLaw_iff t).1 law
      have whole : (OotSlot.opened o).sound := slot ▸ sound_getD table i
      exact (recordLaw_iff (t.setOas _)).2 ⟨sound_set table whole, queued⟩

theorem closings_objects {rule : CloseRule} (h : s.KeepsObjects k t) : s.KeepsObjects k (closings rule n t) :=
  closings_keep (P := s.KeepsObjects k) (fun _ _ _ hu => closeObject_objects hu) rule n h

theorem closeAllObjects_objects (h : s.KeepsObjects k t) : s.KeepsObjects k (closeAllObjects t) := by
  rw [closeAllObjects_eq_closings]
  exact closings_objects h

/-- A new PLR, whose law comes with it. -/
theorem replaced_accounts {y : Oas} (h : s.KeepsObjects k t) (table : y.oot = t.oas.oot)
    (order : y.closingOrder = t.oas.closingOrder) (columns : inColumns y.plr) (labels : labelled t.oas.oot y.plr) :
    s.KeepsAccounts k (t.setOas y) where
  toKeepsObjects := h.same (by simp [State.objects, table, order])
  plr _ := (plrLaw_iff _).2 ⟨columns, by simpa [table] using labels⟩

/-- With the PLR emptied its law holds. -/
theorem emptied_accounts {y : Oas} (h : s.KeepsObjects k t) (table : y.oot = t.oas.oot)
    (order : y.closingOrder = t.oas.closingOrder) (empty : y.plr = []) : s.KeepsAccounts k (t.setOas y) :=
  replaced_accounts h table order (by simp [inColumns, empty]) (by simp [labelled, empty])

theorem closeAllRequest_accounts (h : s.KeepsAccounts k t) : s.KeepsAccounts k (closeAllRequest t) := by
  have closed : s.KeepsObjects k (closeAllObjects t) := closeAllObjects_objects h.toKeepsObjects
  unfold closeAllRequest
  generalize closeAllObjects t = u at closed ⊢
  exact emptied_accounts closed rfl rfl rfl

theorem takeCloseAll_accounts (h : s.KeepsAccounts k t) : s.KeepsAccounts k (takeCloseAll t) :=
  ite_accounts (closeAllRequest_accounts h) h

/-! ## Lost lines (R59, R60) -/

theorem applyLostLine_accounts (h : s.KeepsAccounts k t) : s.KeepsAccounts k (applyLostLine t) := by
  have counted : s.KeepsAccounts k (t.setOas { t.oas with lostRun := min 3 (t.oas.lostRun + 1) }) := h.same rfl
  have gapped : AlikeTables t.oas.oot (t.oas.oot.map OotSlot.gapped) :=
    alike_map (fun x => by cases x <;> exact ⟨rfl, rfl, id⟩) rfl
  unfold applyLostLine
  refine ite_accounts (bump_accounts (retable_accounts counted gapped rfl rfl)) ?_
  have closed := closeAllObjects_objects counted.toKeepsObjects
  generalize closeAllObjects _ = u at closed ⊢
  exact emptied_accounts closed rfl rfl rfl

theorem applyLostLines_accounts (h : s.KeepsAccounts k t) : s.KeepsAccounts k (applyLostLines n t) := by
  induction n generalizing t with
  | zero => exact h
  | succ n ih => exact ih (applyLostLine_accounts h)

/-! ## The end of a line (R62, R63, R69, R70) -/

theorem alike_truncate (overflow : Bool) (runs : List PlrRun) (t : State) :
    AlikeTables t.oas.oot (truncate overflow runs t).oas.oot := by
  cases overflow with
  | false => exact ⟨rfl, fun _ => .refl _⟩
  | true =>
    refine ⟨length_mapFrom _ _ _, fun i => ?_⟩
    simp only [truncate, if_true, State.setOas_oas, List.getD_eq_getElem?_getD, getElem?_mapFrom]
    cases t.oas.oot[i]? with
    | none => exact .refl _
    | some x =>
      cases x with
      | free => exact .refl _
      | closing o => exact .refl _
      | opened o =>
        simp only [Option.map_some, Option.getD_some]
        split
        · exact ⟨rfl, rfl, id⟩
        · exact .refl _

theorem truncate_links (h : s.Links k t runs) : s.Links k (truncate overflow runs t) runs := by
  refine ⟨?_, labelled_of_alike (alike_truncate overflow runs t) h.labels⟩
  have cut := retable_objects h.toKeepsObjects (alike_truncate overflow runs t) (y := (truncate overflow runs t).oas)
    (by rw [truncate_oas])
  cases overflow with
  | false => exact h.toKeepsObjects
  | true => exact cut

/-- The slot of a run that keeps its label stays OPEN: a run of the line joined its object, and the object has not
reached max_object_lines (R63, R69, R70). -/
theorem labelled_newPlr (h : labelled t.oas.oot runs) :
    labelled (closings (endRule t.cmu.config runs) 96 t).oas.oot (newPlr runs t) := by
  intro p mem i here
  obtain ⟨q, linked, rfl⟩ := List.mem_map.1 mem
  cases label : q.label with
  | none => simp [label] at here
  | some j =>
    simp only [label] at here
    split at here
    next => cases here
    next short =>
      obtain rfl : j = i := Option.some.inj (label.symm.trans here)
      obtain ⟨o, opened⟩ := Option.isSome_iff_exists.1 (isOpen_iff_openObject.1 (h q linked j label))
      have join : joined runs j = true := List.any_eq_true.2 ⟨q, linked, by simp [label]⟩
      have below : t.cmu.config.reachedBy o = false := by
        simpa [oversized, opened, join, Configuration.reachedBy] using short
      have stays : endRule t.cmu.config runs j o = none := by
        rw [endRule_of_joined _ join, below]
        rfl
      rw [isOpen_iff_openObject, openObject_closings, opened]
      split
      · simp [Option.filter, stays]
      · rfl

theorem spans_newPlr (runs : List PlrRun) (t : State) :
    (newPlr runs t).map PlrRun.span = runs.map PlrRun.span := by
  rw [newPlr, List.map_map]
  refine List.map_congr_left fun p _ => ?_
  rw [Function.comp_apply]
  split
  · split <;> rfl
  · rfl

theorem endLine_accounts (h : s.Links k t runs) (columns : inColumns runs) :
    s.KeepsAccounts k (endLine overflow runs t) := by
  have cut := truncate_links (overflow := overflow) h
  have labels := labelled_newPlr cut.labels
  have config : (truncate overflow runs t).cmu = t.cmu := by simp
  rw [config] at labels
  have closed := closings_objects (n := 96) (rule := endRule t.cmu.config runs) cut.toKeepsObjects
  rw [endLine_eq]
  generalize closings _ _ _ = u at closed labels ⊢
  exact replaced_accounts closed rfl rfl
    ((inColumns_iff_spans _).2 (spans_newPlr runs _ ▸ (inColumns_iff_spans runs).1 columns)) labels

/-! ## The line assembled (R57, R81) -/

theorem assembleLine_accounts (h : s.KeepsAccounts k t) : s.KeepsAccounts k (assembleLine l t) := by
  have begun : s.Links k (t.setOas { t.oas with lostRun := 0 }) [] := ⟨h.toKeepsObjects.same rfl, nofun⟩
  have linked := linkRuns_links (l := l) (full := false)
    (runs := (scanRuns t.cmu.config.windowFirst none l.classRow).take maxRuns)
    (fun r mem => whole_scanRuns (by simp) r (List.mem_of_mem_take mem)) begun
  have columns := inColumns_linkRuns (l := l) (full := false) (t := t.setOas { t.oas with lostRun := 0 })
    t.cmu.config.windowFirst l.classRow
  exact scrubLine_accounts (bump_accounts (endLine_accounts (bumpBy_links linked) columns))

theorem applyLine_accounts (h : s.KeepsAccounts k t) : s.KeepsAccounts k (applyLine l t) :=
  setOas_accounts (assembleLine_accounts (applyLostLines_accounts h)) rfl rfl rfl

/-! ## Ring and delivery (R21, R29, R30, R56, R58) -/

theorem emptyRing_accounts (h : s.KeepsAccounts k t) : s.KeepsAccounts k (emptyRing t) :=
  takeCloseAll_accounts (h.same rfl)

theorem takeRow_accounts {slot : RingSlot} (h : s.KeepsAccounts k t) : s.KeepsAccounts k (takeRow slot t) :=
  setOas_accounts (setLiu_accounts (countClassified_accounts h)) rfl rfl rfl

theorem takeSlot_accounts {slot : RingSlot} (h : s.KeepsAccounts k t) : s.KeepsAccounts k (takeSlot slot t) :=
  have signalled : s.KeepsAccounts k (lineBoundary t) := lineBoundary_accounts h
  ite_accounts (setLiu_accounts signalled)
    (ite_accounts (setLiu_accounts (applyLostLine_accounts (applyLostLines_accounts signalled)))
      (takeRow_accounts signalled))

theorem deliverSlot_accounts {slot : RingSlot} (h : s.KeepsAccounts k t) :
    s.KeepsAccounts k (deliverSlot slot t) := by
  unfold deliverSlot
  split
  · exact takeSlot_accounts h
  · exact captureSlot_accounts (h.same rfl)
  · exact h.same rfl
  · exact h
  · exact h

theorem deliverN_accounts (h : s.KeepsAccounts k t) : s.KeepsAccounts k (deliverN n t) := by
  induction n generalizing t with
  | zero => exact h
  | succ n ih =>
    refine ih ?_
    unfold deliverOne
    split
    · exact deliverSlot_accounts h
    · exact h

theorem deliver_accounts (h : s.KeepsAccounts k t) : s.KeepsAccounts k (deliver t) := deliverN_accounts h

/-! ## Synchronisation (R26 ~ R36, R49) -/

theorem leaveLocked_accounts {before : SyncState} (h : s.KeepsAccounts k t) :
    s.KeepsAccounts k (leaveLocked before t) :=
  ite_accounts (endCalibrate_accounts h) h

theorem requestCloseAll_accounts (h : s.KeepsAccounts k t) : s.KeepsAccounts k (requestCloseAll t) :=
  ite_accounts (takeCloseAll_accounts (h.same rfl)) h

theorem enterHunt1_accounts {cause : HuntCause} {offset : LineNo} (h : s.KeepsAccounts k t) :
    s.KeepsAccounts k (enterHunt1 cause offset t) :=
  leaveLocked_accounts (notice_accounts (requestCloseAll_accounts (h.same rfl)))

theorem syncLoss_accounts (h : s.KeepsAccounts k t) : s.KeepsAccounts k (syncLoss t) := by
  unfold syncLoss
  split
  · exact ite_accounts (enterHunt1_accounts h) (h.same rfl)
  · exact h.same rfl
  · exact h.same rfl
  · exact h

theorem syncPartial_accounts (h : s.KeepsAccounts k t) : s.KeepsAccounts k (syncPartial t) := by
  unfold syncPartial
  split
  · exact h
  · exact h.same rfl
  · exact h.same rfl
  · exact h

theorem huntComplete_accounts (h : s.KeepsAccounts k t) : s.KeepsAccounts k (huntComplete t) :=
  ite_accounts (notice_accounts (h.same rfl)) (h.same rfl)

theorem syncComplete_accounts (h : s.KeepsAccounts k t) : s.KeepsAccounts k (syncComplete t) := by
  unfold syncComplete
  split
  · exact h.same rfl
  · exact huntComplete_accounts h
  · exact huntComplete_accounts h
  · exact h

theorem enterFailed_accounts (h : s.KeepsAccounts k t) : s.KeepsAccounts k (enterFailed t) :=
  raiseCause_accounts (notice_accounts (emptyRing_accounts (h.same rfl)))

theorem huntTimeout_accounts (h : s.KeepsAccounts k t) : s.KeepsAccounts k (huntTimeout t) := by
  unfold huntTimeout
  refine ite_accounts ?_ h
  split
  · exact notice_accounts (h.same rfl)
  · exact enterFailed_accounts h
  · exact h
  · exact h

theorem huntAdvance_accounts (h : s.KeepsAccounts k t) : s.KeepsAccounts k (huntAdvance t) := by
  unfold huntAdvance
  split
  · exact huntTimeout_accounts (h.same rfl)
  · exact huntTimeout_accounts (h.same rfl)
  · exact h
  · exact h

/-! ## Deadline, allocation, LINE frames (R22 ~ R28, R35) -/

theorem settle_accounts {x : RingSlot} (h : s.KeepsAccounts k t) : s.KeepsAccounts k (settle x t) :=
  ite_accounts (syncPartial_accounts (bump_accounts (h.same rfl))) (syncLoss_accounts (bump_accounts (h.same rfl)))

theorem settleOldest_accounts (h : s.KeepsAccounts k t) : s.KeepsAccounts k (settleOldest t) := by
  unfold settleOldest
  split
  · exact deliver_accounts (settle_accounts h)
  · exact h

theorem settleN_accounts (h : s.KeepsAccounts k t) : s.KeepsAccounts k (settleN n t) := by
  induction n generalizing t with
  | zero => exact h
  | succ n ih => exact ih (settleOldest_accounts h)

theorem allocate_accounts (h : s.KeepsAccounts k t) : s.KeepsAccounts k (allocate t) := by
  unfold allocate
  split
  · exact bump_accounts (h.same rfl)
  · exact h.same rfl

theorem intakeTrigger_accounts (h : s.KeepsAccounts k t) : s.KeepsAccounts k (intakeTrigger t) :=
  have settled : s.KeepsAccounts k (settleDue t) := settleN_accounts (h.same rfl)
  have hunted := ite_accounts settled (huntAdvance_accounts settled)
  ite_accounts (ite_accounts (allocate_accounts hunted) hunted) h

theorem fillSlot_accounts {part : List (Nat × Sample)} {x : RingSlot} (h : s.KeepsAccounts k t) :
    s.KeepsAccounts k (fillSlot part x t) :=
  have counted : s.KeepsAccounts k (bumpBy .duplicateColumns (duplicates part x.samples) t) := bumpBy_accounts h
  ite_accounts (deliver_accounts (syncComplete_accounts (counted.same rfl))) (counted.same rfl)

theorem matchFrame_accounts {m : LineNo} {part : List (Nat × Sample)} (h : s.KeepsAccounts k t) :
    s.KeepsAccounts k (matchFrame m part t) := by
  unfold matchFrame
  refine ite_accounts (syncLoss_accounts (bump_accounts h)) ?_
  split
  · exact fillSlot_accounts h
  · exact bump_accounts h

theorem intakeFrame_accounts {payload : List Byte} (h : s.KeepsAccounts k t) :
    s.KeepsAccounts k (intakeFrame payload t) :=
  ite_accounts (matchFrame_accounts (ite_accounts (h.same rfl) h)) h

/-! ## Completion of a line's assembly (R57, R76) -/

theorem assemblyCompletes_accounts (h : s.KeepsAccounts k t) : s.KeepsAccounts k (assemblyCompletes t) := by
  unfold assemblyCompletes
  split
  next => exact h
  next => exact deliver_accounts (setLiu_accounts (takeCloseAll_accounts (applyLine_accounts h)))

theorem abandonLine_accounts (h : s.KeepsAccounts k t) : s.KeepsAccounts k (abandonLine t) := by
  unfold abandonLine
  split
  · exact h
  · exact h.same rfl

theorem closeAllFirst_accounts (h : s.KeepsAccounts k t) : s.KeepsAccounts k (closeAllFirst t) :=
  ite_accounts (deliver_accounts (closeAllRequest_accounts (abandonLine_accounts h))) h

end Sys2Proof.Machine
end

section
/-! The laws through the changes of engine state, the belt and the resets (Machine/Engine, Belt, Reset). A command
that begins to execute takes the place left for its response. -/

namespace Sys2Proof.Machine

variable {s t : State} {k : Nat}

/-! ## FAULT entry, the drain, the end of an event (R172 ~ R176) -/

theorem endAborted_accounts (h : s.KeepsAccounts k t) : s.KeepsAccounts k (endAborted t) := by
  unfold endAborted
  split
  · exact h
  · split
    · exact endCalibrate_accounts h
    · exact endCommand_accounts (h.same rfl)
    · exact endCommand_accounts (h.same rfl)
    · exact abortTest_accounts h
    · exact endCommand_accounts h

theorem faultEffects_accounts {c : FaultCause} (h : s.KeepsAccounts k t) :
    s.KeepsAccounts k (faultEffects c t) := by
  have entered : s.KeepsAccounts k
      (t.setCmu { t.cmu with engine := .fault, cause := some c, causes := t.cmu.causes.erase c }) := h.same rfl
  exact setLiu_accounts
    (emptyRing_accounts (flush_accounts (abandonVerdicts_accounts (emptyAssembler_accounts entered))))

theorem enterFault_accounts {c : FaultCause} (h : s.KeepsAccounts k t) : s.KeepsAccounts k (enterFault c t) :=
  notice_accounts (endAborted_accounts (faultEffects_accounts h))

theorem takeLater_accounts {c : FaultCause} (h : s.KeepsAccounts k t) : s.KeepsAccounts k (takeLater c t) :=
  ite_accounts (bump_accounts (h.same rfl)) h

theorem takeCause_accounts {c : FaultCause} (h : s.KeepsAccounts k t) : s.KeepsAccounts k (takeCause c t) :=
  ite_accounts (enterFault_accounts h) h

theorem runOut_accounts (h : s.KeepsAccounts k t) : s.KeepsAccounts k (runOut t) :=
  endCommand_accounts (h.same rfl)

theorem drainRunsOut_accounts (h : s.KeepsAccounts k t) : s.KeepsAccounts k (drainRunsOut t) :=
  ite_accounts (runOut_accounts h) h

theorem finish_accounts (h : s.KeepsAccounts k t) : s.KeepsAccounts k (finish t) := by
  unfold finish
  split
  · split
    · exact enterFault_accounts h
    · exact h
  · split
    · exact ite_accounts (runOut_accounts h) h
    · exact ite_accounts h (enterFault_accounts h)
    · exact h
  · exact h
  · exact h
  · exact h

/-! ## START, STOP, ABORT, CLEAR_FAULT, CONFIGURE (R168 ~ R177) -/

theorem startSorting_accounts (h : s.KeepsAccounts k t) : s.KeepsAccounts k (startSorting t) := by
  have sorting : s.KeepsAccounts k (t.setEngine .sorting) := h.same rfl
  exact deliver_accounts (emptied_accounts sorting.toKeepsObjects rfl rfl rfl)

theorem stopSorting_accounts {tag : Word16} (h : s.KeepsAccounts (k + 1) t) :
    s.KeepsAccounts k (stopSorting tag t) := by
  have draining : s.KeepsAccounts (k + 1) (t.setEngine .draining) := h.same rfl
  exact deliver_accounts
    (setOas_accounts (abandonOpen_accounts (abandonLine_accounts (beginCommand_accounts draining))) rfl rfl rfl)

theorem flushDrain_accounts (h : s.KeepsAccounts k t) : s.KeepsAccounts k (flushDrain t) :=
  setCmu_accounts (flush_accounts (abandonVerdicts_accounts (abandonClosing_accounts h))) rfl

theorem abortExecuting_accounts (h : s.KeepsAccounts k t) : s.KeepsAccounts k (abortExecuting t) :=
  ite_accounts (endAborted_accounts (flushDrain_accounts h)) (endAborted_accounts h)

theorem clearFault_accounts (h : s.KeepsAccounts k t) : s.KeepsAccounts k (clearFault t) := by
  have cleared : s.KeepsAccounts k (bumpBy .faultsWhileFaulted t.cmu.causes.length
      (t.setCmu { t.cmu with engine := .standby, cause := none, causes := [] })) := bumpBy_accounts (h.same rfl)
  exact enterHunt1_accounts (handOver_accounts (cleared.same rfl))

theorem configure_accounts {new : Configuration} (h : s.KeepsAccounts k t) : s.KeepsAccounts k (configure new t) := by
  have belt : s.KeepsAccounts k (configureBelt t.cmu.config new (t.setCmu { t.cmu with config := new })) :=
    ite_accounts (h.same rfl) (h.same rfl)
  have debt : s.KeepsAccounts k
      (configureDebt new (configureBelt t.cmu.config new (t.setCmu { t.cmu with config := new }))) :=
    ite_accounts (notice_accounts (bump_accounts (belt.same rfl))) belt
  have atIntake := ite_accounts (c := t.cmu.config.window = new.window) debt (emptyRing_accounts debt)
  exact ite_accounts atIntake (atIntake.same rfl)

/-! ## Index check and line triggers (R9 ~ R15) -/

theorem mismatch_accounts {counted : Option Nat} (h : s.KeepsAccounts k t) :
    s.KeepsAccounts k (mismatch counted t) := by
  have slipped : s.KeepsAccounts k (notice (.encoderSlip counted (t.bpu.mismatchRun + 1)) (bump .encoderSlips t)) :=
    notice_accounts (bump_accounts h)
  have faulted := raiseCause_accounts (c := .encoderFault)
    (notice_accounts (n := .encoderFault counted (t.bpu.mismatchRun + 1)) (bump_accounts (c := .encoderFaults) slipped))
  exact ite_accounts (faulted.same rfl) (slipped.same rfl)

theorem missingIndexTest_accounts (h : s.KeepsAccounts k t) : s.KeepsAccounts k (missingIndexTest t) :=
  have counted : s.KeepsAccounts k (mismatch none t) := mismatch_accounts h
  ite_accounts (counted.same rfl) h

theorem indexEdge_accounts (h : s.KeepsAccounts k t) : s.KeepsAccounts k (indexEdge t) := by
  refine ite_accounts ?_ (ite_accounts (h.same rfl) h)
  have compared := ite_accounts (c := indexMatches t.cmu.config t.bpu.indexAdvances = true)
    (show s.KeepsAccounts k (t.setBpu { t.bpu with mismatchRun := 0 }) from h.same rfl)
    (mismatch_accounts (counted := some t.bpu.indexAdvances) h)
  exact compared.same rfl

theorem lineTriggerTest_accounts (h : s.KeepsAccounts k t) : s.KeepsAccounts k (lineTriggerTest t) :=
  ite_accounts (intakeTrigger_accounts (bump_accounts (h.same rfl))) h

/-! ## Travel and debt (R5, R6) -/

theorem advance_accounts (h : s.KeepsAccounts k t) : s.KeepsAccounts k (advance t) :=
  ejectionAdvance_accounts (lineTriggerTest_accounts (missingIndexTest_accounts (h.same rfl)))

theorem reverseEdge_accounts (h : s.KeepsAccounts k t) : s.KeepsAccounts k (reverseEdge t) :=
  ite_accounts
    (ite_accounts (raiseCause_accounts (notice_accounts (bump_accounts (h.same rfl)))) (h.same rfl)) h

theorem decodePair_accounts {old new : Bool × Bool} (h : s.KeepsAccounts k t) :
    s.KeepsAccounts k (decodePair old new t) :=
  ite_accounts h (ite_accounts (bump_accounts h)
    (ite_accounts (ite_accounts (h.same rfl) (advance_accounts h)) (reverseEdge_accounts h)))

/-! ## Accepted levels and input changes (R3, R4) -/

theorem acceptA_accounts {level : Bool} (h : s.KeepsAccounts k t) : s.KeepsAccounts k (acceptA level t) :=
  ite_accounts (h.same rfl) h

theorem acceptB_accounts {level : Bool} (h : s.KeepsAccounts k t) : s.KeepsAccounts k (acceptB level t) :=
  ite_accounts (h.same rfl) h

theorem acceptZ_accounts {level : Bool} (h : s.KeepsAccounts k t) : s.KeepsAccounts k (acceptZ level t) :=
  ite_accounts (h.same rfl) h

theorem beltEvent_accounts {acc : Accepted} (h : s.KeepsAccounts k t) :
    s.KeepsAccounts k (beltEvent (acceptLevels acc) t) := by
  refine finish_accounts (handOver_accounts ?_)
  cases acc with
  | a level => exact decodePair_accounts (acceptA_accounts h)
  | b level => exact decodePair_accounts (acceptB_accounts h)
  | ab levelA levelB => exact decodePair_accounts (acceptB_accounts (acceptA_accounts h))
  | z level => exact ite_accounts (indexEdge_accounts (acceptZ_accounts h)) (acceptZ_accounts h)

theorem acceptAtOnce_accounts {acc : Accepted} (h : s.KeepsAccounts k t) :
    s.KeepsAccounts k (acceptAtOnce acc t) :=
  ite_accounts (beltEvent_accounts h) h

theorem seeA_accounts {level : Bool} (h : s.KeepsAccounts k t) : s.KeepsAccounts k (seeA level t) :=
  ite_accounts h (ite_accounts (h.same rfl) (acceptAtOnce_accounts (h.same rfl)))

theorem seeB_accounts {level : Bool} (h : s.KeepsAccounts k t) : s.KeepsAccounts k (seeB level t) :=
  ite_accounts h (ite_accounts (h.same rfl) (acceptAtOnce_accounts (h.same rfl)))

theorem seeZ_accounts {level : Bool} (h : s.KeepsAccounts k t) : s.KeepsAccounts k (seeZ level t) :=
  ite_accounts h (ite_accounts (h.same rfl) (acceptAtOnce_accounts (h.same rfl)))

theorem stallExpires_accounts (h : s.KeepsAccounts k t) : s.KeepsAccounts k (stallExpires t) := by
  unfold stallExpires
  split
  · exact h
  · exact h.same rfl

/-! ## Resets (R82, R99, R178, R198) -/

/-- A reset leaves nothing in flight, nothing queued and nothing executing: what the laws read is as in the state
after power-on. -/
theorem resetBlocks_accounts {tbs : Tbs} {config : Configuration} {lki : Lki} :
    s.KeepsAccounts 0 (resetBlocks tbs config lki t) where
  account _ := reset_objectLaw
  records _ := reset_recordLaw
  closing _ := reset_closingLaw
  queue _ := reset_queueLaw
  plr _ := reset_plrLaw

end Sys2Proof.Machine
end

section
/-! The laws through the commands and the link (Machine/Commands, Link), and through every row of the table to the
step. A command is received while the queue holds fewer than 26 responses, and gives one: at once, or at its end. -/

namespace Sys2Proof.Machine

variable {s t : State} {k : Nat}

/-! ## What an accepted command does (R129 ~ R131, R149 ~ R177) -/

theorem answer_accounts {c : Command} {tag : Word16} {status : Status} {detail : Nat} {data : List Byte}
    (h : s.KeepsAccounts (k + 1) t) : s.KeepsAccounts k (answer c tag status detail data t) :=
  respond_accounts h

/-- The counters cleared leave the objects in flight as objects opened (R197). -/
theorem clearCounters_accounts (h : s.KeepsAccounts k t) : s.KeepsAccounts k (clearCounters t) where
  account _ := by
    obtain ⟨-, -, length⟩ := clearCounters_rpu t
    refine ⟨length, ?_⟩
    have flight : (clearCounters t).inFlight = t.inFlight := rfl
    simp [clearCounters_counter, flight]
  records := h.records
  closing := h.closing
  queue := h.queue
  plr := h.plr

theorem doAbort_accounts {tag : Word16} (h : s.KeepsAccounts (k + 1) t) : s.KeepsAccounts k (doAbort tag t) := by
  unfold doAbort
  split
  · exact answer_accounts h
  · exact answer_accounts (abortExecuting_accounts h)

theorem doBlockMark_accounts {tag : Word16} {p : List Byte} (h : s.KeepsAccounts (k + 1) t) :
    s.KeepsAccounts k (doBlockMark tag p t) :=
  ite_accounts (answer_accounts h)
    (ite_accounts (ite_accounts (answer_accounts (h.same rfl)) (answer_accounts (h.same rfl)))
      (answer_accounts (h.same rfl)))

theorem doBankSwap_accounts {tag : Word16} {p : List Byte} (h : s.KeepsAccounts (k + 1) t) :
    s.KeepsAccounts k (doBankSwap tag p t) := by
  unfold doBankSwap
  split
  · exact answer_accounts h
  · split
    · exact answer_accounts h
    · exact ite_accounts (beginCommand_accounts (h.same rfl)) (answer_accounts (exchangeBanks_accounts h))

theorem doCalibrate_accounts {tag : Word16} (h : s.KeepsAccounts (k + 1) t) :
    s.KeepsAccounts k (doCalibrate tag t) :=
  ite_accounts (ite_accounts (beginCommand_accounts (h.same rfl)) (answer_accounts h)) (answer_accounts h)

theorem doStart_accounts {tag : Word16} (h : s.KeepsAccounts (k + 1) t) : s.KeepsAccounts k (doStart tag t) := by
  unfold doStart
  split
  · exact answer_accounts h
  · exact ite_accounts (ite_accounts
      (ite_accounts (answer_accounts (startSorting_accounts h)) (answer_accounts h)) (answer_accounts h))
      (answer_accounts h)

theorem enableIfCool_accounts {tag : Word16} {i : Nat} (h : s.KeepsAccounts (k + 1) t) :
    s.KeepsAccounts k (enableIfCool tag i t) :=
  ite_accounts (answer_accounts (enableValve_accounts h)) (answer_accounts h)

theorem doEnable_accounts {tag : Word16} {i : Nat} (h : s.KeepsAccounts (k + 1) t) :
    s.KeepsAccounts k (doEnable tag i t) := by
  unfold doEnable
  split
  · exact answer_accounts h
  · exact answer_accounts h
  · exact answer_accounts h
  · exact enableIfCool_accounts h
  · exact enableIfCool_accounts h
  · exact ite_accounts (answer_accounts h) (enableIfCool_accounts h)

theorem doValveTest_accounts {tag : Word16} {p : List Byte} (h : s.KeepsAccounts (k + 1) t) :
    s.KeepsAccounts k (doValveTest tag p t) :=
  ite_accounts (ite_accounts (onTest_accounts (beginCommand_accounts (h.same rfl))) (answer_accounts h))
    (answer_accounts h)

/-! ## Reception of a command (R164, R182, R194) -/

theorem acceptCommand_accounts {c : Command} {tag : Word16} {p : List Byte} (h : s.KeepsAccounts (k + 1) t) :
    s.KeepsAccounts k (acceptCommand c tag p t) := by
  cases c with
  | nop => exact answer_accounts h
  | readStatus => exact answer_accounts h
  | readCounters => exact answer_accounts (ite_accounts (clearCounters_accounts h) h)
  | readConfig => exact answer_accounts h
  | blockRead => exact answer_accounts h
  | abort => exact doAbort_accounts h
  | resync => exact answer_accounts (enterHunt1_accounts h)
  | configure => exact answer_accounts (configure_accounts h)
  | cctWrite => exact ite_accounts (answer_accounts (h.same rfl)) (answer_accounts h)
  | cctFill => exact answer_accounts (h.same rfl)
  | nbtWrite => exact answer_accounts (h.same rfl)
  | rrtWrite => exact answer_accounts (h.same rfl)
  | vmtWrite => exact answer_accounts (h.same rfl)
  | ccalWrite => exact answer_accounts (h.same rfl)
  | blockMark => exact doBlockMark_accounts h
  | bankCopy => exact beginCommand_accounts (h.same rfl)
  | bankSwap => exact doBankSwap_accounts h
  | calibrate => exact doCalibrate_accounts h
  | start => exact doStart_accounts h
  | stop => exact stopSorting_accounts h
  | clearFault => exact answer_accounts (clearFault_accounts h)
  | valveControl => exact ite_accounts (doEnable_accounts h) (answer_accounts (disableValve_accounts h))
  | valveTest => exact doValveTest_accounts h

theorem receiveCommand_accounts {tag : Word16} {payload : List Byte} (h : s.KeepsAccounts (k + 1) t) :
    s.KeepsAccounts k (receiveCommand tag payload t) := by
  unfold receiveCommand
  split
  · exact respond_accounts h
  · split
    · exact respond_accounts h
    · refine ite_accounts (answer_accounts h) (ite_accounts (answer_accounts h) ?_)
      split
      · exact answer_accounts h
      · split
        · exact answer_accounts h
        · exact acceptCommand_accounts h

/-- An open gate leaves room for a response (R194). -/
theorem commandFrame_accounts {hdr : Header} {payload : List Byte} (h : s.KeepsAccounts 0 t) :
    s.KeepsAccounts 0 (commandFrame hdr payload t) := by
  unfold commandFrame
  refine ite_accounts ?_ h
  split
  next => exact bump_accounts h
  next opened =>
    refine receiveCommand_accounts ⟨⟨h.account, h.records, h.closing, fun law => ?_⟩, h.plr⟩
    obtain ⟨general, _⟩ := h.queue law
    have few : t.rpu.responses < 26 := by simpa [gateClosed] using opened
    have owed : t.cmu.owed ≤ 1 := by unfold Cmu.owed; split <;> decide
    exact ⟨general, by omega⟩

/-! ## The link (R179 ~ R190) -/

theorem forward_accounts {f : Frame} (h : s.KeepsAccounts k t) : s.KeepsAccounts k (forward f t) := by
  unfold forward
  split
  · exact h
  · exact ite_accounts (doKick_accounts (h.same rfl)) (bump_accounts h)

theorem enumerate_accounts {n : Nat} (h : s.KeepsAccounts k t) : s.KeepsAccounts k (enumerate n t) := by
  unfold enumerate
  split
  · exact ite_accounts (enterHunt1_accounts (h.same rfl)) h
  · exact ite_accounts (ite_accounts h (raiseCause_accounts (notice_accounts (h.same rfl)))) (notice_accounts h)

theorem localAction_accounts {f : Frame} (h : s.KeepsAccounts 0 t) : s.KeepsAccounts 0 (localAction f t) :=
  ite_accounts (intakeFrame_accounts h)
    (ite_accounts (commandFrame_accounts h)
      (ite_accounts (ite_accounts (enumerate_accounts h) h)
        (ite_accounts (ite_accounts resetBlocks_accounts h)
          (ite_accounts (ite_accounts (bump_accounts (h.same rfl)) h) h))))

theorem dropDi_accounts (h : s.KeepsAccounts k t) : s.KeepsAccounts k (dropDi t) := bump_accounts (h.same rfl)

theorem receiveDi_accounts {f : Frame} (h : s.KeepsAccounts 0 t) : s.KeepsAccounts 0 (receiveDi f t) :=
  have arrived : s.KeepsAccounts 0 (arrive t) := doKick_accounts (h.same rfl)
  ite_accounts (finish_accounts (localAction_accounts (forward_accounts arrived))) (dropDi_accounts h)

theorem setPauseDue_accounts (h : s.KeepsAccounts k t) : s.KeepsAccounts k (setPauseDue t) :=
  doKick_accounts (h.same rfl)

theorem receiveRi_accounts {f : Frame} (h : s.KeepsAccounts k t) : s.KeepsAccounts k (receiveRi f t) :=
  have joined : s.KeepsAccounts k (t.setLki { t.lki with passBuffer := t.lki.passBuffer ++ [f] }) := h.same rfl
  ite_accounts
    (ite_accounts (roKick_accounts (ite_accounts (setPauseDue_accounts joined) joined)) (bump_accounts h))
    (bump_accounts h)

theorem receiveNotGood_accounts {lane : Lane} {bytes : List Byte} {cut : Bool} (h : s.KeepsAccounts 0 t) :
    s.KeepsAccounts 0 (receiveNotGood lane bytes cut t) := by
  unfold receiveNotGood
  split
  · exact receiveDi_accounts h
  · exact receiveRi_accounts h
  · exact dropDi_accounts h
  · exact bump_accounts h

theorem cutOff_accounts (h : s.KeepsAccounts k t) : s.KeepsAccounts k (cutOff t) :=
  ite_accounts (bump_accounts (h.same rfl)) h

theorem silenceExpires_accounts (h : s.KeepsAccounts k t) : s.KeepsAccounts k (silenceExpires t) :=
  have cut : s.KeepsAccounts k (cutOff (t.setLki { t.lki with silence := 10000 })) := cutOff_accounts (h.same rfl)
  ite_accounts (raiseCause_accounts (notice_accounts (bump_accounts (cut.same rfl)))) cut

theorem receiveSymbols_accounts {sym : Symbols} (h : s.KeepsAccounts k t) :
    s.KeepsAccounts k (receiveSymbols sym t) := by
  have heard : s.KeepsAccounts k (t.setLki { t.lki with silence := 0 }) := h.same rfl
  cases sym with
  | idle => exact heard
  | frameGoesOn => exact heard
  | frameBegins => exact (cutOff_accounts heard).same rfl

theorem pauseExpires_accounts (h : s.KeepsAccounts k t) : s.KeepsAccounts k (pauseExpires t) := by
  unfold pauseExpires
  split
  · exact h
  · exact roKick_accounts (h.same rfl)

theorem repeatExpires_accounts (h : s.KeepsAccounts k t) : s.KeepsAccounts k (repeatExpires t) := by
  unfold repeatExpires
  split
  · exact h
  · exact ite_accounts (setPauseDue_accounts h) (h.same rfl)

/-! ## Every row of the table -/

/-- What a step makes of a state that keeps the laws keeps them. -/
theorem of_next_accounts {u : State} (h : s.KeepsAccounts 0 u) :
    ∀ v, (Host.Outcome.next u : Host.Outcome State Fault Refusal) = .next v → s.KeepsAccounts 0 v := by
  rintro v ⟨⟩
  exact h

/-- A command that stops on an operand out of range makes no state. -/
theorem of_ite_fault_accounts {c : Prop} [Decidable c] {u : State} {r : Fault} (h : s.KeepsAccounts 0 u) :
    ∀ v, (if c then .next u else .fault r : Host.Outcome State Fault Refusal) = .next v →
      s.KeepsAccounts 0 v := by
  intro v hv
  split at hv
  · exact of_next_accounts h v hv
  · cases hv

/-- Every command keeps the laws. The rows that are frames on DI, the commands of section 9.4 among them, are one
reception. -/
theorem exec_accounts (c : Instr) (s : State) : ∀ t, exec c s = .next t → s.KeepsAccounts 0 t := by
  have h := State.KeepsAccounts.refl s
  cases c with
  | encoderEdgeAccepted acc => exact of_next_accounts (beltEvent_accounts h)
  | stallTimerExpiry => exact of_next_accounts (finish_accounts (handOver_accounts (stallExpires_accounts h)))
  | missingIndex => exact of_next_accounts (finish_accounts (missingIndexTest_accounts h))
  | lineTrigger => exact of_next_accounts (finish_accounts (lineTriggerTest_accounts h))
  | slotDue => exact of_next_accounts (finish_accounts (settleOldest_accounts h))
  | huntTimeout => exact of_next_accounts (finish_accounts (huntTimeout_accounts h))
  | slotDelivery => exact of_next_accounts (finish_accounts (deliver_accounts h))
  | calibrateCompletion => exact of_next_accounts (calibrateIfDone_accounts h)
  | lineAssemblyCompletion => exact of_next_accounts (finish_accounts (assemblyCompletes_accounts h))
  | closeAll => exact of_next_accounts (finish_accounts (closeAllFirst_accounts h))
  | closingToVq => exact of_next_accounts (finish_accounts (vduTake_accounts (closingMove_accounts h)))
  | vqTake => exact of_next_accounts (finish_accounts (pump_accounts (vduTake_accounts h)))
  | evaluationCompletion => exact of_next_accounts (finish_accounts (evaluationCompletes_accounts h))
  | ejectionRequest src => exact of_next_accounts (finish_accounts (takeFrom_accounts h))
  | holdoffExpiry valve => exact of_ite_fault_accounts (holdoffExpires_accounts h)
  | thermalTick => exact of_next_accounts (thermalTick_accounts h)
  | valveTrip valve => exact of_ite_fault_accounts (trip_accounts h)
  | valveTestExpiry => exact of_next_accounts (endTestOff_accounts h)
  | imageStart => exact of_next_accounts (ite_accounts (h.same rfl) h)
  | imageTransmissionEnd => exact of_next_accounts (ite_accounts (h.same rfl) h)
  | statusFrame bytes => exact of_next_accounts (statusArrives_accounts h)
  | answerWindowClose => exact of_next_accounts (ite_accounts (finish_accounts (windowCloses_accounts h)) h)
  | bankCopyStep => exact of_next_accounts (copyStep_accounts h)
  | swapAtQuietPoint => exact of_next_accounts (swapAtQuietPoint_accounts h)
  | swapForced => exact of_next_accounts (swapAtDeadline_accounts h)
  | scrubCheck => exact of_next_accounts (scrubIfDue_accounts h)
  | drainRunOut => exact of_next_accounts (drainRunsOut_accounts h)
  | faultEntry cause => exact of_next_accounts (takeCause_accounts h)
  | laterCause cause => exact of_next_accounts (takeLater_accounts h)
  | frameNotGood lane bytes cut => exact of_next_accounts (receiveNotGood_accounts h)
  | pauseTimerExpiry => exact of_next_accounts (pauseExpires_accounts h)
  | passBufferEntry f => exact of_next_accounts (receiveRi_accounts h)
  | pauseRepeatExpiry => exact of_next_accounts (repeatExpires_accounts h)
  | doFrameBoundary => exact of_next_accounts (doKick_accounts (h.same rfl))
  | roTransmissionEnd => exact of_next_accounts (roKick_accounts (h.same rfl))
  | silenceTimerExpiry => exact of_next_accounts (finish_accounts (silenceExpires_accounts h))
  | powerOnReset => exact of_next_accounts resetBlocks_accounts
  | encoderInputChange ch level =>
    cases ch with
    | a => exact of_next_accounts (seeA_accounts h)
    | b => exact of_next_accounts (seeB_accounts h)
    | z => exact of_next_accounts (seeZ_accounts h)
  | diSymbolReceived sym => exact of_next_accounts (receiveSymbols_accounts h)
  | cctEntryChange name index code => exact of_ite_fault_accounts (h.same rfl)
  | _ => exact of_next_accounts (receiveDi_accounts h)

/-- Every step keeps the laws: a command runs on the state with the queue's rest, of which they read the same, and
the passing of 0.1 us changes nothing they read. -/
theorem step_accounts {s t : State} (h : step s = .next t) : s.KeepsAccounts 0 t := by
  unfold step at h
  split at h
  next =>
    have passed : s.KeepsAccounts 0 (tick s) := (State.KeepsAccounts.refl s).same rfl
    exact of_next_accounts passed t h
  next c rest _ =>
    obtain ⟨⟨account, records, closing, queue⟩, plr⟩ := exec_accounts c (s.setPending rest) t h
    exact ⟨⟨account, records, closing, queue⟩, plr⟩

/-- Settles O56: a step is a chain of operations that each carry `State.KeepsAccounts` on. -/
theorem stepKeepsTheObjectLaw : Obligations.StepKeepsTheObjectLaw := by
  unfold Obligations.StepKeepsTheObjectLaw
  exact ⟨fun _ _ law hs => (step_accounts hs).account law, fun _ _ law hs => (step_accounts hs).records law,
    fun _ _ law hs => (step_accounts hs).closing law, fun _ _ law hs => (step_accounts hs).plr law⟩

/-- Settles O57: a step ends with no response left to be queued; and the frames of the queue are the 26 at most in
general places, with 2 responses and 4 notices at most in their own. -/
theorem stepKeepsTheReportQueueLaw : Obligations.StepKeepsTheReportQueueLaw := by
  unfold Obligations.StepKeepsTheReportQueueLaw
  refine ⟨fun _ _ law hs => (step_accounts hs).queue law, fun s law => ?_⟩
  obtain ⟨general, -⟩ := law
  have frames := length_rq s.rpu
  unfold Rpu.generalUsed at general frames
  omega

end Sys2Proof.Machine
end
